-- ==== Sys2Proof/Word.lean ====
section
/-! DEFINITION. The word types of the core (00_scope.md R15, R17) and the plainest arithmetic on them. -/

namespace Sys2Proof

/-- A general register, an address, an ARM instruction: 32 bits (R17). -/
abbrev Word := BitVec 32
/-- A Thumb instruction, a halfword in memory: 16 bits (R17). -/
abbrev Half := BitVec 16
/-- A byte of memory (R17). -/
abbrev Byte := BitVec 8
/-- The accumulator acc0: 40 bits (R17). -/
abbrev Acc := BitVec 40
/-- A register number of an ARM instruction (R16). -/
abbrev Reg := BitVec 4
/-- A register number of a Thumb instruction, R0 to R7 (30_encoding.md R300). -/
abbrev LowReg := BitVec 3

/-- A Thumb low register as a register number (46_thumb.md, notation). -/
def LowReg.reg (r : LowReg) : Reg := r.zeroExtend 4

/-- A high register of Thumb format 5: the H bit above the 3-bit field (30_encoding.md R300). -/
def highReg (h : Bool) (r : LowReg) : Reg := BitVec.ofBool h ++ r

end Sys2Proof
end

