-- ==== Sys2Proof/Config.lean ====
section
/-! DEFINITION. What the spec leaves open as a parameter (92_eei_decisions.md) and the free values: constants without a
body, so that nothing can be proved of what they are.  Log entries 11, 15, 57, 58. -/

namespace Sys2Proof.Config

/-- The free values (93_implementation_defined.md, treatment "any value"): the k-th draw of the machine is
`freeWord k`.  Log entry 11. -/
opaque freeWord : Nat → BitVec 32

/-- The free amounts: how many core clock cycles a step takes (60_exceptions.md R730) and how many cycles a duration
event holds (R731).  Log entry 40. -/
opaque freeNat : Nat → Nat

/-- `StorePcOffset` is 12 and not 8 (92_eei_decisions.md D12).  Log entry 15. -/
opaque storesPcPlus12 : Bool

/-- Bits 31:1 of `JTAG_IDCODE`; bit 0 is 1 (92_eei_decisions.md D5).  Log entry 58. -/
opaque jtagIdcodeHigh : BitVec 31

/-- `CoreRevision`, 0 on the first stepping (92_eei_decisions.md D7).  Log entry 57. -/
opaque coreRevision : BitVec 3

/-- `ProductRevision`, 0 on the first stepping (92_eei_decisions.md D7).  Log entry 57. -/
opaque productRevision : BitVec 4

end Sys2Proof.Config
end

