-- ==== Sys2Proof/Machine/State.lean ====
section
/-! DEFINITION. The state of the machine: every piece of state the spec names (10_state.md), the reasons a step can
stop, and the state right after reset (10_state.md R140, 70_reset_and_hazards.md R900). -/

namespace Sys2Proof.Machine

/-! Fixed sets of names. -/

/-- The processor modes (10_state.md R31). -/
inductive Mode where
  | usr | fiq | irq | svc | abt | und | sys | dbg
  deriving DecidableEq, Repr

/-- The power modes (10_state.md R128, 60_exceptions.md R720). -/
inductive PowerMode where
  | active | idle | sleep
  deriving DecidableEq, Repr

/-- What a region of the physical address space is when it is not memory (92_eei_decisions.md D1). -/
inductive RegionKind where
  | device | empty
  deriving DecidableEq, Repr

/-- The sizes of the regions a TLB entry maps (20_memory.md R162). -/
inductive PageSize where
  | section1M | large64K | small4K | tiny1K
  deriving DecidableEq, Repr

/-- The two history bits of a BTB entry (20_memory.md R201). -/
inductive History where
  | stronglyNot | weaklyNot | weaklyTaken | stronglyTaken
  deriving DecidableEq, Repr

/-- The widths of a data access (20_memory.md R159). -/
inductive Width where
  | byte | half | word
  deriving DecidableEq, Repr

/-- The states of the TAP controller (61_debug_and_jtag.md R832). -/
inductive TapState where
  | testLogicReset | runTestIdle
  | selectDr | captureDr | shiftDr | exit1Dr | pauseDr | exit2Dr | updateDr
  | selectIr | captureIr | shiftIr | exit1Ir | pauseIr | exit2Ir | updateIr
  deriving DecidableEq, Repr

/-! Parts of the state. -/

/-- The registers of the core: the 32 banked general registers by physical number (`physReg`), the program counter, the
status registers and the accumulator (10_state.md R30-R45). -/
structure Core where
  /-- R0-R7, R8-R12, R8_fiq-R12_fiq, R13 of usr, fiq, irq, svc, abt, und, dbg, R14 of the same (10_state.md R32). -/
  regs : Vector Word 32
  pc : Word
  cpsr : Word
  /-- SPSR_fiq, SPSR_irq, SPSR_svc, SPSR_abt, SPSR_und, SPSR_dbg (10_state.md R39). -/
  spsrs : Vector Word 6
  acc0 : Acc
  deriving DecidableEq, Repr

/-- The registers of coprocessor 15 that hold state (10_state.md R64-R99). -/
structure Cp15 where
  control : Word
  aux : Word
  ttbr : Word
  dacr : Word
  fsr : Word
  far : Word
  /-- The data cache lock mode L (10_state.md R74). -/
  dlock : Bool
  pid : Word
  ibcr0 : Word
  ibcr1 : Word
  dbr0 : Word
  dbr1 : Word
  dbcon : Word
  cpar : Word
  deriving DecidableEq, Repr

/-- The registers of coprocessor 14 that hold state (10_state.md R101-R113). -/
structure Cp14 where
  pmnc : Word
  ccnt : Word
  pmn0 : Word
  pmn1 : Word
  cclkcfg : BitVec 4
  tx : Word
  rx : Word
  dcsr : Word
  chkpt0 : Word
  chkpt1 : Word
  txrxctrl : Word
  /-- MODEL: the phase of the divide-by-64 of CCNT (log entry 40). -/
  ccntPhase : BitVec 6
  deriving DecidableEq, Repr

/-- One TLB entry (10_state.md R120, 20_memory.md R162). -/
structure TlbEntry where
  valid : Bool
  locked : Bool
  /-- The MVA the entry was made for; the page size says which bits compare. -/
  tag : Word
  size : PageSize
  base : Word
  /-- AP3, AP2, AP1, AP0; one AP stands in all four for a region without sub-pages. -/
  aps : BitVec 8
  domain : BitVec 4
  x : Bool
  c : Bool
  b : Bool
  deriving DecidableEq, Repr

/-- A TLB: 32 entries, the round-robin pointer and the lock pointer (20_memory.md R177, R178). -/
structure Tlb where
  entries : Vector TlbEntry 32
  rr : BitVec 5
  lk : BitVec 5
  deriving DecidableEq, Repr

/-- The 32 bytes of a line, lane 0 the least significant byte of its first word. -/
abbrev LineData := Vector Byte 32

/-- One line of an instruction cache (10_state.md R121); `badParity` marks words that fail parity (92 D20).
`downloaded` and `byLock` are the MODEL's: the line came through LDIC and not from memory (log entry 44), and it was fetched
by a lock operation (20_memory.md R193; log entry 56). -/
structure ILine where
  tag : BitVec 22
  valid : Bool
  locked : Bool
  data : LineData
  badParity : BitVec 8
  downloaded : Bool
  byLock : Bool
  deriving DecidableEq, Repr

/-- One line of a data cache (10_state.md R124): two dirty bits, the physical line it was filled from (20_memory.md
R209), and marks of bytes that fail parity (92 D20). -/
structure DLine where
  tag : BitVec 22
  valid : Bool
  locked : Bool
  data : LineData
  dirtyLow : Bool
  dirtyHigh : Bool
  paLine : BitVec 27
  badParity : BitVec 32
  deriving DecidableEq, Repr

/-- The instruction cache: the lines that are valid or locked, by 32 * set + way in rising order, and the pointers of
each set (20_memory.md R185, R189). -/
structure ICache where
  lines : List (Nat × ILine)
  rr : Vector (BitVec 5) 32
  lk : Vector (BitVec 5) 32
  deriving DecidableEq, Repr

/-- The data cache: the lines that are valid or locked, by 32 * set + way, and the pointers of each set (20_memory.md
R205, R212). -/
structure DCache where
  lines : List (Nat × DLine)
  rr : Vector (BitVec 5) 32
  lk : Vector (BitVec 5) 32
  deriving DecidableEq, Repr

/-- The mini instruction cache: lines by 2 * set + way, one pointer per set (10_state.md R122). -/
structure MiniICache where
  lines : List (Nat × ILine)
  rr : Vector (BitVec 1) 32
  deriving DecidableEq, Repr

/-- The mini-data cache: lines by 2 * set + way, one pointer per set (20_memory.md R206, R212). -/
structure MiniDCache where
  lines : List (Nat × DLine)
  rr : Vector (BitVec 1) 32
  deriving DecidableEq, Repr

/-- A fetch buffer (20_memory.md R187, R188): an MVA line and a valid bit for each of its eight words. -/
structure FetchBuffer where
  line : BitVec 27
  valid : BitVec 8
  data : LineData
  deriving DecidableEq, Repr

/-- The two fetch buffers; `next` is the one a fetch is put into (MODEL: the spec does not say which; log entry 66). -/
structure FetchBuffers where
  first : FetchBuffer
  second : FetchBuffer
  next : BitVec 1
  deriving DecidableEq, Repr

/-- An entry of the branch target buffer (20_memory.md R200): `tag` is bits [31:9] and bit [1] of the branch address. -/
structure BtbEntry where
  tag : BitVec 24
  target : Word
  history : History
  deriving DecidableEq, Repr

/-- An entry of the write buffer: a 16-byte block, the valid bytes, and whether a later store may join it (20_memory.md
R230, R231). -/
structure WriteEntry where
  block : BitVec 28
  mask : BitVec 16
  data : Vector Byte 16
  coalesces : Bool
  deriving DecidableEq, Repr

/-- An outstanding read request (20_memory.md R232): a line fill (`alloc`) of an MVA line, to the data cache or the
mini-data cache, or a non-cacheable load.  The external read is made when the request is, in program order; `data` is
the line it gave and `aborts` says that the bus reported an error (log entry 43). -/
structure FillEntry where
  alloc : Bool
  line : BitVec 27
  paLine : BitVec 27
  mini : Bool
  data : LineData
  aborts : Bool
  deriving DecidableEq, Repr

/-- A load or a store pended against an outstanding fill (20_memory.md R233); `big` is Control.B when it was made (R154). -/
structure PendEntry where
  load : Bool
  mva : Word
  pa : Word
  width : Width
  value : Word
  big : Bool
  x : Bool
  c : Bool
  b : Bool
  deriving DecidableEq, Repr

/-- A pending imprecise data abort (10_state.md R126): its kind, and for an access that stalls until complete the
number of instruction boundaries left before it must be taken (60_exceptions.md R686). -/
structure ImpreciseAbort where
  parity : Bool
  boundaries : Option Nat
  deriving DecidableEq, Repr

/-- The events held between instructions (10_state.md R126). -/
structure Pending where
  imprecise : Option ImpreciseAbort
  extBreak : Bool
  traceFull : Bool
  dataBkpt : Bool
  irqLine : Bool
  fiqLine : Bool
  deriving DecidableEq, Repr

/-- The trace buffer (10_state.md R131, 61_debug_and_jtag.md R803-R806); `sinceCkpt` counts the entries since the last
checkpoint, none before the first; `schedule` is the parameter `CheckpointSchedule` (92 D34): none is its default, else one
entry for each branch message to come. -/
structure Trace where
  buf : Vector Byte 256
  p : BitVec 8
  fill : Nat
  cnt : BitVec 4
  sinceCkpt : Option Nat
  schedule : Option (List Bool)
  deriving DecidableEq, Repr

/-- The LDIC load in progress: the cache, the line address and the words received so far (61_debug_and_jtag.md R864). -/
structure LdicLoad where
  mini : Bool
  line : BitVec 27
  words : List Word
  deriving DecidableEq, Repr

/-- The JTAG side (10_state.md R115) and the reset inputs (70_reset_and_hazards.md R901). -/
structure Jtag where
  tap : TapState
  irShift : BitVec 5
  ir : BitVec 5
  bypass : BitVec 1
  idShift : BitVec 32
  dbgSr : BitVec 36
  dbgReg : BitVec 35
  /-- LDIC_SR1 (61_debug_and_jtag.md R862). -/
  ldicSr : BitVec 33
  /-- LDIC_REG (61_debug_and_jtag.md R862). -/
  ldicReg : BitVec 33
  /-- LDIC_SR2 (61_debug_and_jtag.md R862). -/
  ldicSr2 : BitVec 33
  ldic : Option LdicLoad
  /-- TCKs since the last LDIC Update_DR, at most 15 (61_debug_and_jtag.md R862). -/
  tcksSinceLdic : BitVec 4
  /-- The TDO pin; none is high-Z. -/
  tdo : Option Bool
  /-- nTRST is asserted (low). -/
  trst : Bool
  /-- The reset pin is asserted. -/
  resetPin : Bool
  /-- The hold_rst signal, DBG.HLD_RST (61_debug_and_jtag.md R843). -/
  holdRst : Bool
  /-- The core is held in reset: the reset pin or hold_rst (61_debug_and_jtag.md R843). -/
  held : Bool
  deriving DecidableEq, Repr

/-- A region of the physical address space that is not memory: `first` to `last` (92_eei_decisions.md D1). -/
structure Region where
  first : Word
  last : Word
  kind : RegionKind
  deriving DecidableEq, Repr

/-- The kinds of access that the bus can answer with an error (92_eei_decisions.md D2). -/
inductive BusKind where
  | fetch | walk | read | write
  deriving DecidableEq, Repr

/-- Accesses of a kind to `first` to `last` are answered with an external abort (92_eei_decisions.md D2). -/
structure AbortRange where
  kind : BusKind
  first : Word
  last : Word
  deriving DecidableEq, Repr

/-- A call into the platform's device (92_eei_decisions.md D1). -/
inductive DeviceOp where
  /-- A read of so many bytes from an address up; its value is free. -/
  | read (pa : Word) (bytes : Nat)
  /-- A write of the valid bytes of a 16-byte block. -/
  | write (e : WriteEntry)
  deriving DecidableEq, Repr

/-- MODEL: what a fetch of changed code may still see until the next global invalidation of the instruction cache
(93_implementation_defined.md U11; log entry 44). -/
structure Stale where
  /-- What words of memory held before they were changed, by physical address, in rising order. -/
  words : List (Nat × List Word)
  /-- Translations that the instruction TLB no longer holds; none is the flat map of the disabled MMU. -/
  maps : List (Option TlbEntry)
  /-- Process identifiers before the present one. -/
  pids : List Word
  deriving DecidableEq, Repr

/-- What the outside world can do at an instruction boundary (log entry 10). -/
inductive Input where
  /-- The level of the IRQ input (60_exceptions.md R700). -/
  | irq (level : Bool)
  /-- The level of the FIQ input (60_exceptions.md R700). -/
  | fiq (level : Bool)
  /-- The reset pin (70_reset_and_hazards.md R901). -/
  | resetPin (asserted : Bool)
  /-- The nTRST pin (61_debug_and_jtag.md R831). -/
  | trst (asserted : Bool)
  /-- A rising edge of TCK with TMS and TDI (61_debug_and_jtag.md R830). -/
  | tck (tms tdi : Bool)
  /-- The write buffer entry of that number reaches memory (92_eei_decisions.md D6). -/
  | retireWrite (index : Nat)
  /-- The outstanding fill of that number returns (20_memory.md R232). -/
  | fillReturn (index : Nat)
  /-- A parity failure in a word of the instruction cache or the mini instruction cache (92_eei_decisions.md D20,
  61_debug_and_jtag.md R861). -/
  | icParity (mini : Bool) (set way : BitVec 5) (word : BitVec 3)
  /-- A parity failure in a byte of the data cache or the mini-data cache (92_eei_decisions.md D20). -/
  | dcParity (mini : Bool) (set way : BitVec 5) (byte : BitVec 5)
  /-- Another bus master writes a byte of memory (20_memory.md R247). -/
  | busWrite (pa : Word) (value : Byte)
  /-- Another bus master writes bytes of memory between two words of a multiple transfer (70_reset_and_hazards.md R935). -/
  | busBetween (writes : List (Word × Byte))
  /-- The core fetches ahead of execution, at a virtual address (20_memory.md R188; log entry 81). -/
  | fetchAhead (va : Word)
  /-- nBATT_FAULT or nVDD_FAULT goes low (61_debug_and_jtag.md R831). -/
  | powerFault
  deriving DecidableEq, Repr

/-- The machine. -/
structure State where
  core : Core
  cp15 : Cp15
  cp14 : Cp14
  itlb : Tlb
  dtlb : Tlb
  icache : ICache
  miniICache : MiniICache
  fetchBufs : FetchBuffers
  /-- The valid BTB entries, by bits [8:2] of the branch address, in rising order. -/
  btb : List (Nat × BtbEntry)
  dcache : DCache
  miniDCache : MiniDCache
  /-- Oldest first, at most 8 (20_memory.md R230). -/
  writeBuf : List WriteEntry
  /-- Outstanding read requests, oldest first, at most 4 (20_memory.md R232). -/
  fillBuf : List FillEntry
  /-- Oldest first, at most 4 (20_memory.md R233). -/
  pendBuf : List PendEntry
  /-- Physical memory: bytes by physical address, rising, no byte that an unlisted address reads as (R152, R160). -/
  mem : List Host.Cell
  platform : List Region
  /-- The parameter `ExtAbort` (92_eei_decisions.md D2): none is its default, the addresses that hold nothing. -/
  extAborts : Option (List AbortRange)
  /-- MODEL: the calls into devices so far, oldest first (92_eei_decisions.md D1; log entry 9). -/
  deviceOps : List DeviceOp
  pending : Pending
  /-- The Special Debug State flag (10_state.md R127). -/
  sds : Bool
  power : PowerMode
  trace : Trace
  jtag : Jtag
  /-- MODEL: the number of the next free value (log entry 11). -/
  freeCtr : Nat
  /-- MODEL: the inputs to come, one list for each step (log entry 10). -/
  inputs : List (List Input)
  /-- MODEL: the registers of a memory access that aborted in SDS without the required NOP yet (log entry 51). -/
  sdsShadow : BitVec 16
  /-- MODEL: old code that a fetch may still see (log entry 44). -/
  stale : Stale
  /-- MODEL: what other bus masters write between the words of the next multiple transfer, one list for each gap (log
  entry 10). -/
  midBus : List (List (Word × Byte))
  /-- MODEL: the physical addresses of the bytes that the instruction in progress stores (log entry 75). -/
  storing : List Nat
  deriving DecidableEq, Repr

/-! Reasons to stop. -/

/-- Faults of the model itself; the exceptions of the core are next states. -/
inductive Fault where
  /-- Raised by `step` in a state, which no run from reset reaches, whose CPSR[4:0] names no mode (10_state.md R31).
  Safe: nothing runs. -/
  | illegalMode
  deriving DecidableEq, Repr

/-- Refusals: the spec calls the behaviour unpredictable or undefined and gives no effect among its choices
(93_implementation_defined.md, treatment "refuse").  All are safe: the machine stops where the hardware does something. -/
inductive Refusal where
  /-- Raised by `exec` for an instruction without a meaning.  Safe. -/
  | notModelled (mnemonic : String)
  /-- A register number or a register list the instruction forbids (93 U1, U2, U34).  Raised by the meanings.  Safe. -/
  | unpredictableOperands
  /-- A halfword at an odd address, or a load of the PC from an unaligned address, with Control.A = 0 (93 U8).  Raised
  by the loads and stores.  Safe. -/
  | unpredictableAlignment
  /-- An ARM-state branch target that is not word aligned (93 U2 (i), U30).  Raised by the writes of the PC.  Safe. -/
  | unalignedTarget
  /-- An SPSR named in User or System mode, or MRS with Rd = 15 (93 U31).  Raised by MRS, MSR, and returns.  Safe. -/
  | noSpsr
  /-- An illegal mode number written to CPSR[4:0], or DEBUG mode entered by software (93 U31, log entry 47).
  Raised by MSR and returns.  Safe. -/
  | illegalModeWrite
  /-- LDC or STC to CP14 with N = 1 (93 U9).  Raised by LDC and STC.  Safe. -/
  | cp14LongTransfer
  /-- Sequential execution past 0xFFFFFFFF (93 U14).  Raised by the advance of the PC.  Safe. -/
  | pcWrap
  /-- AP = 0b00 with S = R = 1 (93 U3).  Raised by the permission check.  Safe. -/
  | reservedPermission
  /-- An access to a page with X = 1, C = 0, B = 0 (93 U3).  Raised by the data access.  Safe. -/
  | reservedAttributes
  /-- A mini-data cache access with MD = 0b11 (93 U3).  Raised by the data access.  Safe. -/
  | reservedMiniPolicy
  /-- MRC of a write-only CP15 register (93 U5).  Raised by MRC.  Safe. -/
  | writeOnlyRegister
  /-- A CP14 or CP15 register, CRm, opcode_1 or opcode_2 that no table lists (93 U20).  Raised by MCR, MRC, LDC and STC.
  Safe. -/
  | unlistedRegister
  /-- PWRMODE written with 2 (93 U35).  Raised by MCR and LDC.  Safe. -/
  | reservedPowerMode
  /-- Control.C = 1 with Control.M = 0 (93 U10).  Raised by MCR.  Safe. -/
  | invalidCacheEnable
  /-- A BTB entry that predicts taken for an instruction that is no branch (93 U11).  Raised by `step`.  Safe. -/
  | staleBtb
  /-- A lock operation outside its preconditions, data locked that is in the data cache already, or a fill into the
  mini-data cache in lock mode (93 U6).  Raised by the lock functions and the data access.  Safe. -/
  | lockPrecondition
  /-- A lock or unlock operation on a disabled cache, or on a TLB with the MMU off (10_state.md R74, R75).  Raised by
  the lock functions.  Safe. -/
  | lockOnDisabledUnit
  /-- SWI or an undefined instruction in Special Debug State (93 U32).  Raised by their entry.  Safe. -/
  | exceptionInSds
  /-- User mode entered in Special Debug State (93 U33).  Raised by MSR.  Safe. -/
  | userModeInSds
  /-- An instruction breakpoint enabled with DCSR.GE = 0 (93 U40).  Raised by MCR.  Safe. -/
  | breakpointWithDebugOff
  /-- LDM, LDR to PC, LDR with RRX, SWP, LDC or STC in DEBUG mode (93 U42).  Raised by those meanings.  Safe. -/
  | notInDebugMode
  /-- R13_dbg used in DEBUG mode by an instruction that is neither a data-processing instruction without RRX nor MCR or
  MRC (10_state.md R43, which calls it UNPREDICTABLE).  Raised before the instruction runs.  Safe. -/
  | debugStackRegister
  /-- A reserved LDIC function, or LDIC left too early (93 U46).  Raised by a TCK input.  Safe. -/
  | ldicProtocol
  /-- An LDIC load of a line already valid (93 U47).  Raised by a TCK input.  Safe. -/
  | ldicOverwrite
  /-- HLD_RST set while the reset pin is not asserted (93 U48).  Raised by a TCK input.  Safe. -/
  | holdWithoutReset
  deriving DecidableEq, Repr

/-- The outcome of a meaning or a step. -/
abbrev Result := Host.Outcome State Fault Refusal

/-! The state after reset (10_state.md R140). -/

/-- An invalid TLB entry. -/
def TlbEntry.empty : TlbEntry :=
  { valid := false, locked := false, tag := 0, size := .section1M, base := 0, aps := 0, domain := 0,
    x := false, c := false, b := false }

/-- A TLB after reset: no valid entry, round-robin at entry 31, nothing locked (R120, 92 D37). -/
def Tlb.reset : Tlb := { entries := Vector.replicate 32 TlbEntry.empty, rr := 31, lk := 0 }

/-- The instruction cache after reset (20_memory.md R192, R189). -/
def ICache.reset : ICache := { lines := [], rr := Vector.replicate 32 31, lk := Vector.replicate 32 0 }

/-- The data cache after reset (20_memory.md R214). -/
def DCache.reset : DCache := { lines := [], rr := Vector.replicate 32 31, lk := Vector.replicate 32 0 }

/-- The mini instruction cache after reset; the pointer at way 1 is log entry 7. -/
def MiniICache.reset : MiniICache := { lines := [], rr := Vector.replicate 32 1 }

/-- The mini-data cache after reset (20_memory.md R214); "way 31" of a 2-way cache is way 1, log entry 7. -/
def MiniDCache.reset : MiniDCache := { lines := [], rr := Vector.replicate 32 1 }

/-- An empty fetch buffer. -/
def FetchBuffer.empty : FetchBuffer := { line := 0, valid := 0, data := Vector.replicate 32 0 }

/-- The fetch buffers after reset; that they are empty is log entry 67. -/
def FetchBuffers.reset : FetchBuffers := { first := .empty, second := .empty, next := 0 }

/-- No old code (MODEL). -/
def Stale.none : Stale := { words := [], maps := [], pids := [] }

/-- The core registers after reset (R44, R46): CPSR = 0xD3 in its low byte, PC = 0; the rest log entries 1, 2, 3. -/
def Core.reset : Core :=
  { regs := Vector.replicate 32 0, pc := 0, cpsr := 0xD3, spsrs := Vector.replicate 6 0, acc0 := 0 }

/-- CP15 after reset (R64-R99); the unspecified registers are log entry 4. -/
def Cp15.reset : Cp15 :=
  { control := 0x78, aux := 0, ttbr := 0, dacr := 0, fsr := 0, far := 0, dlock := false, pid := 0,
    ibcr0 := 0, ibcr1 := 0, dbr0 := 0, dbr1 := 0, dbcon := 0, cpar := 0 }

/-- CP14 after reset (R101-R113); the unspecified registers are log entry 5. -/
def Cp14.reset : Cp14 :=
  { pmnc := 0, ccnt := 0, pmn0 := 0, pmn1 := 0, cclkcfg := 0, tx := 0, rx := 0, dcsr := 0, chkpt0 := 0, chkpt1 := 0,
    txrxctrl := 0, ccntPhase := 0 }

/-- No event pending (R126). -/
def Pending.reset : Pending :=
  { imprecise := none, extBreak := false, traceFull := false, dataBkpt := false, irqLine := false, fiqLine := false }

/-- The trace buffer at power-on: log entry 6. -/
def Trace.reset : Trace := { buf := Vector.replicate 256 0, p := 0, fill := 0, cnt := 0, sinceCkpt := none, schedule := none }

/-- The JTAG side after TRST (61_debug_and_jtag.md R831, R848): log entry 6. -/
def Jtag.reset : Jtag :=
  { tap := .testLogicReset, irShift := 0, ir := 0b11110, bypass := 0, idShift := 0, dbgSr := 0, dbgReg := 0,
    ldicSr := 0, ldicReg := 0, ldicSr2 := 0, ldic := none, tcksSinceLdic := 15, tdo := none, trst := false, resetPin := false,
    holdRst := false, held := false }

/-- The machine right after reset (10_state.md R140, 70_reset_and_hazards.md R900). -/
def State.reset : State :=
  { core := .reset, cp15 := .reset, cp14 := .reset, itlb := .reset, dtlb := .reset, icache := .reset,
    miniICache := .reset, fetchBufs := .reset, btb := [], dcache := .reset, miniDCache := .reset, writeBuf := [],
    fillBuf := [], pendBuf := [], mem := [], platform := [], extAborts := none, deviceOps := [], pending := .reset,
    sds := false, power := .active, trace := .reset, jtag := .reset, freeCtr := 0, inputs := [], sdsShadow := 0, stale := .none,
    midBus := [], storing := [] }

end Sys2Proof.Machine
end

