-- ==== Sys2Proof/Machine/Base.lean ====
section
/-! DEFINITION. Sparse maps, bit fields, free values, modes and the register file (10_state.md R30-R40). -/

namespace Sys2Proof.Machine

/-! Sparse maps: lists of (key, value) with strictly rising keys. -/

/-- The value at a key. -/
def sparseGet {α : Type} : List (Nat × α) → Nat → Option α
  | [], _ => none
  | (k', v) :: t, k => if k = k' then some v else sparseGet t k

/-- Puts a value at a key. -/
def sparsePut {α : Type} : List (Nat × α) → Nat → α → List (Nat × α)
  | [], k, v => [(k, v)]
  | (k', v') :: t, k, v =>
    if k < k' then (k, v) :: (k', v') :: t
    else if k = k' then (k, v) :: t
    else (k', v') :: sparsePut t k v

/-- Removes a key. -/
def sparseErase {α : Type} : List (Nat × α) → Nat → List (Nat × α)
  | [], _ => []
  | (k', v') :: t, k => if k = k' then t else (k', v') :: sparseErase t k

/-- The keys rise strictly, from `lo` up. -/
def sparseRising {α : Type} : Nat → List (Nat × α) → Bool
  | _, [] => true
  | lo, (k, _) :: t => decide (lo ≤ k) && sparseRising (k + 1) t

/-! Memory: bytes by physical address; an unlisted byte reads as 0 (log entry 8). -/

/-- The byte at a physical address. -/
def memGet (m : List Host.Cell) (a : Word) : Byte := (sparseGet m a.toNat).getD 0

/-- Writes a byte; writing what an unlisted address reads as removes the entry. -/
def memPut (m : List Host.Cell) (a : Word) (b : Byte) : List Host.Cell :=
  if b = 0 then sparseErase m a.toNat else sparsePut m a.toNat b

/-- The canonical form of memory: addresses strictly rising and 32 bits wide, no byte that an unlisted address reads as. -/
def Memory.wf (m : List Host.Cell) : Bool :=
  sparseRising 0 m && m.all (fun c => decide (c.1 < 2 ^ 32) && c.2 != 0)

/-! Bit fields of words. -/

/-- The `len` bits of a word from bit `lo` up. -/
abbrev field {n : Nat} (w : BitVec n) (lo len : Nat) : BitVec len := w.extractLsb' lo len

/-- Bit `i` of a word. -/
abbrev bitAt {n : Nat} (w : BitVec n) (i : Nat) : Bool := w.getLsbD i

/-- The bits of `w` where `mask` is 0 and of `v` where it is 1. -/
def merge (mask w v : Word) : Word := (w &&& ~~~mask) ||| (v &&& mask)

/-- A word with bit `i` set to `b`. -/
def setBit (i : Nat) (b : Bool) (w : Word) : Word := merge (1#32 <<< i) w (if b then 0xFFFFFFFF else 0)

/-- A byte of a word, byte 0 the least significant. -/
def byteOf (w : Word) (i : Nat) : Byte := w.extractLsb' (8 * i) 8

/-- The word of four bytes, the first the least significant. -/
def wordOf (b0 b1 b2 b3 : Byte) : Word := b3 ++ b2 ++ b1 ++ b0

/-! Free values (log entry 11). -/

/-- The `k`-th free value from here on. -/
def State.free (s : State) (k : Nat) : Word := Config.freeWord (s.freeCtr + k)

/-- The `k`-th free amount from here on. -/
def State.freeAmount (s : State) (k : Nat) : Nat := Config.freeNat (s.freeCtr + k)

/-- `n` free values have been used. -/
def State.consume (n : Nat) (s : State) : State := { s with freeCtr := s.freeCtr + n }

/-! Modes (10_state.md R31). -/

/-- The mode of CPSR[4:0]; the rest are illegal. -/
def Mode.ofBits (b : BitVec 5) : Option Mode :=
  match b with
  | 0b10000 => some .usr | 0b10001 => some .fiq | 0b10010 => some .irq | 0b10011 => some .svc
  | 0b10111 => some .abt | 0b11011 => some .und | 0b11111 => some .sys | 0b10101 => some .dbg
  | _ => none

/-- The mode number. -/
def Mode.bits : Mode → BitVec 5
  | .usr => 0b10000 | .fiq => 0b10001 | .irq => 0b10010 | .svc => 0b10011
  | .abt => 0b10111 | .und => 0b11011 | .sys => 0b11111 | .dbg => 0b10101

/-- The mode of a status register value; an illegal number has the rights of User mode (`step` stops on it). -/
def modeOf (psr : Word) : Mode := (Mode.ofBits (field psr 0 5)).getD .usr

/-- The current mode. -/
def State.mode (s : State) : Mode := modeOf s.core.cpsr

/-- Every mode but User is privileged (60_exceptions.md R695). -/
def Mode.privileged (m : Mode) : Bool := m != .usr

/-- The number of a mode's bank of R13 and R14 (10_state.md R32). -/
def Mode.bank : Mode → BitVec 5
  | .usr => 0 | .sys => 0 | .fiq => 1 | .irq => 2 | .svc => 3 | .abt => 4 | .und => 5 | .dbg => 6

/-- The physical register of R0 to R14 in a mode (10_state.md R32). -/
def physReg (m : Mode) (n : Reg) : BitVec 5 :=
  if n.ult 8 then n.zeroExtend 5
  else if n.ult 13 then (if m = .fiq then n.zeroExtend 5 + 5 else n.zeroExtend 5)
  else if n = 13 then 18 + m.bank
  else 25 + m.bank

/-- The place of a mode's SPSR; User and System mode have none (10_state.md R39). -/
def Mode.spsrIndex : Mode → Option (Fin 6)
  | .fiq => some 0 | .irq => some 1 | .svc => some 2 | .abt => some 3 | .und => some 4 | .dbg => some 5
  | .usr => none | .sys => none

/-! The status register (10_state.md R36). -/

/-- The N flag. -/
def State.flagN (s : State) : Bool := bitAt s.core.cpsr 31
/-- The Z flag. -/
def State.flagZ (s : State) : Bool := bitAt s.core.cpsr 30
/-- The C flag. -/
def State.flagC (s : State) : Bool := bitAt s.core.cpsr 29
/-- The V flag. -/
def State.flagV (s : State) : Bool := bitAt s.core.cpsr 28
/-- The T bit: Thumb state. -/
def State.thumb (s : State) : Bool := bitAt s.core.cpsr 5

/-- Writes the core registers. -/
def State.withCore (s : State) (c : Core) : State := { s with core := c }

/-- Writes the CPSR. -/
def State.setCpsr (s : State) (v : Word) : State := { s with core := { s.core with cpsr := v } }

/-- Writes the program counter. -/
def State.setPc (s : State) (v : Word) : State := { s with core := { s.core with pc := v } }

/-- Writes the accumulator. -/
def State.setAcc (s : State) (v : Acc) : State := { s with core := { s.core with acc0 := v } }

/-- Writes CP15. -/
def State.setCp15 (s : State) (c : Cp15) : State := { s with cp15 := c }

/-- Writes CP14. -/
def State.setCp14 (s : State) (c : Cp14) : State := { s with cp14 := c }

/-! The register file. -/

/-- The size of an instruction in the current state (10_state.md R34). -/
def State.instrSize (s : State) : Word := if s.thumb then 2 else 4

/-- What an instruction reads as R15: its address + 8, in Thumb state + 4 (10_state.md R34). -/
def State.pcRead (s : State) : Word := s.core.pc + (if s.thumb then 4 else 8)

/-- The register of another bank (10_state.md R33). -/
def State.bankedReg (s : State) (m : Mode) (n : Reg) : Word := s.core.regs[(physReg m n).toFin]

/-- Writes the register of another bank. -/
def State.setBankedReg (s : State) (m : Mode) (n : Reg) (v : Word) : State :=
  { s with core := { s.core with regs := s.core.regs.set (physReg m n).toFin v } }

/-- Reads R0 to R15 in the current mode (10_state.md R30, R32, R34). -/
def State.reg (s : State) (n : Reg) : Word := if n = 15 then s.pcRead else s.bankedReg s.mode n

/-- Writes R0 to R14 in the current mode; R15 is written only by the branches of Ops.lean. -/
def State.setReg (s : State) (n : Reg) (v : Word) : State := if n = 15 then s else s.setBankedReg s.mode n v

/-- The SPSR of a mode. -/
def State.spsrOf (s : State) (m : Mode) : Option Word := m.spsrIndex.map (fun i => s.core.spsrs[i])

/-- Writes the SPSR of a mode that has one. -/
def State.setSpsrOf (s : State) (m : Mode) (v : Word) : State :=
  match m.spsrIndex with
  | none => s
  | some i => { s with core := { s.core with spsrs := s.core.spsrs.set i v } }

end Sys2Proof.Machine
end

