-- ==== Sys2Proof/Machine/Pmu.lean ====
section
/-! DEFINITION. The performance monitor: the event counters, the clock counter and the interrupt request
(60_exceptions.md R730-R733). -/

namespace Sys2Proof.Machine

/-- An event of the performance monitor, by its number (60_exceptions.md R733). -/
inductive Event where
  | icacheMiss | icacheNoDeliver | dataStall | itlbMiss | dtlbMiss | branchExecuted | branchMispredicted
  | instrExecuted | bufferStallCycles | bufferStall | dcacheAccess | dcacheMiss | dcacheWriteBack | pcChanged
  deriving DecidableEq, Repr

/-- The event number (60_exceptions.md R733). -/
def Event.number : Event → BitVec 8
  | .icacheMiss => 0 | .icacheNoDeliver => 1 | .dataStall => 2 | .itlbMiss => 3 | .dtlbMiss => 4
  | .branchExecuted => 5 | .branchMispredicted => 6 | .instrExecuted => 7 | .bufferStallCycles => 8
  | .bufferStall => 9 | .dcacheAccess => 10 | .dcacheMiss => 11 | .dcacheWriteBack => 12 | .pcChanged => 13

/-- PMNC.E: the counters are enabled (10_state.md R101). -/
def pmuOn (c : Cp14) : Bool := bitAt c.pmnc 0

/-- A 32-bit counter passes its maximum when `n` is added. -/
def overflows (w : Word) (n : Nat) : Bool := decide (2 ^ 32 ≤ w.toNat + n)

/-- Sets an overflow flag of PMNC; flags are never cleared by counting (60_exceptions.md R731). -/
def raiseFlag (i : Nat) (b : Bool) (pmnc : Word) : Word := if b then setBit i true pmnc else pmnc

/-- PMN0 and PMN1 count `n` occurrences of an event (60_exceptions.md R731); flag 8 is PMN0's, flag 9 PMN1's. -/
def countCp14 (e : Event) (n : Nat) (c : Cp14) : Cp14 :=
  let n0 := if pmuOn c && field c.pmnc 12 8 == e.number then n else 0
  let n1 := if pmuOn c && field c.pmnc 20 8 == e.number then n else 0
  { c with
    pmn0 := c.pmn0 + BitVec.ofNat 32 n0
    pmn1 := c.pmn1 + BitVec.ofNat 32 n1
    pmnc := raiseFlag 9 (overflows c.pmn1 n1) (raiseFlag 8 (overflows c.pmn0 n0) c.pmnc) }

/-- `n` occurrences of an event. -/
def State.countN (s : State) (e : Event) (n : Nat) : State := { s with cp14 := countCp14 e n s.cp14 }

/-- One occurrence of an event. -/
def State.count (s : State) (e : Event) : State := s.countN e 1

/-- The clock counter counts `cycles` core clock cycles, or every 64th with PMNC.D = 1 (60_exceptions.md R730). -/
def tickCp14 (cycles : Nat) (c : Cp14) : Cp14 :=
  if pmuOn c then
    let total := if bitAt c.pmnc 3 then (c.ccntPhase.toNat + cycles) / 64 else cycles
    { c with
      ccnt := c.ccnt + BitVec.ofNat 32 total
      ccntPhase := if bitAt c.pmnc 3 then c.ccntPhase + BitVec.ofNat 6 cycles else c.ccntPhase
      pmnc := raiseFlag 10 (overflows c.ccnt total) c.pmnc }
  else c

/-- The monitor at the end of a step: the clock counter advances by a free positive amount, and each duration event
holds for a free number of cycles (60_exceptions.md R730, R731; log entry 40). -/
def State.tick (s : State) : State :=
  if pmuOn s.cp14 then
    (((({ s with cp14 := tickCp14 (s.freeAmount 0 + 1) s.cp14 }.countN .icacheNoDeliver (s.freeAmount 1)).countN
      .dataStall (s.freeAmount 2)).countN .bufferStallCycles (s.freeAmount 3)).countN .bufferStall
        (s.freeAmount 4)).consume 5
  else s

/-- `PMU_int`: a flag is set and its interrupt is enabled (60_exceptions.md R732). -/
def State.pmuInt (s : State) : Bool :=
  let w := s.cp14.pmnc
  (bitAt w 10 && bitAt w 6) || (bitAt w 9 && bitAt w 5) || (bitAt w 8 && bitAt w 4)

end Sys2Proof.Machine
end

