-- ==== Sys2Proof/Machine/Trace.lean ====
section
/-! DEFINITION. The trace buffer (61_debug_and_jtag.md R800-R807). -/

namespace Sys2Proof.Machine

/-- DCSR.GE: debug functionality is enabled (61_debug_and_jtag.md R762). -/
def State.debugOn (s : State) : Bool := bitAt s.cp14.dcsr 31

/-- DCSR.H: Halt mode (61_debug_and_jtag.md R763). -/
def State.haltMode (s : State) : Bool := bitAt s.cp14.dcsr 30

/-- Recording is active (61_debug_and_jtag.md R800). -/
def State.traceOn (s : State) : Bool := s.debugOn && bitAt s.cp14.dcsr 0

/-- Appends one byte; in fill-once mode the buffer asks for its break when 250 entries are held (R805, R807, 92 D35). -/
def State.recordByte (s : State) (b : Byte) : State :=
  let fill := min (s.trace.fill + 1) 256
  { s with
    trace := { s.trace with
      buf := s.trace.buf.set s.trace.p.toFin b
      p := s.trace.p + 1
      fill := fill
      sinceCkpt := s.trace.sinceCkpt.map (fun n => min (n + 1) 128) }
    pending := { s.pending with
      traceFull := s.pending.traceFull || (bitAt s.cp14.dcsr 1 && decide (250 ≤ fill)) } }

/-- Appends a message byte, which zeroes the instruction count (R803). -/
def State.recordMessage (s : State) (b : Byte) : State :=
  let s := s.recordByte b
  { s with trace := { s.trace with cnt := 0 } }

/-- A message byte: type, then the count (R802). -/
def messageByte (kind cnt : BitVec 4) : Byte := kind ++ cnt

/-- An instruction that wrote no message is counted; the 16th writes a roll-over byte (R803). -/
def State.traceInstr (s : State) : State :=
  if s.traceOn then
    if s.trace.cnt = 15 then s.recordMessage 0xFF
    else { s with trace := { s.trace with cnt := s.trace.cnt + 1 } }
  else s

/-- The next branch message is a checkpoint: as the parameter `CheckpointSchedule` says; by its default the first, and then
the first that is at least 128 entries later, 127 of them before it (R806, 92 D34). -/
def State.checkpointDue (s : State) : Bool :=
  match s.trace.schedule with
  | some l => l.head?.getD false
  | none =>
    match s.trace.sinceCkpt with
    | none => true
    | some n => decide (127 ≤ n)

/-- A branch message takes its entry off the schedule. -/
def State.nextCheckpoint (s : State) : State := { s with trace := { s.trace with schedule := s.trace.schedule.map List.tail } }

/-- The checkpoint registers shift and the schedule starts again (R806, 92 D34). -/
def State.takeCheckpoint (s : State) (target : Word) : State :=
  { s with
    cp14 := { s.cp14 with chkpt1 := s.cp14.chkpt0, chkpt0 := target }
    trace := { s.trace with sinceCkpt := some 0 } }

/-- A branch message: bit 6 marks a checkpoint (R802, R806). -/
def State.recordBranch (s : State) (indirect : Bool) (target : Word) : State :=
  let kind : BitVec 4 := if indirect then 9 else 8
  if s.checkpointDue then (s.nextCheckpoint.recordMessage (messageByte (kind ||| 4) s.trace.cnt)).takeCheckpoint target
  else s.nextCheckpoint.recordMessage (messageByte kind s.trace.cnt)

/-- A taken direct branch (R801). -/
def State.traceDirect (s : State) (target : Word) : State :=
  if s.traceOn then s.recordBranch false target else s

/-- An indirect branch: four address bytes, most significant first, then the message (R804).  Where an interworking branch
enters or leaves Thumb state, bit 0 of the recorded target is a free value (93 U25); that it is the same free bit in CHKPT0
where the branch is a checkpoint is log entry 35. -/
def State.traceIndirect (s : State) (interworks : Bool) (target : Word) : State :=
  if s.traceOn then
    let target := if interworks then merge 1 target (s.free 0) else target
    ((((((s.consume 1).recordByte (byteOf target 3)).recordByte (byteOf target 2)).recordByte (byteOf target 1)).recordByte
      (byteOf target 0)).recordBranch true target)
  else s

/-- An exception message: bits [4:2] of the vector address (R802). -/
def State.traceException (s : State) (offset : Word) : State :=
  if s.traceOn then s.recordMessage (messageByte (0#1 ++ field offset 2 3) s.trace.cnt) else s

end Sys2Proof.Machine
end

