-- ==== Sys2Proof/Machine/Ops.lean ====
section
/-! DEFINITION. The shared operations: moving and branching the PC (10_state.md R35, 20_memory.md R200, R201), taking an
exception and returning from one (60_exceptions.md R670-R690), and entering a debug exception
(61_debug_and_jtag.md R772, R773). -/

namespace Sys2Proof.Machine

/-! The program counter. -/

/-- The address of the next instruction in sequence (R35). -/
def State.nextPc (s : State) : Word := s.core.pc + s.instrSize

/-- The instruction is complete and execution goes on in sequence (R35); running past 0xFFFFFFFF is refused (93 U14). -/
def State.advance (s : State) : Result :=
  if 2 ^ 32 ≤ s.core.pc.toNat + s.instrSize.toNat then .refused .pcWrap
  else .next (s.setPc s.nextPc).traceInstr

/-! The branch target buffer (20_memory.md R200-R202). -/

/-- Bits [8:2] of an address select the entry. -/
def btbIndex (pc : Word) : Nat := (field pc 2 7).toNat

/-- Bits [31:9] and [1] of an address are the tag. -/
def btbTag (pc : Word) : BitVec 24 := field pc 9 23 ++ field pc 1 1

/-- Control.Z: the BTB is enabled. -/
def State.btbOn (s : State) : Bool := bitAt s.cp15.control 11

/-- The entry that matches an instruction address, while the BTB is enabled. -/
def State.btbLookup (s : State) (pc : Word) : Option BtbEntry :=
  if s.btbOn then
    match sparseGet s.btb (btbIndex pc) with
    | some e => if e.tag = btbTag pc then some e else none
    | none => none
  else none

/-- Weakly and strongly taken predict taken. -/
def History.taken : History → Bool
  | .stronglyNot => false | .weaklyNot => false | .weaklyTaken => true | .stronglyTaken => true

/-- The two-bit saturating counter (R201). -/
def History.update (taken : Bool) : History → History
  | .stronglyNot => if taken then .weaklyNot else .stronglyNot
  | .weaklyNot => if taken then .weaklyTaken else .stronglyNot
  | .weaklyTaken => if taken then .stronglyTaken else .weaklyNot
  | .stronglyTaken => if taken then .stronglyTaken else .weaklyTaken

/-- The history after a branch that is in the BTB, and the new entry after a taken branch that is not (R201). -/
def State.btbUpdate (s : State) (target : Word) (taken : Bool) : State :=
  if s.btbOn then
    match s.btbLookup s.core.pc with
    | some e => { s with btb := sparsePut s.btb (btbIndex s.core.pc) { e with history := e.history.update taken } }
    | none =>
      if taken then
        { s with btb := sparsePut s.btb (btbIndex s.core.pc)
                   { tag := btbTag s.core.pc, target := target, history := .weaklyTaken } }
      else s
  else s

/-- The BTB predicts the instruction at the PC taken. -/
def State.predictedTaken (s : State) : Bool :=
  match s.btbLookup s.core.pc with
  | some e => e.history.taken
  | none => false

/-- A B or BL was resolved: its events (60_exceptions.md R733, 70_reset_and_hazards.md R950) and the BTB.  That a Thumb BL
suffix which was predicted taken to another target than R14 gives counts no misprediction, and keeps the old target in its
entry, is log entry 49. -/
def State.resolveBranch (s : State) (target : Word) (taken : Bool) : State :=
  let s' := (s.count .branchExecuted).btbUpdate target taken
  if s.predictedTaken = taken then s' else s'.count .branchMispredicted

/-! Writing the PC. -/

/-- A taken B or BL (45_arm_branch_status.md R540): direct, predicted by the BTB. -/
def State.branchTo (s : State) (target : Word) : State :=
  (((s.resolveBranch target true).count .pcChanged).traceDirect target).setPc target

/-- A B or BL that is not taken. -/
def State.branchNotTaken (s : State) (target : Word) : Result := (s.resolveBranch target false).advance

/-- A taken BLX(1): direct, not predicted, changes the state (61_debug_and_jtag.md R801). -/
def State.branchStateTo (s : State) (thumb : Bool) (target : Word) : State :=
  ((((s.count .branchExecuted).count .pcChanged).traceDirect target).setCpsr (setBit 5 thumb s.core.cpsr)).setPc target

/-- BLX(1) of ARM state: to Thumb state. -/
def State.branchExchangeTo (s : State) (target : Word) : State := s.branchStateTo true target

/-- BLX(1) of Thumb state: to ARM state. -/
def State.branchArmTo (s : State) (target : Word) : State := s.branchStateTo false target

/-- Every other write of the PC without a mode change: an indirect branch (61_debug_and_jtag.md R801). -/
def State.jumpTo (s : State) (interworks : Bool) (target : Word) : State :=
  ((s.count .pcChanged).traceIndirect interworks target).setPc target

/-- An interworking write of the PC: T from bit 0 (10_state.md R35 (b), (c)); an ARM target off a word boundary is
refused (93 U30).  From ARM to ARM state the trace buffer records the target itself (61_debug_and_jtag.md R812); bit 0 of what
it records is free where Thumb state is entered or left (93 U25; log entry 35). -/
def State.jumpExchange (s : State) (value : Word) : Result :=
  if bitAt value 0 then .next ((s.jumpTo true (value &&& 0xFFFFFFFE)).setCpsr (setBit 5 true s.core.cpsr))
  else if bitAt value 1 then .refused .unalignedTarget
  else .next ((s.jumpTo s.thumb value).setCpsr (setBit 5 false s.core.cpsr))

/-- A data-processing result written to the PC without S (10_state.md R35 (d)). -/
def State.jumpResult (s : State) (value : Word) : Result :=
  if s.thumb then .next (s.jumpTo false (value &&& 0xFFFFFFFE))
  else if field value 0 2 = 0 then .next (s.jumpTo false value)
  else .refused .unalignedTarget

/-! Exceptions (60_exceptions.md R661, R670). -/

/-- The vector base of Control.V. -/
def State.vectorBase (s : State) : Word := if bitAt s.cp15.control 13 then 0xFFFF0000 else 0

/-- The CPSR of an exception handler: the mode, T = 0, I = 1, and F = 1 where the exception sets it (R670). -/
def handlerCpsr (m : Mode) (setF : Bool) (cpsr : Word) : Word :=
  let w := merge 0x1F cpsr (m.bits.zeroExtend 32)
  let w := setBit 7 true (setBit 5 false w)
  if setF then setBit 6 true w else w

/-- Saves the link value and the CPSR in the bank of a mode and enters the handler's mode (R670). -/
def State.enterMode (s : State) (m : Mode) (setF : Bool) (link : Word) : State :=
  ((s.setBankedReg m 14 link).setSpsrOf m s.core.cpsr).setCpsr (handlerCpsr m setF s.core.cpsr)

/-- TAKING AN EXCEPTION (R670): R14 and SPSR of the mode, the CPSR, the exception message of the trace buffer
(61_debug_and_jtag.md R801), and the PC at the vector. -/
def State.takeException (s : State) (m : Mode) (setF : Bool) (offset link : Word) : State :=
  ((s.enterMode m setF link).traceException offset).setPc (s.vectorBase + offset)

/-- An exception that an instruction raises by what it is: a PC change by software when the mode stays the same
(60_exceptions.md R733, event 0xD; log entry 40). -/
def State.takeByInstruction (s : State) (m : Mode) (offset : Word) : State :=
  let s' := if s.mode = m then s.count .pcChanged else s
  s'.takeException m false offset s.nextPc

/-- Undefined Instruction (R672); in Special Debug State it is refused (93 U32). -/
def State.undefined (s : State) : Result :=
  if s.sds then .refused .exceptionInSds else .next (s.takeByInstruction .und 0x04)

/-- Software Interrupt (R673); in Special Debug State it is refused (93 U32). -/
def State.softwareInterrupt (s : State) : Result :=
  if s.sds then .refused .exceptionInSds else .next (s.takeByInstruction .svc 0x08)

/-- IRQ (R676): the link is the next instruction + 4. -/
def State.takeIrq (s : State) : State := s.takeException .irq false 0x18 (s.core.pc + 4)

/-- FIQ (R677). -/
def State.takeFiq (s : State) : State := s.takeException .fiq true 0x1C (s.core.pc + 4)

/-! Fault status (60_exceptions.md R680-R682). -/

/-- The FSR: X, D, Domain and Status (10_state.md R70). -/
def fsrValue (debug : Bool) (code : BitVec 5) (domain : BitVec 4) : Word :=
  0#21 ++ field code 4 1 ++ BitVec.ofBool debug ++ 0#1 ++ domain ++ field code 0 4

/-- Writes FSR and FAR. -/
def State.setFault (s : State) (fsr far : Word) : State := { s with cp15 := { s.cp15 with fsr := fsr, far := far } }

/-- Why a precise data abort is raised (R681); the domain stands where the table calls it valid. -/
inductive AbortCause where
  | alignment
  | walkFirst
  | walkSecond (domain : BitVec 4)
  | translationSection
  | translationPage (domain : BitVec 4)
  | domainSection (domain : BitVec 4)
  | domainPage (domain : BitVec 4)
  | permissionSection (domain : BitVec 4)
  | permissionPage (domain : BitVec 4)
  | lockAbort
  deriving DecidableEq, Repr

/-- A precise data abort: its cause and the MVA of the access (R681, R682). -/
structure AbortInfo where
  cause : AbortCause
  mva : Word
  deriving DecidableEq, Repr

/-- FSR[10,3:0] (R681; alignment 92 D31). -/
def AbortCause.code : AbortCause → BitVec 5
  | .alignment => 0b00001 | .walkFirst => 0b01100 | .walkSecond _ => 0b01110
  | .translationSection => 0b00101 | .translationPage _ => 0b00111
  | .domainSection _ => 0b01001 | .domainPage _ => 0b01011
  | .permissionSection _ => 0b01101 | .permissionPage _ => 0b01111 | .lockAbort => 0b10100

/-- The Domain field where it is valid (R681). -/
def AbortCause.domain? : AbortCause → Option (BitVec 4)
  | .walkSecond d => some d | .translationPage d => some d | .domainSection d => some d | .domainPage d => some d
  | .permissionSection d => some d | .permissionPage d => some d
  | .alignment => none | .walkFirst => none | .translationSection => none | .lockAbort => none

/-- The FAR is valid for every precise abort but the lock abort (R681, R685). -/
def AbortCause.farValid : AbortCause → Bool
  | .lockAbort => false
  | .alignment => true | .walkFirst => true | .walkSecond _ => true | .translationSection => true
  | .translationPage _ => true | .domainSection _ => true | .domainPage _ => true | .permissionSection _ => true
  | .permissionPage _ => true

/-- FSR and FAR of a precise data abort; the fields called invalid are free values (93 U13, log entry 54). -/
def State.recordDataAbort (s : State) (a : AbortInfo) : State :=
  (s.setFault (fsrValue false a.cause.code (a.cause.domain?.getD (field (s.free 0) 0 4)))
    (if a.cause.farValid then a.mva else s.free 1)).consume 2

/-- FSR and FAR of an imprecise data abort: domain and FAR are free values (R686, 93 U13). -/
def State.recordImprecise (s : State) (parity : Bool) : State :=
  (s.setFault (fsrValue false (if parity then 0b11000 else 0b10110) (field (s.free 0) 0 4)) (s.free 1)).consume 2

/-- DCSR.SA (61_debug_and_jtag.md R765). -/
def State.setStickyAbort (s : State) : State :=
  { s with cp14 := { s.cp14 with dcsr := setBit 5 true s.cp14.dcsr } }

/-- A precise data abort (R675): Abort mode, link the instruction's address + 8.  `counted`: a load of a register other
than the PC, which the trace count includes (61_debug_and_jtag.md R803).  It wins over a data breakpoint (R777), also
over one of an earlier word of the same instruction (log entry 71). -/
def State.takeDataAbort (s : State) (a : AbortInfo) (counted : Bool) : State :=
  let s' := s.recordDataAbort a
  let s' := { s' with pending := { s'.pending with dataBkpt := false } }
  let s' := if counted then s'.traceInstr else s'
  s'.takeException .abt false 0x10 (s.core.pc + 8)

/-- An imprecise data abort (R686), or what Special Debug State makes of it (61_debug_and_jtag.md R771). -/
def State.takeImprecise (s : State) (parity : Bool) : State :=
  let s' := s.recordImprecise parity
  let s' := { s' with pending := { s'.pending with imprecise := none } }
  if s.sds then s'.setStickyAbort else s'.takeException .abt false 0x10 (s.core.pc + 4)

/-- Why a prefetch abort is raised, in priority order (R680). -/
inductive PrefetchCause where
  | mmu | external | parity
  deriving DecidableEq, Repr

/-- FSR[10,3:0] of a prefetch abort (R680). -/
def PrefetchCause.code : PrefetchCause → BitVec 5
  | .mmu => 0b10000 | .external => 0b10110 | .parity => 0b11000

/-- A prefetch abort (R674): the link is the instruction's address + 4; FSR domain and FAR are free values (93 U13). -/
def State.takePrefetchAbort (s : State) (c : PrefetchCause) : State :=
  let s' := (s.setFault (fsrValue false c.code (field (s.free 0) 0 4)) (s.free 1)).consume 2
  s'.takeException .abt false 0x0C (s.core.pc + 4)

/-! Debug exceptions (61_debug_and_jtag.md R772, R773). -/

/-- The method of entry (R766). -/
inductive DebugCause where
  | instrBkpt | dataBkpt | software | external | vectorTrap | traceFull
  deriving DecidableEq, Repr

/-- DCSR.MOE (R766). -/
def DebugCause.moe : DebugCause → BitVec 3
  | .instrBkpt => 1 | .dataBkpt => 2 | .software => 3 | .external => 4 | .vectorTrap => 5 | .traceFull => 6

/-- In Monitor mode these are prefetch aborts, the others data aborts (R773). -/
def DebugCause.isPrefetch : DebugCause → Bool
  | .instrBkpt => true | .software => true | .vectorTrap => true
  | .dataBkpt => false | .external => false | .traceFull => false

/-- Disables the trace buffer, writes MOE, and clears the breaks that were pending (R772, R773, R778, R783, R844).  That a data
breakpoint which is pending when a vector trap is taken is lost with them is log entry 78. -/
def State.noteDebugEntry (s : State) (c : DebugCause) : State :=
  { s with
    cp14 := { s.cp14 with dcsr := merge 0x1D s.cp14.dcsr (0#27 ++ c.moe ++ 0#2) }
    pending := { s.pending with extBreak := false, traceFull := false, dataBkpt := false }
    jtag := { s.jtag with dbgReg := s.jtag.dbgReg &&& ~~~2#35 } }

/-- Entry in Halt mode (R772): Special Debug State, DEBUG mode, I = F = 1; R13_dbg is a free value (R43). -/
def State.enterHalt (s : State) (c : DebugCause) (link : Word) : State :=
  let s' := (s.noteDebugEntry c).enterMode .dbg true link
  let s' := (s'.setBankedReg .dbg 13 (s.free 0)).consume 1
  { s'.setPc s.vectorBase with sds := true }

/-- Entry in Monitor mode (R773): Abort mode; FSR[9] = 1 and the rest of FSR and FAR free values (93 U13). -/
def State.enterMonitor (s : State) (c : DebugCause) (link : Word) : State :=
  let s' := s.noteDebugEntry c
  let s' := (s'.setFault (fsrValue true (field (s.free 0) 4 5) (field (s.free 0) 0 4)) (s.free 1)).consume 2
  (s'.enterMode .abt false link).setPc (s.vectorBase + (if c.isPrefetch then 0x0C else 0x10))

/-- TAKING A DEBUG EXCEPTION: Halt mode or Monitor mode (60_exceptions.md R710); the link is the PC + 4 in all cases. -/
def State.takeDebug (s : State) (c : DebugCause) : State :=
  if s.haltMode then s.enterHalt c (s.core.pc + 4) else s.enterMonitor c (s.core.pc + 4)

/-! Returning from an exception (60_exceptions.md R690). -/

/-- The CPSR restore: it ends Special Debug State; User and System mode have no SPSR, and a value that names no mode, or
DEBUG mode, is refused (93 U31, log entry 47). -/
def State.restoreCpsr (s : State) : Except Refusal State :=
  match s.spsrOf s.mode with
  | none => .error .noSpsr
  | some w =>
    match Mode.ofBits (field w 0 5) with
    | none => .error .illegalModeWrite
    | some .dbg => .error .illegalModeWrite
    | some _ => .ok { s.setCpsr w with sds := false }

/-- The PC after a restore: aligned for the restored T (10_state.md R35 (e)). -/
def alignForState (thumb : Bool) (value : Word) : Word := if thumb then value &&& 0xFFFFFFFE else value &&& 0xFFFFFFFC

/-- RETURNING FROM AN EXCEPTION (R690): the CPSR restore, then the PC.  It is a PC change by software when the mode stays
the same (R733).  The trace buffer records the target itself (61_debug_and_jtag.md R804, R808): a return is no
interworking branch of 93 U25. -/
def State.returnTo (s : State) (value : Word) : Result :=
  match s.restoreCpsr with
  | .error r => .refused r
  | .ok s' =>
    let target := alignForState s'.thumb value
    let s'' := if s'.mode = s.mode then s'.count .pcChanged else s'
    .next ((s''.traceIndirect false target).setPc target)

/-! The results of a memory access. -/

/-- A memory access completes, or takes a precise data abort, or is refused. -/
inductive Access (α : Type) where
  | ok (a : α) (s : State)
  | abort (i : AbortInfo) (s : State)
  | stop (r : Refusal)

end Sys2Proof.Machine
end

