-- ==== Sys2Proof/Syntax.lean ====
section
/-! DEFINITION. The instructions: one constructor for each of the 178 rows of spec/opcode_table.json, in the
table's order (30_encoding.md R312).  A constructor keeps every bit of the encoding, the ignored ones too. -/

namespace Sys2Proof

/-- The condition field of a conditional ARM instruction (30_encoding.md R281); 0b1111 is no condition. -/
inductive Cond where
  | eq | ne | cs | cc | mi | pl | vs | vc | hi | ls | ge | lt | gt | le | al
  deriving DecidableEq, Repr

/-- The four shift types (30_encoding.md R284). -/
inductive ShiftKind where
  | lsl | lsr | asr | ror
  deriving DecidableEq, Repr

/-- The shifter operand of a data-processing instruction (42_arm_data_processing.md R401, R402, R403). -/
inductive ShifterOp where
  | imm (rotate : BitVec 4) (immed : Byte)
  | shiftImm (amount : BitVec 5) (kind : ShiftKind) (rm : Reg)
  | shiftReg (rs : Reg) (kind : ShiftKind) (rm : Reg)
  deriving DecidableEq, Repr

/-- The offset of addressing mode 2 (44_arm_load_store.md R490). -/
inductive Offset2 where
  | imm (offset : BitVec 12)
  | scaled (amount : BitVec 5) (kind : ShiftKind) (rm : Reg)
  deriving DecidableEq, Repr

/-- The offset of addressing mode 3 (44_arm_load_store.md R492); `sbz` is the ignored field [11:8]. -/
inductive Offset3 where
  | imm (offset : Byte)
  | reg (sbz : BitVec 4) (rm : Reg)
  deriving DecidableEq, Repr

/-- The P and W bits of addressing modes 2 and 3 (44_arm_load_store.md R491): offset (1,0), pre-indexed (1,1),
post-indexed (0,0), and (0,1), which is the T forms in mode 2 and UNPREDICTABLE in mode 3. -/
inductive Indexing where
  | offset | preIndexed | postIndexed | postW
  deriving DecidableEq, Repr

/-- The P and U bits of addressing mode 4 (44_arm_load_store.md R520). -/
inductive BlockMode where
  | da | ia | db | ib
  deriving DecidableEq, Repr

/-- The source of the operand of a half-register multiply: B = bits 15:0, T = bits 31:16 (43_arm_multiply.md R460). -/
inductive HalfSel where
  | b | t
  deriving DecidableEq, Repr

/-- The instructions, row by row of the opcode table.  ARM rows first (`c` is the condition), then the Thumb rows,
whose names begin with `t`.  `bit4` of `pld` is bit 4 of its register form, which the row's mask leaves free (R296(b)). -/
inductive Instr where
  | pld (u : Bool) (rn : Reg) (off : Offset2) (bit4 : Bool)
  | blxImm (h : Bool) (imm24 : BitVec 24)
  | undefUncond (low : BitVec 28)
  | bkpt (immHi : BitVec 12) (immLo : BitVec 4)
  | undefBkptCond (c : Cond) (immHi : BitVec 12) (immLo : BitVec 4)
  | mrs (c : Cond) (r : Bool) (rd : Reg)
  | msrReg (c : Cond) (r : Bool) (mask : BitVec 4) (rm : Reg)
  | bx (c : Cond) (rm : Reg)
  | blxReg (c : Cond) (rm : Reg)
  | clz (c : Cond) (rd rm : Reg)
  | qadd (c : Cond) (rn rd rm : Reg)
  | qsub (c : Cond) (rn rd rm : Reg)
  | qdadd (c : Cond) (rn rd rm : Reg)
  | qdsub (c : Cond) (rn rd rm : Reg)
  | smlaxy (c : Cond) (rd rn rs : Reg) (y x : HalfSel) (rm : Reg)
  | smlawy (c : Cond) (rd rn rs : Reg) (y : HalfSel) (rm : Reg)
  | smulwy (c : Cond) (rd : Reg) (sbz : BitVec 4) (rs : Reg) (y : HalfSel) (rm : Reg)
  | smlalxy (c : Cond) (rdHi rdLo rs : Reg) (y x : HalfSel) (rm : Reg)
  | smulxy (c : Cond) (rd : Reg) (sbz : BitVec 4) (rs : Reg) (y x : HalfSel) (rm : Reg)
  | mul (c : Cond) (s : Bool) (rd : Reg) (sbz : BitVec 4) (rs rm : Reg)
  | mla (c : Cond) (s : Bool) (rd rn rs rm : Reg)
  | umull (c : Cond) (s : Bool) (rdHi rdLo rs rm : Reg)
  | umlal (c : Cond) (s : Bool) (rdHi rdLo rs rm : Reg)
  | smull (c : Cond) (s : Bool) (rdHi rdLo rs rm : Reg)
  | smlal (c : Cond) (s : Bool) (rdHi rdLo rs rm : Reg)
  | swp (c : Cond) (rn rd rm : Reg)
  | swpb (c : Cond) (rn rd rm : Reg)
  | strh (c : Cond) (ix : Indexing) (u : Bool) (rn rd : Reg) (off : Offset3)
  | ldrd (c : Cond) (ix : Indexing) (u : Bool) (rn rd : Reg) (off : Offset3)
  | strd (c : Cond) (ix : Indexing) (u : Bool) (rn rd : Reg) (off : Offset3)
  | ldrh (c : Cond) (ix : Indexing) (u : Bool) (rn rd : Reg) (off : Offset3)
  | ldrsb (c : Cond) (ix : Indexing) (u : Bool) (rn rd : Reg) (off : Offset3)
  | ldrsh (c : Cond) (ix : Indexing) (u : Bool) (rn rd : Reg) (off : Offset3)
  | undefMulSpace (c : Cond) (low : BitVec 28)
  | undefArch (c : Cond) (low : BitVec 28)
  | mia (c : Cond) (rs rm : Reg)
  | miaph (c : Cond) (rs rm : Reg)
  | miabb (c : Cond) (rs rm : Reg)
  | miabt (c : Cond) (rs rm : Reg)
  | miatb (c : Cond) (rs rm : Reg)
  | miatt (c : Cond) (rs rm : Reg)
  | mar (c : Cond) (rdHi rdLo : Reg)
  | mra (c : Cond) (rdHi rdLo : Reg)
  | cp0TransferOther (c : Cond) (l : Bool) (rn rd : Reg) (low : Byte)
  | cp0Other (c : Cond) (op1 : BitVec 3) (bit20 : Bool) (crn rd : BitVec 4) (op2 : BitVec 3) (bit4 : Bool) (crm : BitVec 4)
  | mcrr (c : Cond) (rn rd : Reg) (cp op crm : BitVec 4)
  | mrrc (c : Cond) (rn rd : Reg) (cp op crm : BitVec 4)
  | undefLdcStc (c : Cond) (l : Bool) (low : BitVec 20)
  | ldc (c : Cond) (p u n w : Bool) (rn : Reg) (crd cp : BitVec 4) (off : Byte)
  | stc (c : Cond) (p u n w : Bool) (rn : Reg) (crd cp : BitVec 4) (off : Byte)
  | cdp (c : Cond) (op1 crn crd cp : BitVec 4) (op2 : BitVec 3) (crm : BitVec 4)
  | invIDCacheBtb (c : Cond) (rd : Reg)
  | invICacheBtb (c : Cond) (rd : Reg)
  | invICacheLine (c : Cond) (rd : Reg)
  | invDCache (c : Cond) (rd : Reg)
  | invDCacheLine (c : Cond) (rd : Reg)
  | cleanDCacheLine (c : Cond) (rd : Reg)
  | drainWriteBuffer (c : Cond) (rd : Reg)
  | invBtb (c : Cond) (rd : Reg)
  | allocDCacheLine (c : Cond) (rd : Reg)
  | invIDTlb (c : Cond) (rd : Reg)
  | invITlb (c : Cond) (rd : Reg)
  | invITlbEntry (c : Cond) (rd : Reg)
  | invDTlb (c : Cond) (rd : Reg)
  | invDTlbEntry (c : Cond) (rd : Reg)
  | lockICacheLine (c : Cond) (rd : Reg)
  | unlockICache (c : Cond) (rd : Reg)
  | readDCacheLock (c : Cond) (rd : Reg)
  | writeDCacheLock (c : Cond) (rd : Reg)
  | unlockDCache (c : Cond) (rd : Reg)
  | lockITlbEntry (c : Cond) (rd : Reg)
  | lockDTlbEntry (c : Cond) (rd : Reg)
  | unlockITlb (c : Cond) (rd : Reg)
  | unlockDTlb (c : Cond) (rd : Reg)
  | mcr (c : Cond) (op1 : BitVec 3) (crn : BitVec 4) (rd : Reg) (cp : BitVec 4) (op2 : BitVec 3) (crm : BitVec 4)
  | mrc (c : Cond) (op1 : BitVec 3) (crn : BitVec 4) (rd : Reg) (cp : BitVec 4) (op2 : BitVec 3) (crm : BitVec 4)
  | swi (c : Cond) (imm24 : BitVec 24)
  | b (c : Cond) (imm24 : BitVec 24)
  | bl (c : Cond) (imm24 : BitVec 24)
  | ldm (c : Cond) (m : BlockMode) (w : Bool) (rn : Reg) (list : BitVec 16)
  | ldmUser (c : Cond) (m : BlockMode) (w : Bool) (rn : Reg) (list : BitVec 15)
  | ldmRet (c : Cond) (m : BlockMode) (w : Bool) (rn : Reg) (list : BitVec 15)
  | stm (c : Cond) (m : BlockMode) (w : Bool) (rn : Reg) (list : BitVec 16)
  | stmUser (c : Cond) (m : BlockMode) (w : Bool) (rn : Reg) (list : BitVec 16)
  | ldrt (c : Cond) (u : Bool) (rn rd : Reg) (off : Offset2)
  | ldrbt (c : Cond) (u : Bool) (rn rd : Reg) (off : Offset2)
  | strt (c : Cond) (u : Bool) (rn rd : Reg) (off : Offset2)
  | strbt (c : Cond) (u : Bool) (rn rd : Reg) (off : Offset2)
  | ldr (c : Cond) (ix : Indexing) (u : Bool) (rn rd : Reg) (off : Offset2)
  | ldrb (c : Cond) (ix : Indexing) (u : Bool) (rn rd : Reg) (off : Offset2)
  | str (c : Cond) (ix : Indexing) (u : Bool) (rn rd : Reg) (off : Offset2)
  | strb (c : Cond) (ix : Indexing) (u : Bool) (rn rd : Reg) (off : Offset2)
  | msrImm (c : Cond) (r : Bool) (mask rotate : BitVec 4) (immed : Byte)
  | and (c : Cond) (s : Bool) (rn rd : Reg) (op2 : ShifterOp)
  | eor (c : Cond) (s : Bool) (rn rd : Reg) (op2 : ShifterOp)
  | sub (c : Cond) (s : Bool) (rn rd : Reg) (op2 : ShifterOp)
  | rsb (c : Cond) (s : Bool) (rn rd : Reg) (op2 : ShifterOp)
  | add (c : Cond) (s : Bool) (rn rd : Reg) (op2 : ShifterOp)
  | adc (c : Cond) (s : Bool) (rn rd : Reg) (op2 : ShifterOp)
  | sbc (c : Cond) (s : Bool) (rn rd : Reg) (op2 : ShifterOp)
  | rsc (c : Cond) (s : Bool) (rn rd : Reg) (op2 : ShifterOp)
  | tst (c : Cond) (rn : Reg) (rd : Reg) (op2 : ShifterOp)
  | teq (c : Cond) (rn : Reg) (rd : Reg) (op2 : ShifterOp)
  | cmp (c : Cond) (rn : Reg) (rd : Reg) (op2 : ShifterOp)
  | cmn (c : Cond) (rn : Reg) (rd : Reg) (op2 : ShifterOp)
  | orr (c : Cond) (s : Bool) (rn rd : Reg) (op2 : ShifterOp)
  | mov (c : Cond) (s : Bool) (sbz : BitVec 4) (rd : Reg) (op2 : ShifterOp)
  | bic (c : Cond) (s : Bool) (rn rd : Reg) (op2 : ShifterOp)
  | mvn (c : Cond) (s : Bool) (sbz : BitVec 4) (rd : Reg) (op2 : ShifterOp)
  | undefRest (c : Cond) (low : BitVec 28)
  | tBx (h2 : Bool) (rm : LowReg)
  | tBlxReg (h2 : Bool) (rm : LowReg)
  | tLslImm (imm : BitVec 5) (rm rd : LowReg)
  | tLsrImm (imm : BitVec 5) (rm rd : LowReg)
  | tAsrImm (imm : BitVec 5) (rm rd : LowReg)
  | tAddReg (rm rn rd : LowReg)
  | tSubReg (rm rn rd : LowReg)
  | tAddImm3 (imm : BitVec 3) (rn rd : LowReg)
  | tSubImm3 (imm : BitVec 3) (rn rd : LowReg)
  | tMovImm (rd : LowReg) (imm : Byte)
  | tCmpImm (rn : LowReg) (imm : Byte)
  | tAddImm8 (rd : LowReg) (imm : Byte)
  | tSubImm8 (rd : LowReg) (imm : Byte)
  | tAnd (rm rd : LowReg)
  | tEor (rm rd : LowReg)
  | tLslReg (rs rd : LowReg)
  | tLsrReg (rs rd : LowReg)
  | tAsrReg (rs rd : LowReg)
  | tAdc (rm rd : LowReg)
  | tSbc (rm rd : LowReg)
  | tRor (rs rd : LowReg)
  | tTst (rm rn : LowReg)
  | tNeg (rm rd : LowReg)
  | tCmpReg (rm rn : LowReg)
  | tCmn (rm rn : LowReg)
  | tOrr (rm rd : LowReg)
  | tMul (rm rd : LowReg)
  | tBic (rm rd : LowReg)
  | tMvn (rm rd : LowReg)
  | tAddHigh (h1 h2 : Bool) (rm rd : LowReg)
  | tCmpHigh (h1 h2 : Bool) (rm rn : LowReg)
  | tMovHigh (h1 h2 : Bool) (rm rd : LowReg)
  | tLdrPc (rd : LowReg) (imm : Byte)
  | tStrReg (rm rn rd : LowReg)
  | tStrhReg (rm rn rd : LowReg)
  | tStrbReg (rm rn rd : LowReg)
  | tLdrsb (rm rn rd : LowReg)
  | tLdrReg (rm rn rd : LowReg)
  | tLdrhReg (rm rn rd : LowReg)
  | tLdrbReg (rm rn rd : LowReg)
  | tLdrsh (rm rn rd : LowReg)
  | tStrImm (imm : BitVec 5) (rn rd : LowReg)
  | tLdrImm (imm : BitVec 5) (rn rd : LowReg)
  | tStrbImm (imm : BitVec 5) (rn rd : LowReg)
  | tLdrbImm (imm : BitVec 5) (rn rd : LowReg)
  | tStrhImm (imm : BitVec 5) (rn rd : LowReg)
  | tLdrhImm (imm : BitVec 5) (rn rd : LowReg)
  | tStrSp (rd : LowReg) (imm : Byte)
  | tLdrSp (rd : LowReg) (imm : Byte)
  | tAddPc (rd : LowReg) (imm : Byte)
  | tAddSp (rd : LowReg) (imm : Byte)
  | tIncSp (imm : BitVec 7)
  | tDecSp (imm : BitVec 7)
  | tPush (r : Bool) (list : Byte)
  | tPop (r : Bool) (list : Byte)
  | tBkpt (imm : Byte)
  | tUndefMisc (low : BitVec 12)
  | tStmia (rn : LowReg) (list : Byte)
  | tLdmia (rn : LowReg) (list : Byte)
  | tUndefDE (imm : Byte)
  | tSwi (imm : Byte)
  | tBCond (c : Cond) (imm : Byte)
  | tB (imm : BitVec 11)
  | tUndefBlx (imm : BitVec 10)
  | tBlxSuffix (imm : BitVec 10)
  | tBlHead (imm : BitVec 11)
  | tBlSuffix (imm : BitVec 11)
  | tUndefRest (low : BitVec 16)
  deriving DecidableEq, Repr

end Sys2Proof
end

