-- ==== Sys2Proof/Machine/Flags.lean ====
section
/-! DEFINITION. Conditions, flag computation and saturation (30_encoding.md R281, R282; 42_arm_data_processing.md R404,
R426; 10_state.md R37, R38). -/

namespace Sys2Proof.Machine

/-- `ConditionPassed` on flags N, Z, C, V (R281). -/
def condHolds (c : Cond) (n z cf v : Bool) : Bool :=
  match c with
  | .eq => z | .ne => !z | .cs => cf | .cc => !cf | .mi => n | .pl => !n | .vs => v | .vc => !v
  | .hi => cf && !z | .ls => !cf || z | .ge => n == v | .lt => n != v
  | .gt => !z && n == v | .le => z || n != v | .al => true

/-- The condition holds on the CPSR flags before the instruction (R282). -/
def State.passed (s : State) (c : Cond) : Bool := condHolds c s.flagN s.flagZ s.flagC s.flagV

/-- What an operation of the ALU gives: the result, and the values of C and V. -/
structure AluOut where
  value : Word
  c : Bool
  v : Bool
  deriving DecidableEq, Repr

/-- `AddWithCarry` (R404): the unbounded unsigned and signed sums against the 32-bit result. -/
def addWithCarry (x y : Word) (cin : Bool) : AluOut :=
  let usum := x.toNat + y.toNat + cin.toNat
  let ssum := x.toInt + y.toInt + (cin.toNat : Int)
  let result := BitVec.ofNat 32 usum
  { value := result, c := decide (2 ^ 32 ≤ usum), v := decide (result.toInt ≠ ssum) }

/-- Subtraction x - y (R404): C is NOT borrow. -/
def subtract (x y : Word) : AluOut := addWithCarry x (~~~y) true

/-- A CPSR with its flags N, Z, C, V replaced. -/
def withNzcv (n z c v : Bool) (cpsr : Word) : Word :=
  merge 0xF0000000 cpsr (BitVec.ofBool n ++ BitVec.ofBool z ++ BitVec.ofBool c ++ BitVec.ofBool v ++ 0#28)

/-- A CPSR with its flags N and Z replaced (43_arm_multiply.md R450). -/
def withNz (n z : Bool) (cpsr : Word) : Word :=
  merge 0xC0000000 cpsr (BitVec.ofBool n ++ BitVec.ofBool z ++ 0#30)

/-- The flags of an ALU result (R404). -/
def State.setAluFlags (s : State) (o : AluOut) : State :=
  s.setCpsr (withNzcv o.value.msb (o.value == 0) o.c o.v s.core.cpsr)

/-- N and Z of a result (R450); C and V stay (92 D14). -/
def State.setNz (s : State) (n z : Bool) : State := s.setCpsr (withNz n z s.core.cpsr)

/-- Sets Q where `b`; nothing clears it (10_state.md R38). -/
def State.raiseQ (s : State) (b : Bool) : State := if b then s.setCpsr (setBit 27 true s.core.cpsr) else s

/-- `DoesSat32` (R426). -/
def doesSat32 (x : Int) : Bool := decide (x > 2147483647) || decide (x < -2147483648)

/-- `SignedSat32` (R426). -/
def signedSat32 (x : Int) : Word :=
  if x > 2147483647 then 0x7FFFFFFF else if x < -2147483648 then 0x80000000 else BitVec.ofInt 32 x

end Sys2Proof.Machine
end

