-- ==== Sys2Proof/Machine/Operands.lean ====
section
/-! DEFINITION. Operand forms: the shifter operand (42_arm_data_processing.md R401-R403) and the addressing modes 2, 3,
4 and 5 (44_arm_load_store.md R490-R492, R520; 41_coprocessor_access.md R368). -/

namespace Sys2Proof.Machine

/-! Shifts by a number of places: the result and the carry-out; by 0 nothing moves and the carry stays (R403). -/

/-- LSL (R402, R403). -/
def shiftLsl (m : Word) (n : Nat) (c : Bool) : Word × Bool :=
  if n = 0 then (m, c) else if n ≤ 32 then (m <<< n, bitAt m (32 - n)) else (0, false)

/-- LSR (R402, R403). -/
def shiftLsr (m : Word) (n : Nat) (c : Bool) : Word × Bool :=
  if n = 0 then (m, c) else (m >>> n, bitAt m (n - 1))

/-- ASR (R402, R403). -/
def shiftAsr (m : Word) (n : Nat) (c : Bool) : Word × Bool :=
  if n = 0 then (m, c)
  else if n < 32 then (m.sshiftRight n, bitAt m (n - 1))
  else (if m.msb then 0xFFFFFFFF else 0, m.msb)

/-- ROR (R402, R403). -/
def shiftRor (m : Word) (n : Nat) (c : Bool) : Word × Bool :=
  if n = 0 then (m, c)
  else if n % 32 = 0 then (m, m.msb)
  else (m.rotateRight (n % 32), bitAt m (n % 32 - 1))

/-- RRX (R402). -/
def shiftRrx (m : Word) (c : Bool) : Word × Bool := (BitVec.ofBool c ++ field m 1 31, bitAt m 0)

/-- A register shifted by an immediate (R402): 0 means 32 for LSR and ASR, and RRX for ROR. -/
def immShift (kind : ShiftKind) (m : Word) (amount : BitVec 5) (c : Bool) : Word × Bool :=
  match kind with
  | .lsl => shiftLsl m amount.toNat c
  | .lsr => shiftLsr m (if amount = 0 then 32 else amount.toNat) c
  | .asr => shiftAsr m (if amount = 0 then 32 else amount.toNat) c
  | .ror => if amount = 0 then shiftRrx m c else shiftRor m amount.toNat c

/-- A register shifted by the low byte of a register (R403). -/
def regShift (kind : ShiftKind) (m : Word) (n : Byte) (c : Bool) : Word × Bool :=
  match kind with
  | .lsl => shiftLsl m n.toNat c
  | .lsr => shiftLsr m n.toNat c
  | .asr => shiftAsr m n.toNat c
  | .ror => shiftRor m n.toNat c

/-- The rotated 8-bit immediate and its carry-out (R401, 30_encoding.md R285). -/
def rotatedImm (rotate : BitVec 4) (immed : Byte) (c : Bool) : Word × Bool :=
  let v := (immed.zeroExtend 32).rotateRight (2 * rotate.toNat)
  (v, if rotate = 0 then c else v.msb)

/-- The shifter operand and the shifter carry-out (R400). -/
def State.shifter (s : State) : ShifterOp → Word × Bool
  | .imm rotate immed => rotatedImm rotate immed s.flagC
  | .shiftImm amount kind rm => immShift kind (s.reg rm) amount s.flagC
  | .shiftReg rs kind rm => regShift kind (s.reg rm) (field (s.reg rs) 0 8) s.flagC

end Sys2Proof.Machine

/-- A register-specified shift that names R15 as any of its registers, which is refused (R403, 93 U2 (a)). -/
def Sys2Proof.ShifterOp.namesPc (rn rd : Sys2Proof.Reg) : Sys2Proof.ShifterOp → Bool
  | .imm _ _ => false
  | .shiftImm _ _ _ => false
  | .shiftReg rs _ rm => rs == 15 || rm == 15 || rn == 15 || rd == 15

/-- The offset register of addressing mode 2 is R15, which is refused (R490, 93 U2 (a)). -/
def Sys2Proof.Offset2.namesPc : Sys2Proof.Offset2 → Bool
  | .imm _ => false
  | .scaled _ _ rm => rm == 15

/-- The offset is a register rotated with extend (61_debug_and_jtag.md R781). -/
def Sys2Proof.Offset2.isRrx : Sys2Proof.Offset2 → Bool
  | .imm _ => false
  | .scaled amount kind _ => amount == 0 && kind == .ror

/-- The offset register of addressing mode 3 is R15, which is refused (R492, 93 U2 (a)). -/
def Sys2Proof.Offset3.namesPc : Sys2Proof.Offset3 → Bool
  | .imm _ => false
  | .reg _ rm => rm == 15

/-- The offset register of addressing mode 3, where there is one. -/
def Sys2Proof.Offset3.reg? : Sys2Proof.Offset3 → Option Sys2Proof.Reg
  | .imm _ => none
  | .reg _ rm => some rm

/-- The access is made at the base and the base moves afterwards (R491). -/
def Sys2Proof.Indexing.isPost : Sys2Proof.Indexing → Bool
  | .offset => false | .preIndexed => false | .postIndexed => true | .postW => true

/-- The base is written back (R491). -/
def Sys2Proof.Indexing.writesBack : Sys2Proof.Indexing → Bool
  | .offset => false | .preIndexed => true | .postIndexed => true | .postW => true

namespace Sys2Proof.Machine

/-- The offset of addressing mode 2 (R490); the shifter carry-out is not used. -/
def State.offset2 (s : State) : Offset2 → Word
  | .imm offset => offset.zeroExtend 32
  | .scaled amount kind rm => (immShift kind (s.reg rm) amount s.flagC).1

/-- The offset of addressing mode 3 (R492). -/
def State.offset3 (s : State) : Offset3 → Word
  | .imm offset => offset.zeroExtend 32
  | .reg _ rm => s.reg rm

/-- An address of modes 2, 3 and 5: the address of the access, and the base afterwards where it is written back. -/
structure Address where
  va : Word
  newBase : Option Word
  deriving DecidableEq, Repr

/-- `offset_addr` (R490): U adds, else subtracts, modulo 2^32. -/
def offsetAddr (u : Bool) (base offset : Word) : Word := if u then base + offset else base - offset

/-- The address and the base afterwards (R491). -/
def indexedAddress (ix : Indexing) (u : Bool) (base offset : Word) : Address :=
  { va := if ix.isPost then base else offsetAddr u base offset
    newBase := if ix.writesBack then some (offsetAddr u base offset) else none }

/-- Addressing mode 2 (R490, R491). -/
def State.address2 (s : State) (ix : Indexing) (u : Bool) (rn : Reg) (off : Offset2) : Address :=
  indexedAddress ix u (s.reg rn) (s.offset2 off)

/-- Addressing mode 3 (R492, R491). -/
def State.address3 (s : State) (ix : Indexing) (u : Bool) (rn : Reg) (off : Offset3) : Address :=
  indexedAddress ix u (s.reg rn) (s.offset3 off)

/-- Addressing mode 5 (41_coprocessor_access.md R368); P = W = 0 with U = 1 is the unindexed form. -/
def State.address5 (s : State) (p u w : Bool) (rn : Reg) (off : Byte) : Address :=
  let moved := offsetAddr u (s.reg rn) (off.zeroExtend 32 <<< 2)
  { va := if p then moved else s.reg rn
    newBase := if w then some moved else none }

/-- The registers of a list, in ascending order (R520). -/
def listRegs (list : BitVec 16) : List Reg :=
  (([0, 1, 2, 3, 4, 5, 6, 7] : List Reg) ++ [8, 9, 10, 11, 12, 13, 14, 15]).filter (fun r => bitAt list r.toNat)

/-- The start address and the base after write-back of addressing mode 4 (R520); `n` registers. -/
def blockAddress (m : BlockMode) (base : Word) (n : Nat) : Word × Word :=
  let size : Word := BitVec.ofNat 32 (4 * n)
  match m with
  | .ia => (base, base + size)
  | .ib => (base + 4, base + size)
  | .da => (base - size + 4, base - size)
  | .db => (base - size, base - size)

/-- What a store of a register stores (R494, R497): R15 is the instruction's address + `StorePcOffset` (92 D12). -/
def State.storeReg (s : State) (n : Reg) : Word :=
  if n = 15 then s.core.pc + (if Config.storesPcPlus12 then 12 else 8) else s.reg n

end Sys2Proof.Machine
end

