-- ==== Sys2Proof/Machine/DebugRegs.lean ====
section
/-! DEFINITION. The condition of an instruction, and the uses of R13 that DEBUG mode forbids (30_encoding.md R281;
10_state.md R43). -/

namespace Sys2Proof.Machine

/-- The condition of a conditional instruction (30_encoding.md R281, R282). -/
def condOf : Instr → Option Cond
  | .undefBkptCond c _ _ | .mrs c _ _ | .msrReg c _ _ _ | .bx c _ | .blxReg c _ | .clz c _ _ | .qadd c _ _ _
  | .qsub c _ _ _ | .qdadd c _ _ _ | .qdsub c _ _ _ | .smlaxy c _ _ _ _ _ _ | .smlawy c _ _ _ _ _
  | .smulwy c _ _ _ _ _ | .smlalxy c _ _ _ _ _ _ | .smulxy c _ _ _ _ _ _ | .mul c _ _ _ _ _ | .mla c _ _ _ _ _
  | .umull c _ _ _ _ _ | .umlal c _ _ _ _ _ | .smull c _ _ _ _ _ | .smlal c _ _ _ _ _ | .swp c _ _ _
  | .swpb c _ _ _ | .strh c _ _ _ _ _ | .ldrd c _ _ _ _ _ | .strd c _ _ _ _ _ | .ldrh c _ _ _ _ _
  | .ldrsb c _ _ _ _ _ | .ldrsh c _ _ _ _ _ | .undefMulSpace c _ | .undefArch c _ | .mia c _ _ | .miaph c _ _
  | .miabb c _ _ | .miabt c _ _ | .miatb c _ _ | .miatt c _ _ | .mar c _ _ | .mra c _ _
  | .cp0TransferOther c _ _ _ _ | .cp0Other c _ _ _ _ _ _ _ | .mcrr c _ _ _ _ _ | .mrrc c _ _ _ _ _
  | .undefLdcStc c _ _ | .ldc c _ _ _ _ _ _ _ _ | .stc c _ _ _ _ _ _ _ _ | .cdp c _ _ _ _ _ _
  | .invIDCacheBtb c _ | .invICacheBtb c _ | .invICacheLine c _ | .invDCache c _ | .invDCacheLine c _
  | .cleanDCacheLine c _ | .drainWriteBuffer c _ | .invBtb c _ | .allocDCacheLine c _ | .invIDTlb c _
  | .invITlb c _ | .invITlbEntry c _ | .invDTlb c _ | .invDTlbEntry c _ | .lockICacheLine c _
  | .unlockICache c _ | .readDCacheLock c _ | .writeDCacheLock c _ | .unlockDCache c _ | .lockITlbEntry c _
  | .lockDTlbEntry c _ | .unlockITlb c _ | .unlockDTlb c _ | .mcr c _ _ _ _ _ _ | .mrc c _ _ _ _ _ _ | .swi c _
  | .b c _ | .bl c _ | .ldm c _ _ _ _ | .ldmUser c _ _ _ _ | .ldmRet c _ _ _ _ | .stm c _ _ _ _
  | .stmUser c _ _ _ _ | .ldrt c _ _ _ _ | .ldrbt c _ _ _ _ | .strt c _ _ _ _ | .strbt c _ _ _ _
  | .ldr c _ _ _ _ _ | .ldrb c _ _ _ _ _ | .str c _ _ _ _ _ | .strb c _ _ _ _ _ | .msrImm c _ _ _ _
  | .and c _ _ _ _ | .eor c _ _ _ _ | .sub c _ _ _ _ | .rsb c _ _ _ _ | .add c _ _ _ _ | .adc c _ _ _ _
  | .sbc c _ _ _ _ | .rsc c _ _ _ _ | .tst c _ _ _ | .teq c _ _ _ | .cmp c _ _ _ | .cmn c _ _ _
  | .orr c _ _ _ _ | .mov c _ _ _ _ | .bic c _ _ _ _ | .mvn c _ _ _ _ | .undefRest c _ | .tBCond c _ => some c
  | .pld _ _ _ _ | .blxImm _ _ | .undefUncond _ | .bkpt _ _ | .tBx _ _ | .tBlxReg _ _ | .tLslImm _ _ _
  | .tLsrImm _ _ _ | .tAsrImm _ _ _ | .tAddReg _ _ _ | .tSubReg _ _ _ | .tAddImm3 _ _ _ | .tSubImm3 _ _ _
  | .tMovImm _ _ | .tCmpImm _ _ | .tAddImm8 _ _ | .tSubImm8 _ _ | .tAnd _ _ | .tEor _ _ | .tLslReg _ _
  | .tLsrReg _ _ | .tAsrReg _ _ | .tAdc _ _ | .tSbc _ _ | .tRor _ _ | .tTst _ _ | .tNeg _ _ | .tCmpReg _ _
  | .tCmn _ _ | .tOrr _ _ | .tMul _ _ | .tBic _ _ | .tMvn _ _ | .tAddHigh _ _ _ _ | .tCmpHigh _ _ _ _
  | .tMovHigh _ _ _ _ | .tLdrPc _ _ | .tStrReg _ _ _ | .tStrhReg _ _ _ | .tStrbReg _ _ _ | .tLdrsb _ _ _
  | .tLdrReg _ _ _ | .tLdrhReg _ _ _ | .tLdrbReg _ _ _ | .tLdrsh _ _ _ | .tStrImm _ _ _ | .tLdrImm _ _ _
  | .tStrbImm _ _ _ | .tLdrbImm _ _ _ | .tStrhImm _ _ _ | .tLdrhImm _ _ _ | .tStrSp _ _ | .tLdrSp _ _
  | .tAddPc _ _ | .tAddSp _ _ | .tIncSp _ | .tDecSp _ | .tPush _ _ | .tPop _ _ | .tBkpt _ | .tUndefMisc _
  | .tStmia _ _ | .tLdmia _ _ | .tUndefDE _ | .tSwi _ | .tB _ | .tUndefBlx _ | .tBlxSuffix _ | .tBlHead _
  | .tBlSuffix _ | .tUndefRest _ => none

/-- A shifter operand names a register and is RRX: a rotation right by an immediate 0 (42_arm_data_processing.md R402). -/
def usesWithRrx (n : Reg) : ShifterOp → Bool
  | .imm _ _ => false
  | .shiftImm amount kind rm => amount == 0 && kind == .ror && rm == n
  | .shiftReg _ _ _ => false

/-- A shifter operand is RRX. -/
def isRrx : ShifterOp → Bool
  | .imm _ _ => false
  | .shiftImm amount kind _ => amount == 0 && kind == .ror
  | .shiftReg _ _ _ => false

/-- A data-processing instruction with RRX that names a register (10_state.md R43). -/
def rrxNames (n : Reg) (op2 : ShifterOp) (regs : List Reg) : Bool := usesWithRrx n op2 || (isRrx op2 && regs.contains n)

/-- The offset of mode 2 names a register. -/
def offset2Names (n : Reg) : Offset2 → Bool
  | .imm _ => false
  | .scaled _ _ rm => rm == n

/-- The offset of mode 3 names a register. -/
def offset3Names (n : Reg) : Offset3 → Bool
  | .imm _ => false
  | .reg _ rm => rm == n

/-- An instruction uses R13 otherwise than a data-processing instruction without RRX or an MCR or MRC may (10_state.md R43). -/
def usesStack : Instr → Bool
  -- ARM loads, stores, PLD
  | .pld _ rn off _ => rn == 13 || offset2Names 13 off
  | .strh _ _ _ rn rd off | .ldrh _ _ _ rn rd off | .ldrsb _ _ _ rn rd off | .ldrsh _ _ _ rn rd off =>
    rn == 13 || rd == 13 || offset3Names 13 off
  | .ldrd _ _ _ rn rd off | .strd _ _ _ rn rd off => rn == 13 || rd == 12 || rd == 13 || offset3Names 13 off
  | .ldrt _ _ rn rd off | .ldrbt _ _ rn rd off | .strt _ _ rn rd off | .strbt _ _ rn rd off
  | .ldr _ _ _ rn rd off | .ldrb _ _ _ rn rd off | .str _ _ _ rn rd off | .strb _ _ _ rn rd off =>
    rn == 13 || rd == 13 || offset2Names 13 off
  | .ldm _ _ _ rn list | .stm _ _ _ rn list => rn == 13 || bitAt list 13
  | .ldmRet _ _ _ rn list => rn == 13 || bitAt list 13
  | .ldmUser _ _ _ rn _ | .stmUser _ _ _ rn _ => rn == 13
  | .swp _ rn rd rm | .swpb _ rn rd rm => rn == 13 || rd == 13 || rm == 13
  | .ldc _ _ _ _ _ rn _ _ _ | .stc _ _ _ _ _ rn _ _ _ => rn == 13
  -- status registers, exchange branches, multiplies, saturation, the accumulator
  | .mrs _ _ rd => rd == 13
  | .msrReg _ _ _ rm | .bx _ rm | .blxReg _ rm => rm == 13
  | .clz _ rd rm => rd == 13 || rm == 13
  | .qadd _ rn rd rm | .qsub _ rn rd rm | .qdadd _ rn rd rm | .qdsub _ rn rd rm => rn == 13 || rd == 13 || rm == 13
  | .smlaxy _ rd rn rs _ _ rm | .smlawy _ rd rn rs _ rm => rd == 13 || rn == 13 || rs == 13 || rm == 13
  | .smulwy _ rd _ rs _ rm | .smulxy _ rd _ rs _ _ rm | .mul _ _ rd _ rs rm => rd == 13 || rs == 13 || rm == 13
  | .smlalxy _ hi lo rs _ _ rm | .umull _ _ hi lo rs rm | .umlal _ _ hi lo rs rm | .smull _ _ hi lo rs rm
  | .smlal _ _ hi lo rs rm => hi == 13 || lo == 13 || rs == 13 || rm == 13
  | .mla _ _ rd rn rs rm => rd == 13 || rn == 13 || rs == 13 || rm == 13
  | .mar _ hi lo | .mra _ hi lo => hi == 13 || lo == 13
  -- data processing: with RRX only
  | .and _ _ rn rd op2 | .eor _ _ rn rd op2 | .sub _ _ rn rd op2 | .rsb _ _ rn rd op2 | .add _ _ rn rd op2
  | .adc _ _ rn rd op2 | .sbc _ _ rn rd op2 | .rsc _ _ rn rd op2 | .orr _ _ rn rd op2 | .bic _ _ rn rd op2 =>
    rrxNames 13 op2 [rn, rd]
  | .tst _ rn _ op2 | .teq _ rn _ op2 | .cmp _ rn _ op2 | .cmn _ rn _ op2 => rrxNames 13 op2 [rn]
  | .mov _ _ _ rd op2 | .mvn _ _ _ rd op2 => rrxNames 13 op2 [rd]
  -- Thumb
  | .tBx h2 rm | .tBlxReg h2 rm => h2 && rm == 5
  | .tStrSp _ _ | .tLdrSp _ _ | .tPush _ _ | .tPop _ _ => true
  -- MCR and MRC, the MIA family among them (40_cp0_dsp.md R341)
  | .mia _ _ _ | .miaph _ _ _ | .miabb _ _ _ | .miabt _ _ _ | .miatb _ _ _ | .miatt _ _ _
  | .invIDCacheBtb _ _ | .invICacheBtb _ _ | .invICacheLine _ _ | .invDCache _ _ | .invDCacheLine _ _
  | .cleanDCacheLine _ _ | .drainWriteBuffer _ _ | .invBtb _ _ | .allocDCacheLine _ _ | .invIDTlb _ _ | .invITlb _ _
  | .invITlbEntry _ _ | .invDTlb _ _ | .invDTlbEntry _ _ | .lockICacheLine _ _ | .unlockICache _ _ | .readDCacheLock _ _
  | .writeDCacheLock _ _ | .unlockDCache _ _ | .lockITlbEntry _ _ | .lockDTlbEntry _ _ | .unlockITlb _ _
  | .unlockDTlb _ _ | .mcr _ _ _ _ _ _ _ | .mrc _ _ _ _ _ _ _ => false
  -- no register, none but data processing may name, or an undefined instruction
  | .blxImm _ _ | .undefUncond _ | .bkpt _ _ | .undefBkptCond _ _ _ | .undefMulSpace _ _ | .undefArch _ _
  | .cp0TransferOther _ _ _ _ _ | .cp0Other _ _ _ _ _ _ _ _ | .mcrr _ _ _ _ _ _ | .mrrc _ _ _ _ _ _
  | .undefLdcStc _ _ _ | .cdp _ _ _ _ _ _ _ | .swi _ _ | .b _ _ | .bl _ _ | .msrImm _ _ _ _ _ | .undefRest _ _
  | .tLslImm _ _ _ | .tLsrImm _ _ _ | .tAsrImm _ _ _ | .tAddReg _ _ _ | .tSubReg _ _ _ | .tAddImm3 _ _ _
  | .tSubImm3 _ _ _ | .tMovImm _ _ | .tCmpImm _ _ | .tAddImm8 _ _ | .tSubImm8 _ _ | .tAnd _ _ | .tEor _ _
  | .tLslReg _ _ | .tLsrReg _ _ | .tAsrReg _ _ | .tAdc _ _ | .tSbc _ _ | .tRor _ _ | .tTst _ _ | .tNeg _ _
  | .tCmpReg _ _ | .tCmn _ _ | .tOrr _ _ | .tMul _ _ | .tBic _ _ | .tMvn _ _ | .tAddHigh _ _ _ _
  | .tCmpHigh _ _ _ _ | .tMovHigh _ _ _ _ | .tLdrPc _ _ | .tStrReg _ _ _ | .tStrhReg _ _ _ | .tStrbReg _ _ _
  | .tLdrsb _ _ _ | .tLdrReg _ _ _ | .tLdrhReg _ _ _ | .tLdrbReg _ _ _ | .tLdrsh _ _ _ | .tStrImm _ _ _
  | .tLdrImm _ _ _ | .tStrbImm _ _ _ | .tLdrbImm _ _ _ | .tStrhImm _ _ _ | .tLdrhImm _ _ _ | .tAddPc _ _
  | .tAddSp _ _ | .tIncSp _ | .tDecSp _ | .tBkpt _ | .tUndefMisc _ | .tStmia _ _ | .tLdmia _ _ | .tUndefDE _
  | .tSwi _ | .tBCond _ _ | .tB _ | .tUndefBlx _ | .tBlxSuffix _ | .tBlHead _ | .tBlSuffix _ | .tUndefRest _ => false

/-- The condition of an instruction passes. -/
def State.executed (s : State) (i : Instr) : Bool :=
  match condOf i with
  | none => true
  | some c => s.passed c

/-- R13_dbg is used in DEBUG mode otherwise than R43 allows. -/
def State.badStackUse (s : State) (i : Instr) : Bool := s.mode == .dbg && usesStack i && s.executed i

end Sys2Proof.Machine
end

