-- ==== Sys2Proof/Machine/Bus.lean ====
section
/-! DEFINITION. The bus: external memory, devices and bus errors, and the write buffer (20_memory.md R152-R154, R160, R230,
R231, R234, R247; 92 D1, D2). -/

namespace Sys2Proof.Machine

/-! The platform. -/

/-- A physical address lies in a region. -/
def Region.holds (r : Region) (pa : Word) : Bool := r.first.ule pa && pa.ule r.last

/-- What is at a physical address when it is not memory (92 D1). -/
def State.regionAt (s : State) (pa : Word) : Option RegionKind := (s.platform.find? (fun r => r.holds pa)).map Region.kind

/-- One of the `n` bytes from an address up is of a kind. -/
def State.anyRegion (s : State) (k : RegionKind) (pa : Word) : Nat → Bool
  | 0 => false
  | n + 1 => s.regionAt (pa + BitVec.ofNat 32 n) == some k || s.anyRegion k pa n

/-- An abort range answers an access of a kind at an address. -/
def AbortRange.holds (r : AbortRange) (k : BusKind) (pa : Word) : Bool := r.kind == k && r.first.ule pa && pa.ule r.last

/-- `ExtAbort(pa, kind)` (92 D2): by default the addresses that hold nothing answer every access with an error. -/
def State.busError (s : State) (k : BusKind) (pa : Word) : Bool :=
  match s.extAborts with
  | none => s.regionAt pa == some .empty
  | some l => l.any (fun r => r.holds k pa)

/-- One of the `n` bytes from an address up answers an access of a kind with an error. -/
def State.anyError (s : State) (k : BusKind) (pa : Word) : Nat → Bool
  | 0 => false
  | n + 1 => s.busError k (pa + BitVec.ofNat 32 n) || s.anyError k pa n

/-- The `n` bytes from an address up are memory. -/
def State.allMemory (s : State) (pa : Word) : Nat → Bool
  | 0 => true
  | n + 1 => s.regionAt (pa + BitVec.ofNat 32 n) == none && s.allMemory pa n

/-- A call into a device goes out (92 D1; log entry 9). -/
def State.noteDevice (s : State) (op : DeviceOp) : State := { s with deviceOps := s.deviceOps ++ [op] }

/-- What a read of the bus gives: whether an error answers it, its bytes, and the state afterwards. -/
structure BusRead where
  aborts : Bool
  byte : Nat → Byte
  after : State

/-- A read of `n` bytes of the bus, where `look` gives what memory holds (92 D1, D2): a byte that is no memory, or that an
error answers, is free, and a device is called. -/
def State.busRead (s : State) (k : BusKind) (look : Word → Byte) (pa : Word) (n : Nat) : BusRead :=
  if s.allMemory pa n && !s.anyError k pa n then
    { aborts := false, byte := fun i => look (pa + BitVec.ofNat 32 i), after := s }
  else
    { aborts := s.anyError k pa n
      byte := fun i =>
        let a := pa + BitVec.ofNat 32 i
        if s.regionAt a == none && !s.busError k a then look a else byteOf (s.free (i / 4)) (i % 4)
      after := (if s.anyRegion .device pa n then s.noteDevice (.read pa n) else s).consume ((n + 3) / 4) }

/-! Byte lanes (R153, R154). -/

/-- The number of bytes of a width. -/
def Width.bytes : Width → Nat
  | .byte => 1 | .half => 2 | .word => 4

/-- Control.B: big-endian data. -/
def State.bigEndian (s : State) : Bool := bitAt s.cp15.control 7

/-- Where the least significant byte of an access lies in word-invariant memory (R153, 92 D9). -/
def laneAddr (big : Bool) (w : Width) (a : Word) : Word :=
  match w with
  | .word => a &&& 0xFFFFFFFC
  | .half => if big then (a &&& 0xFFFFFFFE) ^^^ 2 else a &&& 0xFFFFFFFE
  | .byte => if big then a ^^^ 3 else a

/-- The value of an access whose least significant byte is `get 0`. -/
def gather (w : Width) (get : Nat → Byte) : Word :=
  match w with
  | .byte => (get 0).zeroExtend 32
  | .half => wordOf (get 0) (get 1) 0 0
  | .word => wordOf (get 0) (get 1) (get 2) (get 3)

/-! Memory. -/

/-- The byte of external memory at a physical address. -/
def State.memByte (s : State) (pa : Word) : Byte := memGet s.mem pa

/-- Writes a byte of external memory. -/
def State.putByte (s : State) (pa : Word) (b : Byte) : State := { s with mem := memPut s.mem pa b }

/-- Writes the first `n` bytes of a value from an address up. -/
def State.putBytes (s : State) (pa : Word) (v : Word) : Nat → State
  | 0 => s
  | n + 1 => (s.putBytes pa v n).putByte (pa + BitVec.ofNat 32 n) (byteOf v n)

/-- The word of external memory at an aligned address. -/
def State.memWord (s : State) (pa : Word) : Word := gather .word (fun i => s.memByte (pa + BitVec.ofNat 32 i))

/-- What the word at a physical address held before it was changed. -/
def State.oldWords (s : State) (pa : Word) : List Word := (sparseGet s.stale.words pa.toNat).getD []

/-- The word at an aligned address was changed since `old`: what it held stays among what a fetch may see (93 U11; log
entry 44). -/
def State.noteOld (s old : State) (pa : Word) : State :=
  if s.memWord pa == old.memWord pa || (s.oldWords pa).contains (old.memWord pa) then s
  else
    { s with stale := { s.stale with words := sparsePut s.stale.words pa.toNat (old.memWord pa :: s.oldWords pa) } }

/-- Writes the first `n` bytes of a value to memory, all in one word. -/
def State.storeBytes (s : State) (pa : Word) (v : Word) (n : Nat) : State :=
  (s.putBytes pa v n).noteOld s (pa &&& 0xFFFFFFFC)

/-- Another bus master writes a byte of memory (R247). -/
def State.foreignWrite (s : State) (pa : Word) (b : Byte) : State :=
  if s.regionAt pa == none then s.storeBytes pa (b.zeroExtend 32) 1 else s

/-- Another bus master writes bytes, in order. -/
def State.foreignWrites (s : State) : List (Word × Byte) → State
  | [] => s
  | (pa, b) :: t => (s.foreignWrite pa b).foreignWrites t

/-- What other bus masters do in one gap between the words of a multiple transfer (70_reset_and_hazards.md R935). -/
def State.busGap (s : State) : State :=
  match s.midBus with
  | [] => s
  | now :: later => { s with midBus := later }.foreignWrites now

/-- What other bus masters had left to do. -/
def State.busRest (s : State) : State :=
  match s.midBus with
  | [] => s
  | l => { s with midBus := [] }.foreignWrites l.flatten

/-! Imprecise aborts (60_exceptions.md R686). -/

/-- The earlier of two bounds. -/
def minBound (a b : Option Nat) : Option Nat :=
  match a, b with
  | none, b => b
  | a, none => a
  | some m, some n => some (min m n)

/-- An imprecise abort becomes pending; an external abort has priority over a parity error (R681), and the earlier bound
holds. -/
def State.pendImprecise (s : State) (parity : Bool) (bound : Option Nat) : State :=
  let new : ImpreciseAbort :=
    match s.pending.imprecise with
    | none => { parity := parity, boundaries := bound }
    | some p => { parity := p.parity && parity, boundaries := minBound p.boundaries bound }
  { s with pending := { s.pending with imprecise := some new } }

/-! The write buffer. -/

/-- An entry that holds no byte. -/
def emptyBlock : Vector Byte 16 := Vector.replicate 16 0

/-- Puts the first `n` bytes of a value into an entry's block, from a lane up. -/
def fillLanes (mask : BitVec 16) (data : Vector Byte 16) (lane : BitVec 4) (v : Word) :
    Nat → BitVec 16 × Vector Byte 16
  | 0 => (mask, data)
  | n + 1 =>
    let r := fillLanes mask data lane v n
    let l := lane + BitVec.ofNat 4 n
    (r.1 ||| (1#16 <<< l.toNat), r.2.set l.toFin (byteOf v n))

/-- The valid bytes of a mask form one contiguous run. -/
def contiguous (mask : BitVec 16) : Bool :=
  let low := mask &&& (0#16 - mask)
  mask == 0 || (mask + low) &&& mask == 0

/-- The entry of one store; `pa` is the physical address of its least significant byte. -/
def WriteEntry.ofStore (pa v : Word) (n : Nat) (coalesces : Bool) : WriteEntry :=
  let r := fillLanes 0 emptyBlock (field pa 0 4) v n
  { block := field pa 4 28, mask := r.1, data := r.2, coalesces := coalesces }

/-- Writes the valid bytes of a block among its first `n` lanes to memory; a byte that an error answers reaches it only with
`keep`. -/
def State.writeBlock (s : State) (keep : Bool) (e : WriteEntry) : Nat → State
  | 0 => s
  | n + 1 =>
    let s' := s.writeBlock keep e n
    let pa : Word := e.block ++ BitVec.ofNat 4 n
    if bitAt e.mask n && s.regionAt pa == none && (keep || !s.busError .write pa) then s'.putByte pa (e.data[n]?.getD 0)
    else s'

/-- One of the valid bytes of an entry is at an address that answers with an error (92 D2). -/
def State.entryAborts (s : State) (e : WriteEntry) : Nat → Bool
  | 0 => false
  | n + 1 => (bitAt e.mask n && s.busError .write (e.block ++ BitVec.ofNat 4 n)) || s.entryAborts e n

/-- One of the valid bytes of an entry belongs to a device (92 D1). -/
def State.entryCalls (s : State) (e : WriteEntry) : Nat → Bool
  | 0 => false
  | n + 1 => (bitAt e.mask n && s.regionAt (e.block ++ BitVec.ofNat 4 n) == some .device) || s.entryCalls e n

/-- The four words of a block were changed since `old`. -/
def State.noteOldBlock (s old : State) (block : BitVec 28) : State :=
  (((s.noteOld old (block ++ 0#4)).noteOld old (block ++ 4#4)).noteOld old (block ++ 8#4)).noteOld old (block ++ 12#4)

/-- An entry goes out on the bus (92 D6).  Where an error answers, an imprecise abort is pending, bounded by `bound`, and
by a free bit the data reach memory or not (93 U22). -/
def State.deliver (s : State) (bound : Option Nat) (e : WriteEntry) : State :=
  let s' := (s.writeBlock (bitAt (s.free 0) 0) e 16).noteOldBlock s e.block
  let s' := if s.entryCalls e 16 then s'.noteDevice (.write e) else s'
  if s.entryAborts e 16 then (s'.consume 1).pendImprecise false bound else s'

/-- The entries reach memory, oldest first. -/
def State.deliverAll (s : State) : List WriteEntry → State
  | [] => s
  | e :: t => (s.deliver none e).deliverAll t

/-- The write buffer is empty (R234). -/
def State.drainWrites (s : State) : State := { s.deliverAll s.writeBuf with writeBuf := [] }

/-- The entry of that number may reach memory before the older ones (R247): it is the oldest, or coalescing is enabled
(Auxiliary Control K = 0) and it and all older entries coalesce and none of these is of its block. -/
def State.mayRetire (s : State) (i : Nat) : Bool :=
  i == 0 || (!bitAt s.cp15.aux 0 &&
    match s.writeBuf[i]? with
    | none => false
    | some e => e.coalesces && (s.writeBuf.take i).all (fun o => o.coalesces && o.block != e.block))

/-- An entry leaves the buffer by the environment's choice (log entry 42). -/
def State.retireWrite (s : State) (i : Nat) : State :=
  match s.writeBuf[i]? with
  | none => s
  | some e => if s.mayRetire i then { s.deliver none e with writeBuf := s.writeBuf.eraseIdx i } else s

/-- Joins bytes to an entry (R231). -/
def WriteEntry.join (e : WriteEntry) (lane : BitVec 4) (v : Word) (n : Nat) : WriteEntry :=
  let r := fillLanes e.mask e.data lane v n
  { e with mask := r.1, data := r.2 }

/-- Joins a store to the newest entry of its block, unless a non-coalescing entry is newer or the bytes would not be
contiguous (R231); the list is newest first. -/
def joinNewest (block : BitVec 28) (lane : BitVec 4) (v : Word) (n : Nat) : List WriteEntry → Option (List WriteEntry)
  | [] => none
  | e :: t =>
    if e.coalesces then
      if e.block = block then
        if contiguous (e.join lane v n).mask then some (e.join lane v n :: t) else none
      else (joinNewest block lane v n t).map (fun t' => e :: t')
    else none

/-- The buffered writes that must go out before a read of external memory does: all with coalescing disabled, and all where
one is a fence (R175, R247 (a), (d)). -/
def State.writesBeforeRead (s : State) : State :=
  if bitAt s.cp15.aux 0 || s.writeBuf.any (fun e => !e.coalesces) then s.drainWrites else s

/-- Room for one more entry: the oldest leaves a full buffer (R230). -/
def State.makeRoom (s : State) : State := if 8 ≤ s.writeBuf.length then s.retireWrite 0 else s

/-- Appends an entry. -/
def State.appendWrite (s : State) (e : WriteEntry) : State :=
  let s' := s.makeRoom
  { s' with writeBuf := s'.writeBuf ++ [e] }

/-- A store to memory enters the write buffer, in an entry it coalesces with or in a new one (R230, R231).  `lane` is the
physical address of its least significant byte. -/
def State.bufferStore (s : State) (pa : Word) (v : Word) (n : Nat) (coalesces : Bool) : State :=
  let block : BitVec 28 := field pa 4 28
  let lane : BitVec 4 := field pa 0 4
  let joined := if coalesces && !bitAt s.cp15.aux 0 then joinNewest block lane v n s.writeBuf.reverse else none
  match joined with
  | some l => { s with writeBuf := l.reverse }
  | none =>
    s.appendWrite (WriteEntry.ofStore pa v n coalesces)

/-- The byte a read of external memory by the data side gets: the newest buffered write of it, else memory (R246). -/
def bufferedByte (pa : Word) : List WriteEntry → Option Byte
  | [] => none
  | e :: t =>
    match bufferedByte pa t with
    | some b => some b
    | none =>
      if e.block = field pa 4 28 ∧ bitAt e.mask (field pa 0 4).toNat then e.data[(field pa 0 4).toNat]? else none

/-- A store that does not go through the buffer (R235): to memory, or as an entry of its own where something else answers. -/
def State.storeNow (s : State) (pa v : Word) (n : Nat) : State :=
  if s.allMemory pa n && !s.anyError .write pa n then s.storeBytes pa v n
  else s.deliver (some 3) (WriteEntry.ofStore pa v n false)

/-- The byte at a physical address as the data side sees it. -/
def State.dataByte (s : State) (pa : Word) : Byte := (bufferedByte pa s.writeBuf).getD (s.memByte pa)

end Sys2Proof.Machine
end

