-- ==== Sys2Proof/Machine/Mmu.lean ====
section
/-! DEFINITION. Address translation: the PID, the table walk, the TLBs, the domain and permission checks
(10_state.md R94; 20_memory.md R162-R179). -/

namespace Sys2Proof.Machine

/-- The modified virtual address (10_state.md R94). -/
def State.mva (s : State) (va : Word) : Word :=
  if field va 25 7 = 0 then (field s.cp15.pid 25 7 ++ field va 0 25 : BitVec 32) else va

/-- Control.M: the MMU is enabled. -/
def State.mmuOn (s : State) : Bool := bitAt s.cp15.control 0

/-! The table walk (R163-R168). -/

/-- What a translation gives: an entry, or a fault, and the state afterwards. -/
inductive Translation where
  | ok (e : TlbEntry) (s : State)
  | fault (c : AbortCause) (s : State)
  | stop (r : Refusal)

/-- Reads a descriptor (R163, 92 D8); `none` is an external abort. -/
def State.readDescriptor (s : State) (pa : Word) : Option Word × State :=
  let r := s.busRead .walk s.memByte pa 4
  (if r.aborts then none else some (gather .word r.byte), r.after)

/-- One access permission field standing for all four sub-pages. -/
def oneAp (ap : BitVec 2) : BitVec 8 := ap ++ ap ++ ap ++ ap

/-- The entry of a descriptor of one of the page sizes, with its attributes X, C, B. -/
def tlbEntry (mva : Word) (size : PageSize) (d : Word) (aps : BitVec 8) (domain : BitVec 4) (x : Bool) : TlbEntry :=
  { valid := true, locked := false, tag := mva, size := size, base := d, aps := aps, domain := domain,
    x := x, c := bitAt d 3, b := bitAt d 2 }

/-- A second-level descriptor (R165-R167), once it is read. -/
def State.secondLevel (s : State) (fine : Bool) (mva d : Word) (domain : BitVec 4) : Translation :=
  match field d 0 2 with
  | 0 => .fault (.translationPage domain) s
  | 1 => .ok (tlbEntry mva .large64K d (field d 4 8) domain (bitAt d 12)) s
  | 2 => .ok (tlbEntry mva .small4K d (field d 4 8) domain false) s
  | _ => .ok (tlbEntry mva (if fine then .tiny1K else .small4K) d (oneAp (field d 4 2)) domain (bitAt d 6)) s

/-- Reads and interprets a second-level descriptor. -/
def State.walkSecond (s : State) (fine : Bool) (mva addr : Word) (domain : BitVec 4) : Translation :=
  match s.readDescriptor addr with
  | (none, s') => .fault (.walkSecond domain) s'
  | (some d, s') => s'.secondLevel fine mva d domain

/-- A first-level descriptor (R164), once it is read. -/
def State.firstLevel (s : State) (mva d : Word) : Translation :=
  let domain : BitVec 4 := field d 5 4
  match field d 0 2 with
  | 0 => .fault .translationSection s
  | 1 => s.walkSecond false mva (field d 10 22 ++ field mva 12 8 ++ 0#2 : BitVec 32) domain
  | 2 => .ok (tlbEntry mva .section1M d (oneAp (field d 10 2)) domain (bitAt d 12)) s
  | _ => s.walkSecond true mva (field d 12 20 ++ field mva 10 10 ++ 0#2 : BitVec 32) domain

/-- The table walk (R163, R164); SBZ fields and P bits are ignored (92 D19, 93 U3). -/
def State.walk (s : State) (mva : Word) : Translation :=
  match s.readDescriptor (field s.cp15.ttbr 14 18 ++ field mva 20 12 ++ 0#2 : BitVec 32) with
  | (none, s') => .fault .walkFirst s'
  | (some d, s') => s'.firstLevel mva d

/-- The physical address of an MVA through an entry (R168). -/
def TlbEntry.pa (e : TlbEntry) (mva : Word) : Word :=
  match e.size with
  | .section1M => field e.base 20 12 ++ field mva 0 20
  | .large64K => field e.base 16 16 ++ field mva 0 16
  | .small4K => field e.base 12 20 ++ field mva 0 12
  | .tiny1K => field e.base 10 22 ++ field mva 0 10

/-- The entry maps an MVA (R162). -/
def TlbEntry.covers (e : TlbEntry) (mva : Word) : Bool :=
  match e.size with
  | .section1M => field e.tag 20 12 == field mva 20 12
  | .large64K => field e.tag 16 16 == field mva 16 16
  | .small4K => field e.tag 12 20 == field mva 12 20
  | .tiny1K => field e.tag 10 22 == field mva 10 22

/-! The checks (R169, R170). -/

/-- The access permission field of an MVA: sub-pages of large and small pages (R167). -/
def TlbEntry.ap (e : TlbEntry) (mva : Word) : BitVec 2 :=
  match e.size with
  | .section1M => field e.aps 0 2
  | .large64K => field e.aps (2 * (field mva 14 2).toNat) 2
  | .small4K => field e.aps (2 * (field mva 10 2).toNat) 2
  | .tiny1K => field e.aps 0 2

/-- The permission table of client domains (R170); `none` is the reserved row. -/
def apAllows (ap : BitVec 2) (sBit rBit privileged write : Bool) : Option Bool :=
  match ap with
  | 0 => match sBit, rBit with
    | false, false => some false
    | true, false => some (privileged && !write)
    | false, true => some (!write)
    | true, true => none
  | 1 => some privileged
  | 2 => some (privileged || !write)
  | _ => some true

/-- A domain fault: section or page (R169, R681). -/
def TlbEntry.domainFault (e : TlbEntry) : AbortCause :=
  if e.size = .section1M then .domainSection e.domain else .domainPage e.domain

/-- A permission fault: section or page (R170, R681). -/
def TlbEntry.permissionFault (e : TlbEntry) : AbortCause :=
  if e.size = .section1M then .permissionSection e.domain else .permissionPage e.domain

/-- The field of a domain in the DACR (10_state.md R68). -/
def State.domainField (s : State) (d : BitVec 4) : BitVec 2 := field s.cp15.dacr (2 * d.toNat) 2

/-- The domain check, then the permission check of a client domain (R169-R171); `none` is no fault. -/
def State.checkAccess (s : State) (e : TlbEntry) (mva : Word) (privileged write : Bool) :
    Except Refusal (Option AbortCause) :=
  match s.domainField e.domain with
  | 3 => .ok none
  | 1 =>
    match apAllows (e.ap mva) (bitAt s.cp15.control 8) (bitAt s.cp15.control 9) privileged write with
    | none => .error .reservedPermission
    | some true => .ok none
    | some false => .ok (some e.permissionFault)
  | _ => .ok (some e.domainFault)

/-! The TLBs (R162, R177-R179). -/

/-- The valid entry that maps an MVA; of two, which software must not create, the lowest-numbered (log entry 68). -/
def Tlb.lookup (t : Tlb) (mva : Word) : Option TlbEntry := t.entries.toList.find? (fun e => e.valid && e.covers mva)

/-- Writes an entry at the round-robin pointer, which moves on (R177). -/
def Tlb.fill (t : Tlb) (e : TlbEntry) : Tlb :=
  { t with entries := t.entries.set t.rr.toFin e, rr := if t.rr = 31 then t.lk else t.rr + 1 }

/-- A lock operation: entry `lk`, or entry 31 without the lock (R178). -/
def Tlb.lock (t : Tlb) (e : TlbEntry) : Tlb :=
  if t.lk = 31 then { t with entries := t.entries.set 31 e, rr := 31 }
  else { entries := t.entries.set t.lk.toFin { e with locked := true }, lk := t.lk + 1, rr := 31 }

/-- Unlock: all entries stay valid (R178). -/
def Tlb.unlock (t : Tlb) : Tlb :=
  { t with entries := t.entries.map (fun e => { e with locked := false }), lk := 0 }

/-- Global invalidation spares locked entries (R179). -/
def Tlb.invalidate (t : Tlb) : Tlb :=
  { t with entries := t.entries.map (fun e => if e.locked then e else { e with valid := false }) }

/-- Entry invalidation takes locked entries too, and leaves a hole (R179). -/
def Tlb.invalidateEntry (t : Tlb) (mva : Word) : Tlb :=
  { t with entries := t.entries.map (fun e => if e.covers mva then { e with valid := false } else e) }

/-- The two sides of the memory system. -/
inductive Side where
  | instr | data
  deriving DecidableEq, Repr

/-- The TLB of a side. -/
def State.tlb (s : State) : Side → Tlb
  | .instr => s.itlb
  | .data => s.dtlb

/-- Translations that a fetch may still see (93 U11; log entry 44). -/
def State.noteMaps (s : State) (l : List (Option TlbEntry)) : State :=
  { s with stale := { s.stale with maps := l.filter (fun m => !s.stale.maps.contains m) ++ s.stale.maps } }

/-- The valid entries of a TLB, apart from their locks. -/
def Tlb.held (t : Tlb) : List TlbEntry :=
  (t.entries.toList.filter (fun e => e.valid)).map (fun e => { e with locked := false })

/-- The entries that a TLB no longer holds. -/
def Tlb.dropped (t later : Tlb) : List (Option TlbEntry) := (t.held.filter (fun e => !later.held.contains e)).map some

/-- Writes the TLB of a side. -/
def State.setTlb (s : State) (side : Side) (t : Tlb) : State :=
  match side with
  | .instr => { s.noteMaps (s.itlb.dropped t) with itlb := t }
  | .data => { s with dtlb := t }

/-- A TLB miss is counted (60_exceptions.md R733). -/
def State.countTlbMiss (s : State) (side : Side) : State :=
  match side with
  | .instr => s.count .itlbMiss
  | .data => s.count .dtlbMiss

/-- `Translate` (R162): the TLB, else the table walk, whose result is placed in the TLB (log entry 62). -/
def State.translate (s : State) (side : Side) (mva : Word) : Translation :=
  match (s.tlb side).lookup mva with
  | some e => .ok e s
  | none =>
    match (s.countTlbMiss side).walk mva with
    | .ok e s' => .ok e (s'.setTlb side ((s'.tlb side).fill e))
    | .fault c s' => .fault c s'
    | .stop r => .stop r

/-- Translation and checks of one access (R150, R151): the entry, or the first fault in the order of R171. -/
def State.translateChecked (s : State) (side : Side) (mva : Word) (privileged write : Bool) : Translation :=
  match s.translate side mva with
  | .stop r => .stop r
  | .fault c s' => .fault c s'
  | .ok e s' =>
    match s'.checkAccess e mva privileged write with
    | .error r => .stop r
    | .ok (some c) => .fault c s'
    | .ok none => .ok e s'

end Sys2Proof.Machine
end

