-- ==== Sys2Proof/Machine/DCache.lean ====
section
/-! DEFINITION. The data cache and the mini-data cache, line fills, write-backs, the fill and pend buffers
(20_memory.md R205-R218, R230-R235, R246; 92 D6, D20, D23). -/

namespace Sys2Proof.Machine

/-- A translated data access: its MVA, its physical address and the attributes of the page (R150). -/
structure Target where
  mva : Word
  pa : Word
  x : Bool
  c : Bool
  b : Bool
  deriving DecidableEq, Repr

/-! Attributes (R173, R174). -/

/-- Control.C: the data caches are enabled. -/
def State.dcacheOn (s : State) : Bool := bitAt s.cp15.control 2

/-- The MD field of Auxiliary Control (10_state.md R66). -/
def State.miniPolicy (s : State) : BitVec 2 := field s.cp15.aux 4 2

/-- X = 1, C = 1, B = 0: the mini-data cache (R173, R206). -/
def Target.isMini (t : Target) : Bool := t.x && t.c && !t.b

/-- The write policy is write back (R173). -/
def State.writesBack (s : State) (t : Target) : Bool :=
  t.c && (if t.isMini then s.miniPolicy == 0 || s.miniPolicy == 1 else t.b)

/-- A store that misses allocates a line (R173, R210). -/
def State.writeAllocates (s : State) (t : Target) : Bool :=
  t.x && t.c && (t.b || s.miniPolicy == 1)

/-- Stores may coalesce (R173, R231). -/
def Target.coalesces (t : Target) : Bool := t.c || (!t.x && t.b)

/-- X = C = B = 0: stall until complete (R174, R235). -/
def Target.stalls (t : Target) : Bool := !t.x && !t.c && !t.b

/-- Data at the address is cacheable (R173). -/
def State.cacheable (s : State) (t : Target) : Bool := t.c && s.mmuOn && s.dcacheOn

/-- The fences of Table 3-3 (R175). -/
def Target.fences (t : Target) (write : Bool) : Bool := if write then !t.c && (t.x == t.b) else !t.c

/-- The attributes that are refused (93 U3). -/
def State.attributeError (s : State) (t : Target) : Option Refusal :=
  if t.x && !t.c && !t.b then some .reservedAttributes
  else if t.isMini && s.miniPolicy == 3 then some .reservedMiniPolicy
  else none

/-! Lines (R205, R206). -/

/-- The 32-byte line of an address. -/
abbrev lineOf (a : Word) : BitVec 27 := field a 5 27

/-- The set of a line. -/
abbrev lineSet (l : BitVec 27) : BitVec 5 := field l 0 5

/-- The tag of a line. -/
abbrev lineTag (l : BitVec 27) : BitVec 22 := field l 5 22

/-- The number of ways of the data cache or the mini-data cache. -/
def waysOf (mini : Bool) : Nat := if mini then 2 else 32

/-- The lines of the data cache or the mini-data cache. -/
def State.dlines (s : State) (mini : Bool) : List (Nat × DLine) := if mini then s.miniDCache.lines else s.dcache.lines

/-- Writes the lines of a cache. -/
def State.setDlines (s : State) (mini : Bool) (l : List (Nat × DLine)) : State :=
  if mini then { s with miniDCache := { s.miniDCache with lines := l } }
  else { s with dcache := { s.dcache with lines := l } }

/-- The valid line of an MVA line among the lines of a cache: its key and its contents. -/
def findDline (ways : Nat) (l : BitVec 27) (lines : List (Nat × DLine)) : Option (Nat × DLine) :=
  lines.find? (fun e => e.2.valid && e.1 / ways == (lineSet l).toNat && e.2.tag == lineTag l)

/-- A hit: the cache, the key and the line. -/
structure Hit where
  mini : Bool
  key : Nat
  line : DLine
  deriving DecidableEq, Repr

/-- A lookup searches both caches, enabled or not (R206, R207). -/
def State.dataHit (s : State) (l : BitVec 27) : Option Hit :=
  match findDline 32 l s.dcache.lines with
  | some (k, d) => some { mini := false, key := k, line := d }
  | none => (findDline 2 l s.miniDCache.lines).map (fun e => { mini := true, key := e.1, line := e.2 })

/-- Writes a line. -/
def State.putDline (s : State) (h : Hit) (d : DLine) : State :=
  s.setDlines h.mini (sparsePut (s.dlines h.mini) h.key d)

/-- Puts the first `n` bytes of a value into a line from a lane up. -/
def setLanes (data : LineData) (lane : BitVec 5) (v : Word) : Nat → LineData
  | 0 => data
  | n + 1 => (setLanes data lane v n).set (lane + BitVec.ofNat 5 n).toFin (byteOf v n)

/-- A mask of `n` bytes from a lane up. -/
def laneMask (lane : BitVec 5) (n : Nat) : BitVec 32 := BitVec.ofNat 32 (2 ^ n - 1) <<< lane.toNat

/-- A store into a line: its bytes, and with a write-back policy the dirty bit of its half (R208).  That it writes the parity
of its bytes anew and detects no error in them is log entry 77. -/
def DLine.store (d : DLine) (lane : BitVec 5) (v : Word) (n : Nat) (dirties : Bool) : DLine :=
  { d with
    data := setLanes d.data lane v n
    badParity := d.badParity &&& ~~~laneMask lane n
    dirtyLow := d.dirtyLow || (dirties && !bitAt lane 4)
    dirtyHigh := d.dirtyHigh || (dirties && bitAt lane 4) }

/-! Write-backs (R208, R209, R217). -/

/-- The write-buffer entry of half a line, at the physical address the line was filled from (R209).  That a byte which fails
parity goes out as it stands in the line is log entry 85. -/
def DLine.halfEntry (d : DLine) (high : Bool) : WriteEntry :=
  { block := d.paLine ++ BitVec.ofBool high, mask := 0xFFFF,
    data := Vector.ofFn (fun i : Fin 16 => d.data[(if high then 16 else 0) + i.val]?.getD 0), coalesces := true }

/-- Writes back one half of a line: into the write buffer, counted (60_exceptions.md R733). -/
def State.writeBackHalf (s : State) (d : DLine) (high : Bool) : State :=
  (s.count .dcacheWriteBack).appendWrite (d.halfEntry high)

/-- A byte of the halves that are dirty fails parity: those are read for a write-back.  That the clean of a line, which
"reads from the data cache" (R217, 41_coprocessor_access.md R372), detects nothing in a half that is not dirty is log entry
85. -/
def DLine.dirtyParity (d : DLine) : Bool :=
  (d.dirtyLow && field d.badParity 0 16 != 0) || (d.dirtyHigh && field d.badParity 16 16 != 0)

/-- Writes back the dirty halves of a line, the lower first. -/
def State.writeBackHalves (s : State) (d : DLine) : State :=
  let s := if d.dirtyLow then s.writeBackHalf d false else s
  if d.dirtyHigh then s.writeBackHalf d true else s

/-- Writes back the dirty halves of a line; where the read of one `detects` a byte that fails parity, an imprecise abort is
pending (R213). -/
def State.writeBackLine (s : State) (detects : Bool) (d : DLine) : State :=
  (if detects && d.dirtyParity then s.pendImprecise true none else s).writeBackHalves d

/-! Allocation (R209, R210, R212, R215). -/

/-- Where a new line goes: the way, whether it is locked, and the pointers of the set afterwards. -/
structure Placement where
  way : Nat
  locked : Bool
  rr : BitVec 5
  lk : BitVec 5
  deriving DecidableEq, Repr

/-- The round-robin automaton of R177 for a set, and the lock mode (R212, R215; log entry 25). -/
def placeLine (lockMode : Bool) (rr lk : BitVec 5) : Placement :=
  if lockMode && lk.ult 28 then { way := lk.toNat, locked := true, rr := 31, lk := lk + 1 }
  else { way := rr.toNat, locked := false, rr := if rr = 31 then lk else rr + 1, lk := lk }

/-- Writes back the valid line at a place that is to be replaced (R212). -/
def State.evict (s : State) (detects mini : Bool) (key : Nat) : State :=
  match sparseGet (s.dlines mini) key with
  | some d => if d.valid then s.writeBackLine detects d else s
  | none => s

/-- A line just filled: valid and clean (R209). -/
def DLine.fresh (l pl : BitVec 27) (locked : Bool) (data : LineData) : DLine :=
  { tag := lineTag l, valid := true, locked := locked, data := data, dirtyLow := false, dirtyHigh := false,
    paLine := pl, badParity := 0 }

/-- Allocates a line in the data cache, locked in lock mode (R209, R215). -/
def State.allocMain (s : State) (detects : Bool) (l pl : BitVec 27) (data : LineData) : State :=
  let set := lineSet l
  let p := placeLine s.cp15.dlock s.dcache.rr[set.toFin] s.dcache.lk[set.toFin]
  let key := 32 * set.toNat + p.way
  let s := s.evict detects false key
  { s with dcache :=
    { lines := sparsePut s.dcache.lines key (.fresh l pl p.locked data)
      rr := s.dcache.rr.set set.toFin p.rr
      lk := s.dcache.lk.set set.toFin p.lk } }

/-- Allocates a line in the mini-data cache, which takes no locks (R206). -/
def State.allocMini (s : State) (l pl : BitVec 27) (data : LineData) : State :=
  let set := lineSet l
  let way := s.miniDCache.rr[set.toFin]
  let key := 2 * set.toNat + way.toNat
  let s := s.evict true true key
  { s with miniDCache :=
    { lines := sparsePut s.miniDCache.lines key (.fresh l pl false data)
      rr := s.miniDCache.rr.set set.toFin (way + 1) } }

/-- Allocates a line in one of the caches, for a line fill.  That the eviction detects a parity error in the dirty halves that
it reads is log entry 85. -/
def State.allocLine (s : State) (mini : Bool) (l pl : BitVec 27) (data : LineData) : State :=
  if mini then s.allocMini l pl data else s.allocMain true l pl data

/-- The 32 bytes of a physical line as the data side sees them. -/
def State.readLine (s : State) (pl : BitVec 27) : LineData :=
  Vector.ofFn (fun i : Fin 32 => s.dataByte (pl ++ BitVec.ofNat 5 i.val : BitVec 32))

/-! Stores (R208, R210, R230). -/

/-- The least significant byte of a physical access. -/
def Target.lanePa (t : Target) (big : Bool) (w : Width) : Word := laneAddr big w t.pa

/-- The lane in its line of the least significant byte of an access. -/
def Target.lane (t : Target) (big : Bool) (w : Width) : BitVec 5 := field (laneAddr big w t.mva) 0 5

/-- A store to external memory: at once on a stall-until-complete page, else through the write buffer (R230, R235). -/
def State.storeMemory (s : State) (t : Target) (big : Bool) (w : Width) (v : Word) : State :=
  if t.stalls then s.storeNow (t.lanePa big w) v w.bytes else s.bufferStore (t.lanePa big w) v w.bytes t.coalesces

/-- A store that hits (R207, R208; 92 D23). -/
def State.storeHit (s : State) (h : Hit) (t : Target) (big : Bool) (w : Width) (v : Word) : State :=
  let s' := s.putDline h (h.line.store (t.lane big w) v w.bytes (s.writesBack t))
  if s.writesBack t then s' else s'.storeMemory t big w v

/-! Outstanding requests (R209-R211, R232, R233). -/

/-- The target of a pended access. -/
def PendEntry.target (p : PendEntry) : Target := { mva := p.mva, pa := p.pa, x := p.x, c := p.c, b := p.b }

/-- A pended access waits for a line. -/
def PendEntry.waitsFor (p : PendEntry) (l : BitVec 27) : Bool := lineOf p.mva == l

/-- A pended access accesses the caches again; a load has its value already.  A store whose line was filled and evicted again
while it waited behind an older access goes to memory by itself, and no line is requested (log entry 80). -/
def State.retry (s : State) (p : PendEntry) : State :=
  if p.load then s
  else
    match s.dataHit (lineOf p.mva) with
    | some h => s.storeHit h p.target p.big p.width p.value
    | none => s.storeMemory p.target p.big p.width p.value

/-- The outstanding fill of a line. -/
def State.pendingFill (s : State) (l : BitVec 27) : Option FillEntry := s.fillBuf.find? (fun f => f.alloc && f.line == l)

/-- Pended accesses complete in program order, up to one that still waits (R233). -/
def State.releasePended (s : State) : List PendEntry → State
  | [] => { s with pendBuf := [] }
  | p :: t => if (s.pendingFill (lineOf p.mva)).isSome then { s with pendBuf := p :: t } else (s.retry p).releasePended t

/-- The data of a request return: a fill allocates its line, in lock mode locked (R215); one that an error answers
allocates nothing and makes an imprecise abort pending (60_exceptions.md R686; log entry 55). -/
def State.finishFill (s : State) (f : FillEntry) : State :=
  if f.aborts then s.pendImprecise false none
  else if f.alloc then s.allocLine f.mini f.line f.paLine f.data
  else s

/-- An outstanding request completes, and the accesses that need wait no longer. -/
def State.completeFill (s : State) (f : FillEntry) : State :=
  let s := { s with fillBuf := s.fillBuf.erase f }.finishFill f
  s.releasePended s.pendBuf

/-- The requests of a list complete, oldest first. -/
def State.completeFills (s : State) : List FillEntry → State
  | [] => s
  | f :: t => (s.completeFill f).completeFills t

/-- Every outstanding request completes. -/
def State.settleFills (s : State) : State := s.completeFills s.fillBuf

/-- All outstanding requests have returned and all buffered writes have reached memory (R234). -/
def State.drainAll (s : State) : State := s.settleFills.drainWrites

/-- A full fill buffer completes its oldest request (R232), and the writes that must go out first do (R247). -/
def State.beforeRequest (s : State) : State :=
  (if 4 ≤ s.fillBuf.length then s.completeFills (s.fillBuf.take 1) else s).writesBeforeRead

/-- Adds a request. -/
def State.addFill (s : State) (f : FillEntry) : State := { s with fillBuf := s.fillBuf ++ [f] }

/-- A line fill of a target is requested (R209, R210); what it gives is free where an error answers (93 U22). -/
def State.requestFill (s : State) (t : Target) : FillEntry × State :=
  let s := s.beforeRequest
  let r := s.busRead .read s.dataByte (lineOf t.pa ++ 0#5) 32
  let f : FillEntry :=
    { alloc := true, line := lineOf t.mva, paLine := lineOf t.pa, mini := t.isMini, aborts := r.aborts
      data := Vector.ofFn (fun i : Fin 32 => if r.aborts then byteOf (s.free (i.val / 4)) (i.val % 4) else r.byte i.val) }
  (f, r.after.addFill f)

/-- What attempts to lock the mini-data cache is refused (93 U6). -/
def State.fillError (s : State) (t : Target) : Option Refusal :=
  if t.isMini && s.cp15.dlock then some .lockPrecondition else none

/-- A hit in the data cache, in a way that is not locked, of a line that lock mode would lock if it were allocated (R215, 93
U6). -/
def State.lockHit (s : State) (h : Hit) (l : BitVec 27) : Bool :=
  s.cp15.dlock && !h.mini && !h.line.locked && (s.dcache.lk[(lineSet l).toFin]).ult 28

/-- A load that attempts to lock data which is in the data cache already (R215, 93 U6).  One that could allocate no line there,
with the cache disabled, or from a page that is not cacheable or goes to the mini-data cache, attempts nothing and hits (R207). -/
def State.lockingLoad (s : State) (t : Target) (h : Hit) : Bool :=
  s.cacheable t && !t.isMini && s.lockHit h (lineOf t.mva)

/-- The data of a line with the pended stores to it put in (R246); `here` says which pended accesses are to the line. -/
def overlay (here : PendEntry → Bool) (data : LineData) : List PendEntry → LineData
  | [] => data
  | p :: t =>
    overlay here (if !p.load && here p then setLanes data (p.target.lane p.big p.width) p.value p.width.bytes else data) t

/-- The line of an MVA as a load sees it: the caches, an outstanding fill, memory, and the pended stores (R246). -/
def State.dataLine (s : State) (l pl : BitVec 27) : LineData :=
  overlay (fun p => p.waitsFor l)
    (match s.dataHit l with
      | some h => h.line.data
      | none =>
        match s.pendingFill l with
        | some f => f.data
        | none => s.readLine pl)
    s.pendBuf

/-- An access is pended; with the pend buffer full the outstanding requests complete, and it accesses the caches (R233). -/
def State.pend (s : State) (p : PendEntry) : State :=
  if s.pendBuf.length < 4 then { s with pendBuf := s.pendBuf ++ [p] } else s.settleFills.retry p

/-- The entry of an access. -/
def State.pendEntry (s : State) (load : Bool) (t : Target) (w : Width) (v : Word) : PendEntry :=
  { load := load, mva := t.mva, pa := t.pa, width := w, value := v, big := s.bigEndian, x := t.x, c := t.c, b := t.b }

/-- Accesses that wait for a line whose fill is complete, behind older ones, complete before it is accessed. -/
def State.settleLine (s : State) (l : BitVec 27) : State :=
  if s.pendBuf.any (fun p => p.waitsFor l) then s.settleFills else s

/-- What an access waits for: a fence for everything (R175), any other for the outstanding requests where coalescing is
disabled, so that their write-backs keep program order (R247 (a)). -/
def State.fence (s : State) (t : Target) (write : Bool) : State :=
  if t.fences write then s.drainAll else if bitAt s.cp15.aux 0 then s.settleFills else s

/-! The accesses. -/

/-- The value of an access to a line. -/
def lineValue (data : LineData) (lane : BitVec 5) (w : Width) : Word :=
  gather w (fun i => data[(lane + BitVec.ofNat 5 i).toFin])

/-- Reads an access from a line; a byte that fails parity makes the value free (R213, 93 U22). -/
def State.loadHit (s : State) (h : Hit) (t : Target) (w : Width) : Word × State :=
  let lane := t.lane s.bigEndian w
  if h.line.badParity &&& laneMask lane w.bytes = 0 then (lineValue h.line.data lane w, s)
  else (gather w (byteOf (s.free 0)), (s.pendImprecise true none).consume 1)

/-- Reads an access from the bus; where an error answers the value is free (93 U22). -/
def State.readNow (s : State) (t : Target) (w : Width) : Bool × Word × State :=
  let r := s.busRead .read s.dataByte (t.lanePa s.bigEndian w) w.bytes
  (r.aborts, gather w (if r.aborts then byteOf (s.free 0) else r.byte), r.after)

/-- A load that is not cacheable (R211): complete on a stall-until-complete page (R235), else outstanding until its request
returns (R232). -/
def State.loadMemory (s : State) (t : Target) (w : Width) : Word × State :=
  if t.stalls then
    let r := s.readNow t w
    (r.2.1, if r.1 then r.2.2.pendImprecise false (some 3) else r.2.2)
  else
    let r := s.beforeRequest.readNow t w
    (r.2.1, r.2.2.addFill
      { alloc := false, line := lineOf t.mva, paLine := lineOf t.pa, mini := false, data := Vector.replicate 32 0,
        aborts := r.1 })

/-- A load that misses requests a line when it is cacheable (R209). -/
def State.loadMiss (s : State) (t : Target) (w : Width) : Except Refusal (Word × State) :=
  if s.cacheable t then
    match s.fillError t with
    | some r => .error r
    | none =>
      let r := s.requestFill t
      .ok (lineValue r.1.data (t.lane s.bigEndian w) w, r.2)
  else .ok (s.loadMemory t w)

/-- A load accesses the caches. -/
def State.loadLookup (s : State) (t : Target) (w : Width) : Except Refusal (Word × State) :=
  match s.dataHit (lineOf t.mva) with
  | some h => if s.lockingLoad t h then .error .lockPrecondition else .ok (s.loadHit h t w)
  | none => (s.count .dcacheMiss).loadMiss t w

/-- A load of a line that is outstanding is pended; its value is what the line will hold (R209, R233; log entry 43). -/
def State.loadPended (s : State) (t : Target) (w : Width) : Word × State :=
  let v := lineValue (s.dataLine (lineOf t.mva) (lineOf t.pa)) (t.lane s.bigEndian w) w
  (v, s.pend (s.pendEntry true t w v))

/-- A load of an access (R150 steps 5-7, R207, R209, R211). -/
def State.loadAt (s : State) (t : Target) (w : Width) : Except Refusal (Word × State) :=
  match s.attributeError t with
  | some r => .error r
  | none =>
    let s := (s.count .dcacheAccess).fence t false
    match s.pendingFill (lineOf t.mva) with
    | some _ => .ok ((s.count .dcacheMiss).loadPended t w)
    | none => (s.settleLine (lineOf t.mva)).loadLookup t w

/-- A store that misses requests a line when it is cacheable and write-allocate, and waits for it (R210). -/
def State.storeMiss (s : State) (t : Target) (w : Width) (v : Word) : Except Refusal State :=
  if s.cacheable t && s.writeAllocates t then
    match s.fillError t with
    | some r => .error r
    | none => .ok ((s.requestFill t).2.pend (s.pendEntry false t w v))
  else .ok (s.storeMemory t s.bigEndian w v)

/-- A store accesses the caches. -/
def State.storeLookup (s : State) (t : Target) (w : Width) (v : Word) : Except Refusal State :=
  match s.dataHit (lineOf t.mva) with
  | some h => .ok (s.storeHit h t s.bigEndian w v)
  | none => (s.count .dcacheMiss).storeMiss t w v

/-- The instruction stores the bytes of an access (70_reset_and_hazards.md R901; log entry 75). -/
def State.noteStore (s : State) (t : Target) (w : Width) : State :=
  { s with
    storing := s.storing ++
      (List.range w.bytes).map (fun i => (t.lanePa s.bigEndian w + BitVec.ofNat 32 i).toNat) }

/-- A store of an access (R150 steps 5-7, R207, R208, R210, R233). -/
def State.storeAt (s : State) (t : Target) (w : Width) (v : Word) : Except Refusal State :=
  match s.attributeError t with
  | some r => .error r
  | none =>
    let s := ((s.noteStore t w).count .dcacheAccess).fence t true
    match s.pendingFill (lineOf t.mva) with
    | some _ => .ok ((s.count .dcacheMiss).pend (s.pendEntry false t w v))
    | none => (s.settleLine (lineOf t.mva)).storeLookup t w v

/-- The line fill of a PLD (44_arm_load_store.md R515). -/
def State.startFill (s : State) (t : Target) : State := ((s.fence t false).requestFill t).2

/-- The environment returns the outstanding request of that number (log entry 43). -/
def State.returnFill (s : State) (i : Nat) : State :=
  match s.fillBuf[i]? with
  | some f => s.completeFill f
  | none => s

/-! Maintenance (R217, R218, R234, R268). -/

/-- Marks a line invalid; a locked line stays, an unusable way (R217). -/
def invalidateDlines (hit : Nat → DLine → Bool) : List (Nat × DLine) → List (Nat × DLine)
  | [] => []
  | (k, d) :: t =>
    if hit k d then
      (if d.locked then (k, { d with valid := false, dirtyLow := false, dirtyHigh := false }) :: invalidateDlines hit t
       else invalidateDlines hit t)
    else (k, d) :: invalidateDlines hit t

/-- Invalidate data cache (R218): every unlocked line of both caches, dirty data and all.  The commands complete the
outstanding fills and the pended stores first (log entry 69). -/
def State.invalidateDcache (s : State) : State :=
  (s.setDlines false (s.dcache.lines.filter (fun e => e.2.locked))).setDlines true []

/-- Invalidate data cache line (R217). -/
def State.invalidateDcacheLine (s : State) (l : BitVec 27) : State :=
  let hit (ways : Nat) (k : Nat) (d : DLine) : Bool := d.valid && k / ways == (lineSet l).toNat && d.tag == lineTag l
  (s.setDlines false (invalidateDlines (hit 32) s.dcache.lines)).setDlines true
    (invalidateDlines (hit 2) s.miniDCache.lines)

/-- Clean data cache line (R217): the one function that detects parity errors. -/
def State.cleanDcacheLine (s : State) (l : BitVec 27) : State :=
  match s.dataHit l with
  | none => s
  | some h => (s.writeBackLine true h.line).putDline h { h.line with dirtyLow := false, dirtyHigh := false }

/-- A line without its lock. -/
def unlockDline (e : Nat × DLine) : Nat × DLine := (e.1, { e.2 with locked := false })

/-- Unlock data cache (R216). -/
def State.unlockDcache (s : State) : State :=
  { s with dcache :=
    { lines := ((s.dcache.lines.map unlockDline).filter (fun e => e.2.valid))
      rr := s.dcache.rr
      lk := Vector.replicate 32 0 } }

/-- A pending abort is signalled before the next instruction. -/
def signalNow (p : ImpreciseAbort) : ImpreciseAbort := { p with boundaries := some 0 }

/-- The drain command (R234): every imprecise abort of the accesses has been signalled (41_coprocessor_access.md R373). -/
def State.drainCommand (s : State) : State :=
  let s := s.drainAll
  { s with pending := { s.pending with imprecise := s.pending.imprecise.map signalNow } }

/-- Line data nobody has written: free values (93 U7). -/
def State.freeLine (s : State) : LineData :=
  Vector.ofFn (fun i : Fin 32 => byteOf (s.free (i.val / 4)) (i.val % 4))

/-- The line-allocate command once its MVA is translated (R268): all pending memory operations complete, and a line of
the data cache with no defined data.  To lock data that is in the data cache already is refused (R215, 93 U6).  Its own eviction
generates no parity fault, as no function but the clean does (R217, 41_coprocessor_access.md R372). -/
def State.allocateCommand (s : State) (mva pa : Word) : Except Refusal State :=
  let s := s.drainAll
  match s.dataHit (lineOf mva) with
  | some h => if s.lockHit h (lineOf mva) then .error .lockPrecondition else .ok s
  | none => .ok ((s.consume 8).allocMain false (lineOf mva) (lineOf pa) s.freeLine)

/-- A byte of a data cache line fails parity (92 D20). -/
def State.markDataParity (s : State) (mini : Bool) (set way byte : BitVec 5) : State :=
  let key := waysOf mini * set.toNat + way.toNat % waysOf mini
  match sparseGet (s.dlines mini) key with
  | none => s
  | some d =>
    s.setDlines mini (sparsePut (s.dlines mini) key { d with badParity := d.badParity ||| (1#32 <<< byte.toNat) })

end Sys2Proof.Machine
end

