-- ==== Sys2Proof/Machine/Access.lean ====
section
/-! DEFINITION. `MemRead` and `MemWrite` (20_memory.md R150): the data breakpoint comparison, the alignment check,
translation and the access; and how an instruction ends whose access aborts (60_exceptions.md R675,
61_debug_and_jtag.md R771). -/

namespace Sys2Proof.Machine

/-! Data breakpoints (61_debug_and_jtag.md R777). -/

/-- An enable field of DBCON selects a kind of access. -/
def bkptType (e : BitVec 2) (store : Bool) : Bool := e == 2 || (e == 1 && store) || (e == 3 && !store)

/-- An enable field of DBCON selects a swap, which is compared as a load and as a store (44_arm_load_store.md R530), but which a
breakpoint on loads only does not hit (R777; log entry 73). -/
def bkptSwap (e : BitVec 2) : Bool := (bkptType e false || bkptType e true) && e != 3

/-- One of `n` bytes from an address up satisfies a condition. -/
def anyByte (p : Word → Bool) (a : Word) : Nat → Bool
  | 0 => false
  | n + 1 => p (a + BitVec.ofNat 32 n) || anyByte p a n

/-- An access is not aligned to its size. -/
def misaligned (w : Width) (a : Word) : Bool :=
  match w with
  | .byte => false
  | .half => bitAt a 0
  | .word => field a 0 2 != 0

/-- The bytes an access is compared on: an unaligned one by its aligned word. -/
def bkptBytes (w : Width) (mva : Word) : Word × Nat :=
  if misaligned w mva then (mva &&& 0xFFFFFFFC, 4) else (mva, w.bytes)

/-- The breakpoint registers match an access that an enable field may select. -/
def Cp15.bkptMatch (c : Cp15) (w : Width) (mva : Word) (selects : BitVec 2 → Bool) : Bool :=
  let r := bkptBytes w mva
  let e0 := selects (field c.dbcon 0 2)
  let e1 := selects (field c.dbcon 2 2)
  if bitAt c.dbcon 8 then e0 && anyByte (fun b => b &&& ~~~c.dbr1 == c.dbr0 &&& ~~~c.dbr1) r.1 r.2
  else (e0 && anyByte (fun b => b == c.dbr0) r.1 r.2) || (e1 && anyByte (fun b => b == c.dbr1) r.1 r.2)

/-- An access is compared with the breakpoint registers; a match is taken before the next instruction. -/
def State.noteMatch (s : State) (w : Width) (mva : Word) (selects : BitVec 2 → Bool) : State :=
  if s.debugOn && !s.sds && s.cp15.bkptMatch w mva selects then
    { s with pending := { s.pending with dataBkpt := true } }
  else s

/-- The comparison of a load or of a store. -/
def State.noteAccess (s : State) (w : Width) (mva : Word) (store : Bool) : State := s.noteMatch w mva (bkptType · store)

/-- The comparison of a swap. -/
def State.noteSwap (s : State) (w : Width) (mva : Word) : State := s.noteMatch w mva bkptSwap

/-! The path of an access (R150). -/

/-- Control.A: data addresses are checked for alignment (R156). -/
def State.alignChecked (s : State) : Bool := bitAt s.cp15.control 1

/-- Steps 3 and 4 of R150: the alignment check, then translation and the checks; with the MMU off the physical address
is the MVA and X = C = B = 0 (R174). -/
def State.translateData (s : State) (mva : Word) (w : Width) (privileged write : Bool) : Access Target :=
  if s.alignChecked && misaligned w mva then .abort { cause := .alignment, mva := mva } s
  else if s.mmuOn then
    match s.translateChecked .data mva privileged write with
    | .stop r => .stop r
    | .fault c s' => .abort { cause := c, mva := mva } s'
    | .ok e s' => .ok { mva := mva, pa := e.pa mva, x := e.x, c := e.c, b := e.b } s'
  else .ok { mva := mva, pa := mva, x := false, c := false, b := false } s

/-- Steps 1 to 4 of R150. -/
def State.prepare (s : State) (va : Word) (w : Width) (privileged write : Bool) : Access Target :=
  (s.noteAccess w (s.mva va) write).translateData (s.mva va) w privileged write

/-- Steps 1 to 4 of R150 for a swap, which is checked for both reading and writing (44_arm_load_store.md R530): whatever may be
written may be read (R170). -/
def State.prepareSwap (s : State) (va : Word) (w : Width) (privileged : Bool) : Access Target :=
  (s.noteSwap w (s.mva va)).translateData (s.mva va) w privileged true

/-- `MemRead(va, n)` (R150). -/
def State.memRead (s : State) (va : Word) (w : Width) (privileged : Bool) : Access Word :=
  match s.prepare va w privileged false with
  | .stop r => .stop r
  | .abort i s' => .abort i s'
  | .ok t s' =>
    match s'.loadAt t w with
    | .error r => .stop r
    | .ok (v, s'') => .ok v s''

/-- `MemWrite(va, n, v)` (R150). -/
def State.memWrite (s : State) (va : Word) (w : Width) (v : Word) (privileged : Bool) : Access Unit :=
  match s.prepare va w privileged true with
  | .stop r => .stop r
  | .abort i s' => .abort i s'
  | .ok t s' =>
    match s'.storeAt t w v with
    | .error r => .stop r
    | .ok s'' => .ok () s''

/-- The read of a word by LDR, LDRT and SWP: an unaligned one is rotated (R157). -/
def rotateRead (va v : Word) : Word := v.rotateRight (8 * (field va 0 2).toNat)

/-! The end of an instruction. -/

/-- Writes the base register where the form writes it back (44_arm_load_store.md R491). -/
def State.writeBase (s : State) (rn : Reg) (newBase : Option Word) : State :=
  match newBase with
  | none => s
  | some v => s.setReg rn v

/-- A set of registers with one more. -/
def addReg (n : Reg) (l : BitVec 16) : BitVec 16 := l ||| (1#16 <<< n.toNat)

/-- The base register as a set, where it is written back. -/
def baseSet (rn : Reg) (newBase : Option Word) : BitVec 16 := if newBase.isSome then addReg rn 0 else 0

/-- A precise data abort that Special Debug State does not take (61_debug_and_jtag.md R771): FSR, FAR and DCSR.SA, and the
base is written back; `regs` is what the instruction would have written, watched for the required NOP (93 U41). -/
def State.abortInSds (s : State) (a : AbortInfo) (rn : Reg) (newBase : Option Word) (regs : BitVec 16) : Result :=
  State.advance { ((s.recordDataAbort a).setStickyAbort.writeBase rn newBase) with
    sdsShadow := (regs ||| baseSet rn newBase) &&& 0x7FFF }

/-- A single access aborted: the exception, with no register changed (R491, R493), or what Special Debug State does. -/
def State.abortSingle (s : State) (a : AbortInfo) (counted : Bool) (rn : Reg) (newBase : Option Word)
    (regs : BitVec 16) : Result :=
  if s.sds then s.abortInSds a rn newBase regs else .next (s.takeDataAbort a counted)

/-- Registers of a list get free values in the bank of a mode, one draw each. -/
def State.freeRegs (s : State) (m : Mode) : List Reg → State
  | [] => s
  | r :: t => ((s.setBankedReg m r (s.free 0)).consume 1).freeRegs m t

/-- LDM, STM, STRD, LDC or SWP aborted: the exception, or in Special Debug State a free value in every register the
instruction writes, in the bank of mode `m` (93 U41). -/
def State.abortMultiple (s : State) (a : AbortInfo) (m : Mode) (regs : BitVec 16) : Result :=
  if s.sds then (((s.recordDataAbort a).setStickyAbort).freeRegs m (listRegs (regs &&& 0x7FFF))).advance
  else .next (s.takeDataAbort a false)

/-- The current mode is privileged. -/
def State.privileged (s : State) : Bool := s.mode.privileged

/-- A load of one register (44_arm_load_store.md R493, R494): `conv` makes the register's value of what was read. -/
def State.loadSingle (s : State) (a : Address) (rn rd : Reg) (w : Width) (privileged : Bool) (conv : Word → Word) :
    Result :=
  match s.memRead a.va w privileged with
  | .stop r => .refused r
  | .abort i s' => s'.abortSingle i (rd != 15) rn a.newBase (addReg rd 0)
  | .ok v s' =>
    let s'' := s'.writeBase rn a.newBase
    if rd = 15 then s''.jumpExchange (conv v) else (s''.setReg rd (conv v)).advance

/-- A store of one register (R493). -/
def State.storeSingle (s : State) (a : Address) (rn : Reg) (w : Width) (privileged : Bool) (v : Word) : Result :=
  match s.memWrite a.va w v privileged with
  | .stop r => .refused r
  | .abort i s' => s'.abortSingle i false rn a.newBase 0
  | .ok _ s' => (s'.writeBase rn a.newBase).advance

/-- A halfword at an odd address without the alignment check, which is refused (R157, 93 U8). -/
def State.oddHalf (s : State) (a : Word) : Bool := bitAt a 0 && !s.alignChecked

/-- A word that loads the PC from an unaligned address without the alignment check, which is refused (93 U8). -/
def State.unalignedPc (s : State) (a : Word) : Bool := field a 0 2 != 0 && !s.alignChecked

end Sys2Proof.Machine
end

