-- ==== Sys2Proof/Machine/Block.lean ====
section
/-! DEFINITION. LDM, STM, SWP and SWPB (44_arm_load_store.md R520-R531). -/

namespace Sys2Proof.Machine

/-! Reading and writing a list of registers, lowest register at the lowest address (R520). -/

/-- What the reads of a load multiple give; an abort keeps what was read before it. -/
inductive BlockRead where
  | ok (values : List (Reg × Word)) (s : State)
  | abort (values : List (Reg × Word)) (i : AbortInfo) (s : State)
  | stop (r : Refusal)

/-- One more word was read before the rest. -/
def BlockRead.cons (x : Reg × Word) : BlockRead → BlockRead
  | .ok l s => .ok (x :: l) s
  | .abort l i s => .abort (x :: l) i s
  | .stop r => .stop r

/-- The words of a list of registers, from an address up (R521); between two of them other bus masters may write
(70_reset_and_hazards.md R935). -/
def State.readBlock (s : State) (va : Word) (privileged : Bool) : List Reg → BlockRead
  | [] => .ok [] s
  | r :: t =>
    match s.memRead va .word privileged with
    | .stop e => .stop e
    | .abort i s' => .abort [] i s'
    | .ok v s' => ((if t.isEmpty then s' else s'.busGap).readBlock (va + 4) privileged t).cons (r, v)

/-- What the stores of a store multiple give; an abort counts the words before it. -/
inductive BlockWrite where
  | ok (s : State)
  | abort (before : Nat) (i : AbortInfo) (s : State)
  | stop (r : Refusal)

/-- One more word was stored before the rest. -/
def BlockWrite.succ : BlockWrite → BlockWrite
  | .ok s => .ok s
  | .abort n i s => .abort (n + 1) i s
  | .stop r => .stop r

/-- Stores one word, or with `keep` false translates and checks it only. -/
def State.writeWord (s : State) (keep : Bool) (va v : Word) (privileged : Bool) : Access Unit :=
  if keep then s.memWrite va .word v privileged
  else
    match s.prepare va .word privileged true with
    | .stop e => .stop e
    | .abort i s' => .abort i s'
    | .ok _ s' => .ok () s'

/-- Stores the values of a list of registers, from an address up (R524); a word whose register is not in `keep` is
translated and checked only.  Between two words other bus masters may write (70_reset_and_hazards.md R935). -/
def State.writeBlockRegs (s : State) (keep : BitVec 16) (va : Word) (privileged : Bool) : List (Reg × Word) → BlockWrite
  | [] => .ok s
  | (r, v) :: t =>
    match s.writeWord (bitAt keep r.toNat) va v privileged with
    | .stop e => .stop e
    | .abort i s' => .abort 0 i s'
    | .ok _ s' => ((if t.isEmpty then s' else s'.busGap).writeBlockRegs keep (va + 4) privileged t).succ

/-- Writes the loaded registers of a mode's bank; the PC is written apart. -/
def State.setBlockRegs (s : State) (m : Mode) : List (Reg × Word) → State
  | [] => s
  | (r, v) :: t => (if r = 15 then s else s.setBankedReg m r v).setBlockRegs m t

/-- After an abort each register loaded before it holds its new value or still its old one, by a free bit; the base and the
PC hold their old values (R525; log entry 45). -/
def State.setSomeRegs (s : State) (m : Mode) (rn : Reg) (pick : Word) : List (Reg × Word) → State
  | [] => s
  | (r, v) :: t =>
    (if r = 15 ∨ physReg m r = physReg s.mode rn then s
     else s.setBankedReg m r (if bitAt pick r.toNat then v else s.bankedReg m r)).setSomeRegs m rn pick t

/-- The value loaded into the PC. -/
def pcValue : List (Reg × Word) → Option Word
  | [] => none
  | (r, v) :: t => if r = 15 then some v else pcValue t

/-- A load multiple aborted (R525, 61_debug_and_jtag.md R771). -/
def State.abortLdm (s : State) (a : AbortInfo) (m : Mode) (rn : Reg) (list : BitVec 16) (w : Bool)
    (values : List (Reg × Word)) : Result :=
  if s.sds then s.abortMultiple a m (if w then addReg rn list else list)
  else ((s.consume 1).setSomeRegs m rn (s.free 0) values).abortMultiple a m 0

/-- A load multiple up to the write of the PC: registers of bank `m`, base, then `finish` (R521-R523). -/
def State.loadMultiple (s : State) (mode : BlockMode) (w : Bool) (rn : Reg) (list : BitVec 16) (m : Mode)
    (finish : State → Option Word → Result) : Result :=
  let regs := listRegs list
  let a := blockAddress mode (s.reg rn) regs.length
  match s.readBlock a.1 s.privileged regs with
  | .stop r => .refused r
  | .abort values i s' => s'.abortLdm i m rn list w values
  | .ok values s' => finish ((s'.setBlockRegs m values).writeBase rn (if w then some a.2 else none)) (pcValue values)

/-- What the load and store multiples refuse: no register, or R15 as the base (R520, 93 U2 (a), (d)). -/
def badBlock (rn : Reg) (list : BitVec 16) : Bool := list == 0 || rn == 15

/-- The User-bank forms: W = 1, or in User or System mode, are refused (R522, R524; 93 U2 (d)). -/
def State.badUserBlock (s : State) (w : Bool) : Bool := w || s.mode == .usr || s.mode == .sys

/-- The end of LDM (1): the PC branches and may change the state (R494, R521). -/
def finishLdm (s : State) (pc : Option Word) : Result :=
  match pc with
  | none => s.advance
  | some v => s.jumpExchange v

/-- The end of LDM (3): the exception return (R523). -/
def finishLdmRet (s : State) (pc : Option Word) : Result :=
  match pc with
  | none => s.advance
  | some v => s.returnTo v

/-- LDM (1) (R521). -/
def execLdm (c : Cond) (mode : BlockMode) (w : Bool) (rn : Reg) (list : BitVec 16) (s : State) : Result :=
  if s.passed c then
    if s.mode == .dbg then .refused .notInDebugMode
    else if badBlock rn list || (w && bitAt list rn.toNat) then .refused .unpredictableOperands
    else s.loadMultiple mode w rn list s.mode finishLdm
  else s.advance

/-- LDM (2) (R522): the registers of the User bank. -/
def execLdmUser (c : Cond) (mode : BlockMode) (w : Bool) (rn : Reg) (list : BitVec 15) (s : State) : Result :=
  if s.passed c then
    if s.mode == .dbg then .refused .notInDebugMode
    else if badBlock rn (0#1 ++ list) || s.badUserBlock w then .refused .unpredictableOperands
    else s.loadMultiple mode w rn (0#1 ++ list) .usr finishLdm
  else s.advance

/-- LDM (3) (R523): with the CPSR restore. -/
def execLdmRet (c : Cond) (mode : BlockMode) (w : Bool) (rn : Reg) (list : BitVec 15) (s : State) : Result :=
  if s.passed c then
    if s.mode == .dbg then .refused .notInDebugMode
    else if (s.spsrOf s.mode).isNone then .refused .noSpsr
    else if badBlock rn (1#1 ++ list) || (w && bitAt list rn.toNat) then .refused .unpredictableOperands
    else s.loadMultiple mode w rn (1#1 ++ list) s.mode finishLdmRet
  else s.advance

/-- What a store multiple stores for a register of bank `m` (R524): R15 as every store of it; the base, written back and
not the lowest of the list, a free value (93 U16). -/
def State.blockValue (s : State) (m : Mode) (w : Bool) (rn : Reg) (list : BitVec 16) (r : Reg) : Word :=
  if r = 15 then s.storeReg 15
  else if w && r == rn && (listRegs list).head? != some rn then s.free 0
  else s.bankedReg m r

/-- The state of a memory access that aborts: its translation was tried. -/
def State.tried (s : State) (va : Word) (privileged : Bool) : State :=
  match s.prepare va .word privileged true with
  | .stop _ => s
  | .abort _ s' => s'
  | .ok _ s' => s'

/-- A store multiple aborted after `before` words: these are in memory or not, by free bits, and the word that aborted and
those after it are not (R525), in Special Debug State too, where the spec speaks of its base only (61_debug_and_jtag.md R771,
93 U41; log entry 45).  `values` are what it stores, from address `va` up. -/
def State.abortStm (s : State) (before : Nat) (a : AbortInfo) (va : Word) (rn : Reg) (w : Bool)
    (values : List (Reg × Word)) : Result :=
  let written : BitVec 16 := if w then addReg rn 0 else 0
  match (s.consume 1).writeBlockRegs (field (s.free 0) 0 16) va s.privileged (values.take before) with
  | .stop r => .refused r
  | .abort _ _ s' => s'.abortMultiple a s.mode written
  | .ok s' => (s'.tried (va + BitVec.ofNat 32 (4 * before)) s.privileged).abortMultiple a s.mode written

/-- A store multiple of bank `m` (R524). -/
def State.storeMultiple (s : State) (mode : BlockMode) (w : Bool) (rn : Reg) (list : BitVec 16) (m : Mode) : Result :=
  let regs := listRegs list
  let a := blockAddress mode (s.reg rn) regs.length
  let values := regs.map (fun r => (r, s.blockValue m w rn list r))
  let s := s.consume 1
  match s.writeBlockRegs 0xFFFF a.1 s.privileged values with
  | .stop r => .refused r
  | .abort n i _ => s.abortStm n i a.1 rn w values
  | .ok s' => (s'.writeBase rn (if w then some a.2 else none)).advance

/-- STM (1) (R524). -/
def execStm (c : Cond) (mode : BlockMode) (w : Bool) (rn : Reg) (list : BitVec 16) (s : State) : Result :=
  if s.passed c then
    if badBlock rn list then .refused .unpredictableOperands
    else s.storeMultiple mode w rn list s.mode
  else s.advance

/-- STM (2) (R524): the registers of the User bank. -/
def execStmUser (c : Cond) (mode : BlockMode) (w : Bool) (rn : Reg) (list : BitVec 16) (s : State) : Result :=
  if s.passed c then
    if badBlock rn list || s.badUserBlock w then .refused .unpredictableOperands
    else s.storeMultiple mode w rn list .usr
  else s.advance

/-! Swap. -/

/-- A swap (R530, R531): one translation checked for reading and writing, the load and the store with nothing between
them; on a page that makes it a fence nothing is left in the buffers (20_memory.md R175, R253).  Data breakpoints
are compared with it as with a load and a store, but that one on loads only does not hit (61_debug_and_jtag.md R777, the swap
rows of 95_test_vectors.md §1.27 and 98_test_vectors_system.md §3.12; log entry 73).  `abort` ends it where the access aborts. -/
def State.swap (s : State) (w : Width) (rn rd rm : Reg) (conv : Word → Word → Word) (abort : State → AbortInfo → Result) :
    Result :=
  let va := s.reg rn
  match s.prepareSwap va w s.privileged with
  | .stop r => .refused r
  | .abort i s' => abort s' i
  | .ok t s' =>
    match s'.loadAt t w with
    | .error r => .refused r
    | .ok (v, s') =>
      match s'.storeAt t w (s.reg rm) with
      | .error r => .refused r
      | .ok s' => ((if t.fences false then s'.drainWrites else s').setReg rd (conv va v)).advance

/-- The register numbers a swap refuses (R530, 93 U2 (a), (e)). -/
def badSwap (rn rd rm : Reg) : Bool := rd == 15 || rm == 15 || rn == 15 || rn == rm || rn == rd

/-- SWP (R530); refused in DEBUG mode (93 U42). -/
def execSwp (c : Cond) (rn rd rm : Reg) (s : State) : Result :=
  if s.passed c then
    if s.mode == .dbg then .refused .notInDebugMode
    else if badSwap rn rd rm then .refused .unpredictableOperands
    else s.swap .word rn rd rm rotateRead (fun t i => t.abortMultiple i t.mode (addReg rd 0))
  else s.advance

/-- SWPB (R531); in Special Debug State one that aborts is an access as any other (61_debug_and_jtag.md R771, which names SWP
only). -/
def execSwpb (c : Cond) (rn rd rm : Reg) (s : State) : Result :=
  if s.passed c then
    if badSwap rn rd rm then .refused .unpredictableOperands
    else s.swap .byte rn rd rm (fun _ v => v) (fun t i => t.abortSingle i false rn none (addReg rd 0))
  else s.advance

end Sys2Proof.Machine
end

