-- ==== Sys2Proof/Machine/Branch.lean ====
section
/-! DEFINITION. The ARM branches (45_arm_branch_status.md R540-R546). -/

namespace Sys2Proof.Machine

/-- The target of B, BL and BLX(1) (R541). -/
def State.armTarget (s : State) (imm24 : BitVec 24) : Word := s.pcRead + (imm24.signExtend 32 <<< 2)

/-- B (R542). -/
def execB (c : Cond) (imm24 : BitVec 24) (s : State) : Result :=
  if s.passed c then .next (s.branchTo (s.armTarget imm24)) else s.branchNotTaken (s.armTarget imm24)

/-- BL (R543). -/
def execBl (c : Cond) (imm24 : BitVec 24) (s : State) : Result :=
  if s.passed c then .next ((s.setReg 14 s.nextPc).branchTo (s.armTarget imm24))
  else s.branchNotTaken (s.armTarget imm24)

/-- BLX(1) (R544): H adds 2 to the target. -/
def execBlxImm (h : Bool) (imm24 : BitVec 24) (s : State) : Result :=
  .next ((s.setReg 14 s.nextPc).branchExchangeTo (s.armTarget imm24 + (if h then 2 else 0)))

/-- BX (R545). -/
def execBx (c : Cond) (rm : Reg) (s : State) : Result :=
  if s.passed c then (s.count .branchExecuted).jumpExchange (s.reg rm) else (s.count .branchExecuted).advance

/-- BLX(2) (R546): the target is read before R14 is written. -/
def execBlxReg (c : Cond) (rm : Reg) (s : State) : Result :=
  if s.passed c then
    if rm == 15 then .refused .unpredictableOperands
    else ((s.count .branchExecuted).setReg 14 s.nextPc).jumpExchange (s.reg rm)
  else (s.count .branchExecuted).advance

end Sys2Proof.Machine
end

