-- ==== Sys2Proof/Machine/Multiply.lean ====
section
/-! DEFINITION. The multiplies and the saturating instructions (43_arm_multiply.md; 42_arm_data_processing.md
R426-R430). -/

namespace Sys2Proof.Machine

/-! MUL and MLA (R450-R452). -/

/-- R15 among the registers of an instruction that forbids it (93 U2 (a)). -/
def anyPc (rs : List Reg) : Bool := rs.contains 15

/-- The result of MUL or MLA: Rd, and N and Z where S is set. -/
def State.mulResult (s : State) (sf : Bool) (rd : Reg) (v : Word) : Result :=
  ((if sf then s.setNz v.msb (v == 0) else s).setReg rd v).advance

/-- MUL (R451). -/
def execMul (c : Cond) (sf : Bool) (rd : Reg) (_sbz : BitVec 4) (rs rm : Reg) (s : State) : Result :=
  if s.passed c then
    if anyPc [rd, rs, rm] || rd == rm then .refused .unpredictableOperands
    else s.mulResult sf rd (s.reg rm * s.reg rs)
  else s.advance

/-- MLA (R452). -/
def execMla (c : Cond) (sf : Bool) (rd rn rs rm : Reg) (s : State) : Result :=
  if s.passed c then
    if anyPc [rd, rn, rs, rm] || rd == rm then .refused .unpredictableOperands
    else s.mulResult sf rd (s.reg rm * s.reg rs + s.reg rn)
  else s.advance

/-! The long multiplies (R453-R456). -/

/-- The result of a long multiply: RdLo, RdHi, and N and Z of the 64 bits where S is set. -/
def State.longResult (s : State) (sf : Bool) (rdHi rdLo : Reg) (p : BitVec 64) : Result :=
  (((if sf then s.setNz p.msb (p == 0) else s).setReg rdLo (field p 0 32)).setReg rdHi (field p 32 32)).advance

/-- The register numbers a long multiply forbids (R450). -/
def longForbidden (rdHi rdLo rs rm : Reg) : Bool :=
  anyPc [rdHi, rdLo, rs, rm] || rdHi == rdLo || rdHi == rm || rdLo == rm

/-- The exact product of two words. -/
def product (signed : Bool) (a b : Word) : Int := if signed then a.toInt * b.toInt else (a.toNat : Int) * b.toNat

/-- A long multiply (R453-R456): the product, with the 64 bits of RdHi:RdLo added where `acc`. -/
def State.longMultiply (s : State) (c : Cond) (sf signed acc : Bool) (rdHi rdLo rs rm : Reg) : Result :=
  if s.passed c then
    if longForbidden rdHi rdLo rs rm then .refused .unpredictableOperands
    else
      let p := BitVec.ofInt 64 (product signed (s.reg rm) (s.reg rs))
      s.longResult sf rdHi rdLo (if acc then p + (s.reg rdHi ++ s.reg rdLo : BitVec 64) else p)
  else s.advance

/-- UMULL (R453). -/
def execUmull (c : Cond) (sf : Bool) (rdHi rdLo rs rm : Reg) (s : State) : Result :=
  s.longMultiply c sf false false rdHi rdLo rs rm

/-- UMLAL (R454). -/
def execUmlal (c : Cond) (sf : Bool) (rdHi rdLo rs rm : Reg) (s : State) : Result :=
  s.longMultiply c sf false true rdHi rdLo rs rm

/-- SMULL (R455). -/
def execSmull (c : Cond) (sf : Bool) (rdHi rdLo rs rm : Reg) (s : State) : Result :=
  s.longMultiply c sf true false rdHi rdLo rs rm

/-- SMLAL (R456). -/
def execSmlal (c : Cond) (sf : Bool) (rdHi rdLo rs rm : Reg) (s : State) : Result :=
  s.longMultiply c sf true true rdHi rdLo rs rm

/-! The half-register multiplies (R460-R465). -/

/-- The selected half as a signed integer (R460). -/
def halfOf (w : Word) (sel : HalfSel) : Int :=
  match sel with
  | .b => (field w 0 16).toInt
  | .t => (field w 16 16).toInt

/-- A product, with Rn added and Q raised on overflow of the sum (R462, R464). -/
def State.accumulateQ (s : State) (rd rn : Reg) (p : Int) : Result :=
  let sum := p + (s.reg rn).toInt
  ((s.raiseQ (doesSat32 sum)).setReg rd (BitVec.ofInt 32 sum)).advance

/-- SMLAxy (R462). -/
def execSmlaxy (c : Cond) (rd rn rs : Reg) (y x : HalfSel) (rm : Reg) (s : State) : Result :=
  if s.passed c then
    if anyPc [rd, rn, rs, rm] then .refused .unpredictableOperands
    else s.accumulateQ rd rn (halfOf (s.reg rm) x * halfOf (s.reg rs) y)
  else s.advance

/-- A 32 by 16 product without its low 16 bits (R463). -/
def wideProduct (w : Word) (h : Int) : Int := (w.toInt * h) / 65536

/-- SMLAWy (R464). -/
def execSmlawy (c : Cond) (rd rn rs : Reg) (y : HalfSel) (rm : Reg) (s : State) : Result :=
  if s.passed c then
    if anyPc [rd, rn, rs, rm] then .refused .unpredictableOperands
    else s.accumulateQ rd rn (wideProduct (s.reg rm) (halfOf (s.reg rs) y))
  else s.advance

/-- SMULWy (R463). -/
def execSmulwy (c : Cond) (rd : Reg) (_sbz : BitVec 4) (rs : Reg) (y : HalfSel) (rm : Reg) (s : State) : Result :=
  if s.passed c then
    if anyPc [rd, rs, rm] then .refused .unpredictableOperands
    else (s.setReg rd (BitVec.ofInt 32 (wideProduct (s.reg rm) (halfOf (s.reg rs) y)))).advance
  else s.advance

/-- SMLALxy (R465). -/
def execSmlalxy (c : Cond) (rdHi rdLo rs : Reg) (y x : HalfSel) (rm : Reg) (s : State) : Result :=
  if s.passed c then
    if anyPc [rdHi, rdLo, rs, rm] || rdHi == rdLo then .refused .unpredictableOperands
    else
      let p := BitVec.ofInt 64 (halfOf (s.reg rm) x * halfOf (s.reg rs) y)
      s.longResult false rdHi rdLo ((s.reg rdHi ++ s.reg rdLo : BitVec 64) + p)
  else s.advance

/-- SMULxy (R461). -/
def execSmulxy (c : Cond) (rd : Reg) (_sbz : BitVec 4) (rs : Reg) (y x : HalfSel) (rm : Reg) (s : State) : Result :=
  if s.passed c then
    if anyPc [rd, rs, rm] then .refused .unpredictableOperands
    else (s.setReg rd (BitVec.ofInt 32 (halfOf (s.reg rm) x * halfOf (s.reg rs) y))).advance
  else s.advance

/-! The saturating instructions (42_arm_data_processing.md R426-R430). -/

/-- A saturating sum: the result saturates, and Q is raised where it or the doubling does (R426). -/
def State.saturate (s : State) (rd : Reg) (doubled : Bool) (sum : Int) : Result :=
  ((s.raiseQ (doubled || doesSat32 sum)).setReg rd (signedSat32 sum)).advance

/-- QADD (R427). -/
def execQadd (c : Cond) (rn rd rm : Reg) (s : State) : Result :=
  if s.passed c then
    if anyPc [rn, rd, rm] then .refused .unpredictableOperands
    else s.saturate rd false ((s.reg rm).toInt + (s.reg rn).toInt)
  else s.advance

/-- QSUB (R428). -/
def execQsub (c : Cond) (rn rd rm : Reg) (s : State) : Result :=
  if s.passed c then
    if anyPc [rn, rd, rm] then .refused .unpredictableOperands
    else s.saturate rd false ((s.reg rm).toInt - (s.reg rn).toInt)
  else s.advance

/-- QDADD (R429). -/
def execQdadd (c : Cond) (rn rd rm : Reg) (s : State) : Result :=
  if s.passed c then
    if anyPc [rn, rd, rm] then .refused .unpredictableOperands
    else
      let d := 2 * (s.reg rn).toInt
      s.saturate rd (doesSat32 d) ((s.reg rm).toInt + (signedSat32 d).toInt)
  else s.advance

/-- QDSUB (R430). -/
def execQdsub (c : Cond) (rn rd rm : Reg) (s : State) : Result :=
  if s.passed c then
    if anyPc [rn, rd, rm] then .refused .unpredictableOperands
    else
      let d := 2 * (s.reg rn).toInt
      s.saturate rd (doesSat32 d) ((s.reg rm).toInt - (signedSat32 d).toInt)
  else s.advance

end Sys2Proof.Machine
end

