-- ==== Sys2Proof/Machine/Cp0.lean ====
section
/-! DEFINITION. Coprocessor 0: the multiplies with internal accumulate and the accumulator moves (40_cp0_dsp.md). -/

namespace Sys2Proof.Machine

/-- CPAR bit 0: access to coprocessor 0 is allowed, in every mode (10_state.md R46, R99). -/
def State.cp0Allowed (s : State) : Bool := bitAt s.cp15.cpar 0

/-- A multiply with internal accumulate (R340-R347): the exact signed product is added modulo 2^40. -/
def State.accumulate (s : State) (c : Cond) (rs rm : Reg) (p : Word → Word → Int) : Result :=
  if s.passed c then
    if s.cp0Allowed then
      if anyPc [rs, rm] then .refused .unpredictableOperands
      else (s.setAcc (s.core.acc0 + BitVec.ofInt 40 (p (s.reg rm) (s.reg rs)))).advance
    else s.undefined
  else s.advance

/-- MIA (R342). -/
def execMia (c : Cond) (rs rm : Reg) (s : State) : Result := s.accumulate c rs rm (fun m n => m.toInt * n.toInt)

/-- MIAPH (R343). -/
def execMiaph (c : Cond) (rs rm : Reg) (s : State) : Result :=
  s.accumulate c rs rm (fun m n => halfOf m .b * halfOf n .b + halfOf m .t * halfOf n .t)

/-- MIABB (R344). -/
def execMiabb (c : Cond) (rs rm : Reg) (s : State) : Result :=
  s.accumulate c rs rm (fun m n => halfOf m .b * halfOf n .b)

/-- MIABT (R345). -/
def execMiabt (c : Cond) (rs rm : Reg) (s : State) : Result :=
  s.accumulate c rs rm (fun m n => halfOf m .b * halfOf n .t)

/-- MIATB (R346). -/
def execMiatb (c : Cond) (rs rm : Reg) (s : State) : Result :=
  s.accumulate c rs rm (fun m n => halfOf m .t * halfOf n .b)

/-- MIATT (R347). -/
def execMiatt (c : Cond) (rs rm : Reg) (s : State) : Result :=
  s.accumulate c rs rm (fun m n => halfOf m .t * halfOf n .t)

/-- MAR (R349). -/
def execMar (c : Cond) (rdHi rdLo : Reg) (s : State) : Result :=
  if s.passed c then
    if s.cp0Allowed then
      if anyPc [rdHi, rdLo] then .refused .unpredictableOperands
      else (s.setAcc (field (s.reg rdHi) 0 8 ++ s.reg rdLo : BitVec 40)).advance
    else s.undefined
  else s.advance

/-- MRA (R350): bits 39:32 are sign-extended into RdHi. -/
def execMra (c : Cond) (rdHi rdLo : Reg) (s : State) : Result :=
  if s.passed c then
    if s.cp0Allowed then
      if anyPc [rdHi, rdLo] || rdHi == rdLo then .refused .unpredictableOperands
      else ((s.setReg rdLo (field s.core.acc0 0 32)).setReg rdHi ((field s.core.acc0 32 8).signExtend 32)).advance
    else s.undefined
  else s.advance

/-- The other two-register transfers of coprocessor 0 (R352): Undefined Instruction (93 U1). -/
def execCp0TransferOther (c : Cond) (_l : Bool) (_rn _rd : Reg) (_low : Byte) (s : State) : Result :=
  if s.passed c then s.undefined else s.advance

/-- The other words of coprocessor 0 (R351, R352): Undefined Instruction (92 D27, 93 U1). -/
def execCp0Other (c : Cond) (_op1 : BitVec 3) (_bit20 : Bool) (_crn _rd : BitVec 4) (_op2 : BitVec 3) (_bit4 : Bool)
    (_crm : BitVec 4) (s : State) : Result :=
  if s.passed c then s.undefined else s.advance

end Sys2Proof.Machine
end

