-- ==== Sys2Proof/Machine/Coproc.lean ====
section
/-! DEFINITION. The registers of coprocessors 15 and 14 and the instructions that reach them: MCR, MRC, LDC, STC, CDP,
MCRR, MRRC (10_state.md R60-R114, 41_coprocessor_access.md R360-R369, R378, R379, R385). -/

namespace Sys2Proof.Machine

/-- The readable bits of a register; the others are free values (00_scope.md R20, 93 U4). -/
def State.readMasked (s : State) (mask w : Word) : Word × State := (merge mask (s.free 0) w, s.consume 1)

/-! Coprocessor 15. -/

/-- The ID register (10_state.md R62; 92 D7). -/
def idRegister : Word := 0x69#8 ++ 0x05#8 ++ 1#3 ++ Config.coreRevision ++ 0b010000#6 ++ Config.productRevision

/-- The Cache Type register (10_state.md R63). -/
def cacheTypeRegister : Word := 0x0B1AA1AA

/-- A register of CP15 that MCR and MRC reach by (CRn, CRm, opcode_2) (10_state.md R60). -/
inductive Cp15Reg where
  | id | cacheType | control | aux | ttbr | dacr | fsr | far | pid | ibcr0 | ibcr1 | dbr0 | dbr1 | dbcon | cpar
  deriving DecidableEq, Repr

/-- The register table of CP15 (10_state.md R60). -/
def Cp15Reg.ofSelection (crn crm : BitVec 4) (op2 : BitVec 3) : Option Cp15Reg :=
  match crn, crm, op2 with
  | 0, 0, 0 => some .id
  | 0, 0, 1 => some .cacheType
  | 1, 0, 0 => some .control
  | 1, 0, 1 => some .aux
  | 2, 0, 0 => some .ttbr
  | 3, 0, 0 => some .dacr
  | 5, 0, 0 => some .fsr
  | 6, 0, 0 => some .far
  | 13, 0, 0 => some .pid
  | 14, 8, 0 => some .ibcr0
  | 14, 9, 0 => some .ibcr1
  | 14, 0, 0 => some .dbr0
  | 14, 3, 0 => some .dbr1
  | 14, 4, 0 => some .dbcon
  | 15, 1, 0 => some .cpar
  | _, _, _ => none

/-- Reads a register of CP15 (10_state.md R62-R99). -/
def State.readCp15Reg (s : State) : Cp15Reg → Word × State
  | .id => (idRegister, s)
  | .cacheType => (cacheTypeRegister, s)
  | .control => s.readMasked 0x00003FFF s.cp15.control
  | .aux => s.readMasked 0x00000033 s.cp15.aux
  | .ttbr => s.readMasked 0xFFFFC000 s.cp15.ttbr
  | .dacr => (s.cp15.dacr, s)
  | .fsr => s.readMasked 0x000007FF (s.cp15.fsr &&& 0x6FF)
  | .far => (s.cp15.far, s)
  | .pid => (s.cp15.pid, s)
  | .ibcr0 => (s.cp15.ibcr0, s)
  | .ibcr1 => (s.cp15.ibcr1, s)
  | .dbr0 => (s.cp15.dbr0, s)
  | .dbr1 => (s.cp15.dbr1, s)
  | .dbcon => (s.cp15.dbcon, s)
  | .cpar => s.readMasked 0x0000FFFF s.cp15.cpar

/-- MRC from CP15 (R364): registers 7, 8, 10 and the commands of 9 are refused (93 U5), the rest of what no table lists
too (93 U20). -/
def State.readCp15 (s : State) (op1 : BitVec 3) (crn crm : BitVec 4) (op2 : BitVec 3) : Except Refusal (Word × State) :=
  if op1 != 0 then .error .unlistedRegister
  else if crn == 7 || crn == 8 || crn == 9 || crn == 10 then .error .writeOnlyRegister
  else
    match Cp15Reg.ofSelection crn crm op2 with
    | none => .error .unlistedRegister
    | some r => .ok (s.readCp15Reg r)

/-- The writable bits of the Control register, with its constant bits (10_state.md R64). -/
def controlValue (v : Word) : Word := (v &&& 0x00003B87) ||| 0x00000078

/-- Halt mode outside Special Debug State: software does not write DCSR and the breakpoint registers (10_state.md R110,
92 D18). -/
def State.debugLocked (s : State) : Bool := s.haltMode && !s.sds

/-- Writes a breakpoint register, where it is not locked. -/
def State.writeBkptReg (s : State) (f : Cp15 → Cp15) : State :=
  if s.debugLocked then s else s.setCp15 (f s.cp15)

/-- An instruction breakpoint enabled while debug is off, which is refused (93 U40). -/
def State.ibcrError (s : State) (v : Word) : Bool := !s.debugLocked && bitAt v 0 && !s.debugOn

/-- The translations of fetches that end when the Control register turns the MMU on or off (93 U11; log entry 44). -/
def State.endedMaps (s : State) (v : Word) : List (Option TlbEntry) :=
  if bitAt v 0 == s.mmuOn then []
  else if s.mmuOn then s.itlb.held.map some
  else [none]

/-- Writes the Control register (10_state.md R64). -/
def State.writeControl (s : State) (v : Word) : State :=
  (s.noteMaps (s.endedMaps v)).setCp15 { s.cp15 with control := controlValue v }

/-- Writes the PID, which invalidates the BTB (R378). -/
def State.writePid (s : State) (v : Word) : State :=
  let pid := v &&& 0xFE000000
  { s.setCp15 { s.cp15 with pid := pid } with
    btb := []
    stale := { s.stale with
      pids := if pid == s.cp15.pid || s.stale.pids.contains s.cp15.pid then s.stale.pids
        else s.cp15.pid :: s.stale.pids } }

/-- Writes a register of CP15, with the effects of R378. -/
def State.writeCp15Reg (s : State) (r : Cp15Reg) (v : Word) : Except Refusal State :=
  match r with
  | .id => .ok s
  | .cacheType => .ok s
  | .control =>
    if bitAt v 2 && !bitAt v 0 then .error .invalidCacheEnable
    else .ok (s.writeControl v)
  | .aux => .ok (s.setCp15 { s.cp15 with aux := v &&& 0x33 })
  | .ttbr => .ok (s.setCp15 { s.cp15 with ttbr := v &&& 0xFFFFC000 })
  | .dacr => .ok (s.setCp15 { s.cp15 with dacr := v })
  | .fsr => .ok (s.setCp15 { s.cp15 with fsr := v &&& 0x6FF })
  | .far => .ok (s.setCp15 { s.cp15 with far := v })
  | .pid => .ok (s.writePid v)
  | .ibcr0 =>
    if s.ibcrError v then .error .breakpointWithDebugOff else .ok (s.writeBkptReg (fun c => { c with ibcr0 := v }))
  | .ibcr1 =>
    if s.ibcrError v then .error .breakpointWithDebugOff else .ok (s.writeBkptReg (fun c => { c with ibcr1 := v }))
  | .dbr0 => .ok (s.writeBkptReg (fun c => { c with dbr0 := v }))
  | .dbr1 => .ok (s.writeBkptReg (fun c => { c with dbr1 := v }))
  | .dbcon => .ok (s.writeBkptReg (fun c => { c with dbcon := v &&& 0x10F }))
  | .cpar => .ok (s.setCp15 { s.cp15 with cpar := v &&& 0x3FFF })

/-- MCR to a register of CP15 (R363); what no table lists is refused (93 U20). -/
def State.writeCp15 (s : State) (op1 : BitVec 3) (crn crm : BitVec 4) (op2 : BitVec 3) (v : Word) :
    Except Refusal State :=
  if op1 != 0 then .error .unlistedRegister
  else
    match Cp15Reg.ofSelection crn crm op2 with
    | none => .error .unlistedRegister
    | some r => s.writeCp15Reg r v

/-! Coprocessor 14. -/

/-- The trace buffer and the checkpoint registers after an access that makes them unpredictable: free values (93 U44). -/
def State.scrambleTrace (s : State) : State :=
  { s with
    trace := { s.trace with
      buf := Vector.ofFn (fun i : Fin 256 => byteOf (s.free (i.val / 4)) (i.val % 4))
      p := field (s.free 64) 0 8
      fill := s.freeAmount 65 % 257
      sinceCkpt := some (s.freeAmount 66 % 129) }
    cp14 := { s.cp14 with chkpt0 := s.free 67, chkpt1 := s.free 68 }
    freeCtr := s.freeCtr + 69 }

/-- Reads TBREG (61_debug_and_jtag.md R805): the oldest byte, which is cleared. -/
def State.readTbreg (s : State) : Word × State :=
  if s.traceOn then (s.free 0, (s.consume 1).scrambleTrace)
  else
    (s.trace.buf[s.trace.p.toFin].zeroExtend 32,
      { s with trace := { s.trace with
        buf := s.trace.buf.set s.trace.p.toFin 0, p := s.trace.p + 1, fill := s.trace.fill - 1 } })

/-- Reads a checkpoint register (10_state.md R112). -/
def State.readChkpt (s : State) (w : Word) : Word × State :=
  if s.traceOn then (s.free 0, (s.consume 1).scrambleTrace) else (w, s)

/-- Reads RX, which clears RR (61_debug_and_jtag.md R791). -/
def State.readRx (s : State) : Word × State :=
  (s.cp14.rx, s.setCp14 { s.cp14 with txrxctrl := setBit 31 false s.cp14.txrxctrl })

/-- Reads a register of CP14 (R364, R379). -/
def State.readCp14 (s : State) (n : BitVec 4) : Except Refusal (Word × State) :=
  match n with
  | 0 => .ok (s.readMasked 0x0FFFF779 s.cp14.pmnc)
  | 1 => .ok (s.cp14.ccnt, s)
  | 2 => .ok (s.cp14.pmn0, s)
  | 3 => .ok (s.cp14.pmn1, s)
  | 6 => .ok (s.readMasked 0xF (s.cp14.cclkcfg.zeroExtend 32))
  | 7 => .ok (s.readMasked 0x3 0)
  | 8 => .ok (s.cp14.tx, s)
  | 9 => .ok s.readRx
  | 10 => .ok (s.readMasked 0xC0DF003F s.cp14.dcsr)
  | 11 => .ok s.readTbreg
  | 12 => .ok (s.readChkpt s.cp14.chkpt0)
  | 13 => .ok (s.readChkpt s.cp14.chkpt1)
  | 14 => .ok (s.cp14.txrxctrl, s)
  | _ => .error .unlistedRegister

/-- The readable bits of PMNC after a write (60_exceptions.md R732): a written one clears a flag. -/
def pmncValue (old v : Word) : Word := (v &&& 0x0FFFF079) ||| (old &&& 0x700 &&& ~~~v)

/-- Writes PMNC: C resets the clock counter, P the performance counters (60_exceptions.md R732). -/
def writePmnc (v : Word) (c : Cp14) : Cp14 :=
  { c with
    pmnc := pmncValue c.pmnc v
    ccnt := if bitAt v 2 then 0 else c.ccnt
    pmn0 := if bitAt v 1 then 0 else c.pmn0
    pmn1 := if bitAt v 1 then 0 else c.pmn1 }

/-- Enters a power mode (60_exceptions.md R720): the performance monitor becomes unpredictable (93 U15). -/
def State.enterPowerMode (s : State) (m : PowerMode) : State :=
  { s with
    power := m
    cp14 := { s.cp14 with pmnc := s.free 0, ccnt := s.free 1, pmn0 := s.free 2, pmn1 := s.free 3 }
    freeCtr := s.freeCtr + 4 }

/-- The code of the JTAG instruction idcode (61_debug_and_jtag.md R835). -/
def idcodeInstr : BitVec 5 := 0b11110

/-- The bits of DCSR that the debugger writes (61_debug_and_jtag.md R769). -/
def jtagDcsrMask : Word := 0x40DF0000

/-- The JTAG side after it was powered down: the TAP controller is initialised as by TRST (61_debug_and_jtag.md R831, R832,
R848), and the rest is free (log entry 74). -/
def State.freshJtag (s : State) : Jtag :=
  { s.jtag with
    tap := .testLogicReset
    irShift := field (s.free 0) 0 5
    ir := idcodeInstr
    bypass := field (s.free 0) 5 1
    idShift := s.free 1
    dbgSr := field (s.free 0) 6 4 ++ s.free 2
    dbgReg := 0#1 ++ s.free 3 ++ 0#2
    ldicSr := field (s.free 0) 10 1 ++ s.free 4
    ldicReg := field (s.free 0) 11 1 ++ s.free 5
    ldicSr2 := field (s.free 0) 12 1 ++ s.free 6
    ldic := none
    tcksSinceLdic := 15
    tdo := none
    holdRst := false }

/-- Enters Sleep: all JTAG circuitry is powered down (61_debug_and_jtag.md R831), and of the debug state, which only a reset
follows, nothing is kept (60_exceptions.md R720; log entry 74). -/
def State.enterSleep (s : State) : State :=
  let s := (s.enterPowerMode .sleep).scrambleTrace
  { s with
    trace := { s.trace with cnt := field (s.free 0) 13 4 }
    jtag := s.freshJtag
    cp14 := { s.cp14 with dcsr := s.cp14.dcsr &&& ~~~jtagDcsrMask }
    pending := { s.pending with extBreak := false }
    freeCtr := s.freeCtr + 7 }

/-- Writes PWRMODE (60_exceptions.md R720). -/
def State.writePwrmode (s : State) (v : Word) : Except Refusal State :=
  match field v 0 2 with
  | 0 => .ok s
  | 1 => .ok (s.enterPowerMode .idle)
  | 2 => .error .reservedPowerMode
  | _ => .ok s.enterSleep

/-- Writes DCSR (61_debug_and_jtag.md R769); enabling the trace buffer starts the checkpoint schedule anew (92 D34) and the
instruction count at 0, since which the enabling instruction is the first that is counted (R803; log entry 35). -/
def State.writeDcsr (s : State) (v : Word) : State :=
  if s.debugLocked then s
  else
    let s' := s.setCp14 { s.cp14 with dcsr := merge 0x8000003F s.cp14.dcsr v }
    if !s.traceOn && s'.traceOn then { s' with trace := { s'.trace with sinceCkpt := none, cnt := 0 } } else s'

/-- Writes a register of CP14 (R363, R379). -/
def State.writeCp14 (s : State) (n : BitVec 4) (v : Word) : Except Refusal State :=
  match n with
  | 0 => .ok (s.setCp14 (writePmnc v s.cp14))
  | 1 => .ok (s.setCp14 { s.cp14 with ccnt := v })
  | 2 => .ok (s.setCp14 { s.cp14 with pmn0 := v })
  | 3 => .ok (s.setCp14 { s.cp14 with pmn1 := v })
  | 6 => .ok (s.setCp14 { s.cp14 with cclkcfg := field v 0 4 })
  | 7 => s.writePwrmode v
  | 8 => .ok (s.setCp14 { s.cp14 with tx := v, txrxctrl := setBit 28 true s.cp14.txrxctrl })
  | 9 => .ok s
  | 10 => .ok (s.writeDcsr v)
  | 11 => .ok s.scrambleTrace
  | 12 => .ok (if s.traceOn then s.scrambleTrace else s.setCp14 { s.cp14 with chkpt0 := v })
  | 13 => .ok (if s.traceOn then s.scrambleTrace else s.setCp14 { s.cp14 with chkpt1 := v })
  | 14 => .ok (s.setCp14 { s.cp14 with txrxctrl := setBit 30 (bitAt v 30) s.cp14.txrxctrl })
  | _ => .error .unlistedRegister

/-! The instructions. -/

/-- The destination of MRC: a register, or with Rd = 15 the flags (R364, R366). -/
def State.writeMrc (s : State) (rd : Reg) (v : Word) : State :=
  if rd = 15 then s.setCpsr (merge 0xF0000000 s.core.cpsr v) else s.setReg rd v

/-- The end of an MRC. -/
def finishMrc (rd : Reg) (r : Except Refusal (Word × State)) : Result :=
  match r with
  | .error e => .refused e
  | .ok (v, s) => (s.writeMrc rd v).advance

/-- The end of an MCR. -/
def finishMcr (r : Except Refusal State) : Result :=
  match r with
  | .error e => .refused e
  | .ok s => s.advance

/-- CP14 has only CRn: the other fields must be zero (10_state.md R100, 93 U20). -/
def cp14Selected (op1 : BitVec 3) (op2 : BitVec 3) (crm : BitVec 4) : Bool := op1 == 0 && op2 == 0 && crm == 0

/-- MCR (R360, R361, R363). -/
def execMcr (c : Cond) (op1 : BitVec 3) (crn : BitVec 4) (rd : Reg) (cp : BitVec 4) (op2 : BitVec 3) (crm : BitVec 4)
    (s : State) : Result :=
  if s.passed c then
    if (cp != 14 && cp != 15) || !s.privileged then s.undefined
    else if rd == 15 then .refused .unpredictableOperands
    else if cp == 15 then finishMcr (s.writeCp15 op1 crn crm op2 (s.reg rd))
    else if cp14Selected op1 op2 crm then finishMcr (s.writeCp14 crn (s.reg rd))
    else .refused .unlistedRegister
  else s.advance

/-- MRC (R360, R361, R364). -/
def execMrc (c : Cond) (op1 : BitVec 3) (crn : BitVec 4) (rd : Reg) (cp : BitVec 4) (op2 : BitVec 3) (crm : BitVec 4)
    (s : State) : Result :=
  if s.passed c then
    if (cp != 14 && cp != 15) || !s.privileged then s.undefined
    else if cp == 15 then finishMrc rd (s.readCp15 op1 crn crm op2)
    else if cp14Selected op1 op2 crm then finishMrc rd (s.readCp14 crn)
    else .refused .unlistedRegister
  else s.advance

/-- What LDC and STC refuse (R368; 93 U9, U42, U2 (a)). -/
def State.ldcError (s : State) (n w : Bool) (rn : Reg) : Option Refusal :=
  if n then some .cp14LongTransfer
  else if s.mode == .dbg then some .notInDebugMode
  else if rn == 15 && w then some .unpredictableOperands
  else none

/-- The word of LDC was read: the register is written, then the base. -/
def State.finishLdc (s : State) (crd : BitVec 4) (v : Word) (rn : Reg) (newBase : Option Word) : Result :=
  match s.writeCp14 crd v with
  | .error e => .refused e
  | .ok s' => (s'.writeBase rn newBase).advance

/-- LDC aborted; in Special Debug State the registers it writes get free values (93 U41). -/
def State.abortLdc (s : State) (crd : BitVec 4) (i : AbortInfo) (rn : Reg) (newBase : Option Word) : Result :=
  if s.sds then
    match (s.consume 1).writeCp14 crd (s.free 0) with
    | .error e => .refused e
    | .ok s' => s'.abortMultiple i s'.mode (baseSet rn newBase)
  else s.abortMultiple i s.mode 0

/-- LDC (R368): to CP14 only. -/
def execLdc (c : Cond) (p u n w : Bool) (rn : Reg) (crd cp : BitVec 4) (off : Byte) (s : State) : Result :=
  if s.passed c then
    if cp != 14 || !s.privileged then s.undefined
    else
      match s.ldcError n w rn with
      | some r => .refused r
      | none =>
        let a := s.address5 p u w rn off
        match s.memRead a.va .word true with
        | .stop r => .refused r
        | .abort i s' => s'.abortLdc crd i rn a.newBase
        | .ok v s' => s'.finishLdc crd v rn a.newBase
  else s.advance

/-- STC (R369): the address is translated and checked before the register is read. -/
def execStc (c : Cond) (p u n w : Bool) (rn : Reg) (crd cp : BitVec 4) (off : Byte) (s : State) : Result :=
  if s.passed c then
    if cp != 14 || !s.privileged then s.undefined
    else
      match s.ldcError n w rn with
      | some r => .refused r
      | none =>
        let a := s.address5 p u w rn off
        match s.prepare a.va .word true true with
        | .stop r => .refused r
        | .abort i s' => s'.abortSingle i false rn a.newBase 0
        | .ok t s' =>
          match s'.readCp14 crd with
          | .error e => .refused e
          | .ok (v, s') =>
            match s'.storeAt t .word v with
            | .error e => .refused e
            | .ok s' => (s'.writeBase rn a.newBase).advance
  else s.advance

/-- CDP (R367): Undefined Instruction for every coprocessor. -/
def execCdp (c : Cond) (_op1 _crn _crd _cp : BitVec 4) (_op2 : BitVec 3) (_crm : BitVec 4) (s : State) : Result :=
  if s.passed c then s.undefined else s.advance

/-- MCRR to another coprocessor than 0 (R385): Undefined Instruction. -/
def execMcrr (c : Cond) (_rn _rd : Reg) (_cp _op _crm : BitVec 4) (s : State) : Result :=
  if s.passed c then s.undefined else s.advance

/-- MRRC to another coprocessor than 0 (R385): Undefined Instruction. -/
def execMrrc (c : Cond) (_rn _rd : Reg) (_cp _op _crm : BitVec 4) (s : State) : Result :=
  if s.passed c then s.undefined else s.advance

/-- The LDC and STC pattern with P = U = N = W = 0 (30_encoding.md R292): Undefined Instruction. -/
def execUndefLdcStc (c : Cond) (_l : Bool) (_low : BitVec 20) (s : State) : Result :=
  if s.passed c then s.undefined else s.advance

end Sys2Proof.Machine
end

