-- ==== Sys2Proof/WellFormed.lean ====
section
/-! DEFINITION. Which terms of `Instr` are instructions: the values an encoding admits (30_encoding.md R286-R301).
A catch-all row of the opcode table is well formed for the words that reach it in the decoding order of R297 and R301. -/

namespace Sys2Proof

/-- (match, mask) of the 110 `arm32` rows of opcode_table.json, in the decoding order of R297. -/
def armRows : List (Word × Word) :=
  [(0xF550F000, 0xFD70F000), (0xFA000000, 0xFE000000), (0xF0000000, 0xF0000000), (0xE1200070, 0xFFF000F0), (0x01200070, 0x0FF000F0),
   (0x010F0000, 0x0FBF0FFF), (0x0120F000, 0x0FB0FFF0), (0x012FFF10, 0x0FFFFFF0), (0x012FFF30, 0x0FFFFFF0), (0x016F0F10, 0x0FFF0FF0),
   (0x01000050, 0x0FF00FF0), (0x01200050, 0x0FF00FF0), (0x01400050, 0x0FF00FF0), (0x01600050, 0x0FF00FF0), (0x01000080, 0x0FF00090),
   (0x01200080, 0x0FF000B0), (0x012000A0, 0x0FF000B0), (0x01400080, 0x0FF00090), (0x01600080, 0x0FF00090), (0x00000090, 0x0FE000F0),
   (0x00200090, 0x0FE000F0), (0x00800090, 0x0FE000F0), (0x00A00090, 0x0FE000F0), (0x00C00090, 0x0FE000F0), (0x00E00090, 0x0FE000F0),
   (0x01000090, 0x0FF00FF0), (0x01400090, 0x0FF00FF0), (0x000000B0, 0x0E1000F0), (0x000000D0, 0x0E1000F0), (0x000000F0, 0x0E1000F0)] ++
  [(0x001000B0, 0x0E1000F0), (0x001000D0, 0x0E1000F0), (0x001000F0, 0x0E1000F0), (0x00000090, 0x0E000090), (0x06000010, 0x0E000010),
   (0x0E200010, 0x0FFF0FF0), (0x0E280010, 0x0FFF0FF0), (0x0E2C0010, 0x0FFF0FF0), (0x0E2D0010, 0x0FFF0FF0), (0x0E2E0010, 0x0FFF0FF0),
   (0x0E2F0010, 0x0FFF0FF0), (0x0C400000, 0x0FF00FFF), (0x0C500000, 0x0FF00FFF), (0x0C400000, 0x0FE00F00), (0x0E000000, 0x0F000F00),
   (0x0C400000, 0x0FF00000), (0x0C500000, 0x0FF00000), (0x0C000000, 0x0FE00000), (0x0C100000, 0x0E100000), (0x0C000000, 0x0E100000),
   (0x0E000000, 0x0F000010), (0x0E070F17, 0x0FFF0FFF), (0x0E070F15, 0x0FFF0FFF), (0x0E070F35, 0x0FFF0FFF), (0x0E070F16, 0x0FFF0FFF),
   (0x0E070F36, 0x0FFF0FFF), (0x0E070F3A, 0x0FFF0FFF), (0x0E070F9A, 0x0FFF0FFF), (0x0E070FD5, 0x0FFF0FFF), (0x0E070FB2, 0x0FFF0FFF)] ++
  [(0x0E080F17, 0x0FFF0FFF), (0x0E080F15, 0x0FFF0FFF), (0x0E080F35, 0x0FFF0FFF), (0x0E080F16, 0x0FFF0FFF), (0x0E080F36, 0x0FFF0FFF),
   (0x0E090F11, 0x0FFF0FFF), (0x0E090F31, 0x0FFF0FFF), (0x0E190F12, 0x0FFF0FFF), (0x0E090F12, 0x0FFF0FFF), (0x0E090F32, 0x0FFF0FFF),
   (0x0E0A0F14, 0x0FFF0FFF), (0x0E0A0F18, 0x0FFF0FFF), (0x0E0A0F34, 0x0FFF0FFF), (0x0E0A0F38, 0x0FFF0FFF), (0x0E000010, 0x0F100010),
   (0x0E100010, 0x0F100010), (0x0F000000, 0x0F000000), (0x0A000000, 0x0F000000), (0x0B000000, 0x0F000000), (0x08100000, 0x0E500000),
   (0x08500000, 0x0E508000), (0x08508000, 0x0E508000), (0x08000000, 0x0E500000), (0x08400000, 0x0E500000), (0x04300000, 0x0D700000),
   (0x04700000, 0x0D700000), (0x04200000, 0x0D700000), (0x04600000, 0x0D700000), (0x04100000, 0x0C500000), (0x04500000, 0x0C500000)] ++
  [(0x04000000, 0x0C500000), (0x04400000, 0x0C500000), (0x0320F000, 0x0FB0F000), (0x00000000, 0x0DE00000), (0x00200000, 0x0DE00000),
   (0x00400000, 0x0DE00000), (0x00600000, 0x0DE00000), (0x00800000, 0x0DE00000), (0x00A00000, 0x0DE00000), (0x00C00000, 0x0DE00000),
   (0x00E00000, 0x0DE00000), (0x01100000, 0x0DF00000), (0x01300000, 0x0DF00000), (0x01500000, 0x0DF00000), (0x01700000, 0x0DF00000),
   (0x01800000, 0x0DE00000), (0x01A00000, 0x0DE00000), (0x01C00000, 0x0DE00000), (0x01E00000, 0x0DE00000), (0x00000000, 0x00000000)]

/-- (match, mask) of the 68 `thumb16` rows of opcode_table.json, in the decoding order of R301. -/
def thumbRows : List (Half × Half) :=
  [(0x4700, 0xFF87), (0x4780, 0xFF87), (0x0000, 0xF800), (0x0800, 0xF800), (0x1000, 0xF800),
   (0x1800, 0xFE00), (0x1A00, 0xFE00), (0x1C00, 0xFE00), (0x1E00, 0xFE00), (0x2000, 0xF800),
   (0x2800, 0xF800), (0x3000, 0xF800), (0x3800, 0xF800), (0x4000, 0xFFC0), (0x4040, 0xFFC0),
   (0x4080, 0xFFC0), (0x40C0, 0xFFC0), (0x4100, 0xFFC0), (0x4140, 0xFFC0), (0x4180, 0xFFC0),
   (0x41C0, 0xFFC0), (0x4200, 0xFFC0), (0x4240, 0xFFC0), (0x4280, 0xFFC0), (0x42C0, 0xFFC0),
   (0x4300, 0xFFC0), (0x4340, 0xFFC0), (0x4380, 0xFFC0), (0x43C0, 0xFFC0), (0x4400, 0xFF00)] ++
  [(0x4500, 0xFF00), (0x4600, 0xFF00), (0x4800, 0xF800), (0x5000, 0xFE00), (0x5200, 0xFE00),
   (0x5400, 0xFE00), (0x5600, 0xFE00), (0x5800, 0xFE00), (0x5A00, 0xFE00), (0x5C00, 0xFE00),
   (0x5E00, 0xFE00), (0x6000, 0xF800), (0x6800, 0xF800), (0x7000, 0xF800), (0x7800, 0xF800),
   (0x8000, 0xF800), (0x8800, 0xF800), (0x9000, 0xF800), (0x9800, 0xF800), (0xA000, 0xF800),
   (0xA800, 0xF800), (0xB000, 0xFF80), (0xB080, 0xFF80), (0xB400, 0xFE00), (0xBC00, 0xFE00),
   (0xBE00, 0xFF00), (0xB000, 0xF000), (0xC000, 0xF800), (0xC800, 0xF800), (0xDE00, 0xFF00)] ++
  [(0xDF00, 0xFF00), (0xD000, 0xF000), (0xE000, 0xF800), (0xE801, 0xF801), (0xE800, 0xF800),
   (0xF000, 0xF800), (0xF800, 0xF800), (0x0000, 0x0000)]

/-- The number of the first row a word matches: "first hit wins" (R297). -/
def firstRow {n : Nat} (rows : List (BitVec n × BitVec n)) (w : BitVec n) : Nat :=
  rows.findIdx (fun r => w &&& r.2 == r.1)

/-- The four bits of a condition (R281). -/
def Cond.bits : Cond → BitVec 4
  | .eq => 0 | .ne => 1 | .cs => 2 | .cc => 3 | .mi => 4 | .pl => 5 | .vs => 6 | .vc => 7
  | .hi => 8 | .ls => 9 | .ge => 10 | .lt => 11 | .gt => 12 | .le => 13 | .al => 14

/-- A conditional word reaches row `k` of the opcode table. -/
def reachesRow (k : Nat) (c : Cond) (low : BitVec 28) : Bool :=
  firstRow armRows (c.bits ++ low : BitVec 32) == k

/-- The multiply-accumulate patterns of coprocessor 0 (40_cp0_dsp.md R341): [23:20] = 0010, accumulator 0. -/
def isMiaPattern (op1 : BitVec 3) (bit20 : Bool) (crn : BitVec 4) (op2 : BitVec 3) (bit4 : Bool) : Bool :=
  op1 == 1 && !bit20 && op2 == 0 && bit4 &&
    (crn == 0 || crn == 8 || crn == 12 || crn == 13 || crn == 14 || crn == 15)

/-- The (CRn, CRm, opcode_2) of the CP15 functions that have a row of their own and are written by MCR
(41_coprocessor_access.md R370 to R377). -/
def cp15Functions : List (BitVec 4 × BitVec 4 × BitVec 3) :=
  [(7, 7, 0), (7, 5, 0), (7, 5, 1), (7, 6, 0), (7, 6, 1), (7, 10, 1), (7, 10, 4), (7, 5, 6), (7, 2, 5),
   (8, 7, 0), (8, 5, 0), (8, 5, 1), (8, 6, 0), (8, 6, 1), (9, 1, 0), (9, 1, 1), (9, 2, 0), (9, 2, 1),
   (10, 4, 0), (10, 8, 0), (10, 4, 1), (10, 8, 1)]

/-- An MCR of the generic row: no coprocessor 0 word (R297 (7)) and no CP15 function with a row of its own (R312 (c)). -/
def genericMcr (op1 : BitVec 3) (crn cp : BitVec 4) (op2 : BitVec 3) (crm : BitVec 4) : Bool :=
  cp != 0 && !(cp == 15 && op1 == 0 && cp15Functions.contains (crn, crm, op2))

/-- An MRC of the generic row: not coprocessor 0 and not the read of the data cache lock register (R312 (c)). -/
def genericMrc (op1 : BitVec 3) (crn cp : BitVec 4) (op2 : BitVec 3) (crm : BitVec 4) : Bool :=
  cp != 0 && !(cp == 15 && op1 == 0 && crn == 9 && crm == 2 && op2 == 0)

/-- P = U = W = 0 is no LDC or STC: with N = 0 it is undefined, with N = 1 it is MCRR or MRRC (R292). -/
def ldcForm (p u w : Bool) : Bool := p || u || w

/-- The terms that are instructions. -/
def wellFormed : Instr → Bool
  | .pld _ _ off bit4 => match off with
    | .imm _ => !bit4
    | .scaled _ _ _ => true
  | .undefUncond low => let k := firstRow armRows (15#4 ++ low : BitVec 32); k == 2
  | .undefBkptCond c _ _ => c != .al
  | .undefMulSpace c low => reachesRow 33 c low
  | .undefArch c low => reachesRow 34 c low
  | .cp0TransferOther _ _ _ _ low => low != 0
  | .cp0Other _ op1 bit20 crn _ op2 bit4 _ => !isMiaPattern op1 bit20 crn op2 bit4
  | .mcrr _ _ _ cp _ _ => cp != 0
  | .mrrc _ _ _ cp _ _ => cp != 0
  | .ldc _ p u _ w _ _ _ _ => ldcForm p u w
  | .stc _ p u _ w _ _ _ _ => ldcForm p u w
  | .cdp _ _ _ _ cp _ _ => cp != 0
  | .mcr _ op1 crn _ cp op2 crm => genericMcr op1 crn cp op2 crm
  | .mrc _ op1 crn _ cp op2 crm => genericMrc op1 crn cp op2 crm
  | .ldr _ ix _ _ _ _ => ix != .postW
  | .ldrb _ ix _ _ _ _ => ix != .postW
  | .str _ ix _ _ _ _ => ix != .postW
  | .strb _ ix _ _ _ _ => ix != .postW
  | .undefRest c low => reachesRow 109 c low
  | .tUndefMisc low => firstRow thumbRows (11#4 ++ low : BitVec 16) == 56
  | .tBCond c _ => c != .al
  | .tUndefRest low => firstRow thumbRows low == 67
  | .blxImm _ _ | .bkpt _ _ | .mrs _ _ _ | .msrReg _ _ _ _ | .bx _ _ | .blxReg _ _ | .clz _ _ _ | .qadd _ _ _ _
  | .qsub _ _ _ _ | .qdadd _ _ _ _ | .qdsub _ _ _ _ | .smlaxy _ _ _ _ _ _ _ | .smlawy _ _ _ _ _ _
  | .smulwy _ _ _ _ _ _ | .smlalxy _ _ _ _ _ _ _ | .smulxy _ _ _ _ _ _ _ | .mul _ _ _ _ _ _ | .mla _ _ _ _ _ _
  | .umull _ _ _ _ _ _ | .umlal _ _ _ _ _ _ | .smull _ _ _ _ _ _ | .smlal _ _ _ _ _ _ | .swp _ _ _ _
  | .swpb _ _ _ _ | .strh _ _ _ _ _ _ | .ldrd _ _ _ _ _ _ | .strd _ _ _ _ _ _ | .ldrh _ _ _ _ _ _
  | .ldrsb _ _ _ _ _ _ | .ldrsh _ _ _ _ _ _ | .mia _ _ _ | .miaph _ _ _ | .miabb _ _ _ | .miabt _ _ _
  | .miatb _ _ _ | .miatt _ _ _ | .mar _ _ _ | .mra _ _ _ | .undefLdcStc _ _ _ | .invIDCacheBtb _ _
  | .invICacheBtb _ _ | .invICacheLine _ _ | .invDCache _ _ | .invDCacheLine _ _ | .cleanDCacheLine _ _
  | .drainWriteBuffer _ _ | .invBtb _ _ | .allocDCacheLine _ _ | .invIDTlb _ _ | .invITlb _ _ | .invITlbEntry _ _
  | .invDTlb _ _ | .invDTlbEntry _ _ | .lockICacheLine _ _ | .unlockICache _ _ | .readDCacheLock _ _
  | .writeDCacheLock _ _ | .unlockDCache _ _ | .lockITlbEntry _ _ | .lockDTlbEntry _ _ | .unlockITlb _ _
  | .unlockDTlb _ _ | .swi _ _ | .b _ _ | .bl _ _ | .ldm _ _ _ _ _ | .ldmUser _ _ _ _ _ | .ldmRet _ _ _ _ _
  | .stm _ _ _ _ _ | .stmUser _ _ _ _ _ | .ldrt _ _ _ _ _ | .ldrbt _ _ _ _ _ | .strt _ _ _ _ _ | .strbt _ _ _ _ _
  | .msrImm _ _ _ _ _ | .and _ _ _ _ _ | .eor _ _ _ _ _ | .sub _ _ _ _ _ | .rsb _ _ _ _ _ | .add _ _ _ _ _
  | .adc _ _ _ _ _ | .sbc _ _ _ _ _ | .rsc _ _ _ _ _ | .tst _ _ _ _ | .teq _ _ _ _ | .cmp _ _ _ _ | .cmn _ _ _ _
  | .orr _ _ _ _ _ | .mov _ _ _ _ _ | .bic _ _ _ _ _ | .mvn _ _ _ _ _ | .tBx _ _ | .tBlxReg _ _ | .tLslImm _ _ _
  | .tLsrImm _ _ _ | .tAsrImm _ _ _ | .tAddReg _ _ _ | .tSubReg _ _ _ | .tAddImm3 _ _ _ | .tSubImm3 _ _ _
  | .tMovImm _ _ | .tCmpImm _ _ | .tAddImm8 _ _ | .tSubImm8 _ _ | .tAnd _ _ | .tEor _ _ | .tLslReg _ _
  | .tLsrReg _ _ | .tAsrReg _ _ | .tAdc _ _ | .tSbc _ _ | .tRor _ _ | .tTst _ _ | .tNeg _ _ | .tCmpReg _ _
  | .tCmn _ _ | .tOrr _ _ | .tMul _ _ | .tBic _ _ | .tMvn _ _ | .tAddHigh _ _ _ _ | .tCmpHigh _ _ _ _
  | .tMovHigh _ _ _ _ | .tLdrPc _ _ | .tStrReg _ _ _ | .tStrhReg _ _ _ | .tStrbReg _ _ _ | .tLdrsb _ _ _
  | .tLdrReg _ _ _ | .tLdrhReg _ _ _ | .tLdrbReg _ _ _ | .tLdrsh _ _ _ | .tStrImm _ _ _ | .tLdrImm _ _ _
  | .tStrbImm _ _ _ | .tLdrbImm _ _ _ | .tStrhImm _ _ _ | .tLdrhImm _ _ _ | .tStrSp _ _ | .tLdrSp _ _ | .tAddPc _ _
  | .tAddSp _ _ | .tIncSp _ | .tDecSp _ | .tPush _ _ | .tPop _ _ | .tBkpt _ | .tStmia _ _ | .tLdmia _ _
  | .tUndefDE _ | .tSwi _ | .tB _ | .tUndefBlx _ | .tBlxSuffix _ | .tBlHead _ | .tBlSuffix _ => true

end Sys2Proof
end

