-- ==== Sys2Proof/Decode.lean ====
section
/-! DEFINITION. The decoder (30_encoding.md R280-R303) and, after it, the encoder.  The ARM decoder asks the fields in
a tree that gives every word the first row of the table it matches (R297); both are total. -/

namespace Sys2Proof

/-- The `len` bits of a word from bit `lo` up. -/
abbrev bits {n : Nat} (w : BitVec n) (lo len : Nat) : BitVec len := w.extractLsb' lo len

/-- Bit `i` of a word. -/
abbrev bit {n : Nat} (w : BitVec n) (i : Nat) : Bool := w.getLsbD i

/-- The condition of a conditional word; 0b1111 is none (R281). -/
def Cond.ofBits (b : BitVec 4) : Option Cond :=
  match b with
  | 0 => some .eq | 1 => some .ne | 2 => some .cs | 3 => some .cc
  | 4 => some .mi | 5 => some .pl | 6 => some .vs | 7 => some .vc
  | 8 => some .hi | 9 => some .ls | 10 => some .ge | 11 => some .lt
  | 12 => some .gt | 13 => some .le | 14 => some .al | _ => none

/-- The shift type of bits [6:5] (R284). -/
def ShiftKind.ofBits (b : BitVec 2) : ShiftKind :=
  match b with
  | 0 => .lsl | 1 => .lsr | 2 => .asr | _ => .ror

/-- The shifter operand (R284): shapes (a), (b), (c). -/
def decodeShifter (w : Word) : ShifterOp :=
  match bit w 25, bit w 4 with
  | true, _ => .imm (bits w 8 4) (bits w 0 8)
  | false, false => .shiftImm (bits w 7 5) (ShiftKind.ofBits (bits w 5 2)) (bits w 0 4)
  | false, true => .shiftReg (bits w 8 4) (ShiftKind.ofBits (bits w 5 2)) (bits w 0 4)

/-- The offset of addressing mode 2 (R288). -/
def decodeOffset2 (w : Word) : Offset2 :=
  match bit w 25 with
  | false => .imm (bits w 0 12)
  | true => .scaled (bits w 7 5) (ShiftKind.ofBits (bits w 5 2)) (bits w 0 4)

/-- The offset of addressing mode 3 (R289). -/
def decodeOffset3 (w : Word) : Offset3 :=
  match bit w 22 with
  | true => .imm (bits w 8 4 ++ bits w 0 4)
  | false => .reg (bits w 8 4) (bits w 0 4)

/-- P and W (R288, R289). -/
def decodeIndexing (w : Word) : Indexing :=
  match bit w 24, bit w 21 with
  | true, false => .offset
  | true, true => .preIndexed
  | false, false => .postIndexed
  | false, true => .postW

/-- P and U (R290). -/
def decodeBlockMode (w : Word) : BlockMode :=
  match bit w 24, bit w 23 with
  | false, false => .da
  | false, true => .ia
  | true, false => .db
  | true, true => .ib

/-- 0 = bottom, 1 = top (R286). -/
def HalfSel.ofBit (b : Bool) : HalfSel :=
  match b with
  | false => .b
  | true => .t

/-- The unconditional space, cond = 0b1111 (R295, R297 (1)). -/
def decodeUncond (w : Word) : Instr :=
  match bits w 25 3 with
  | 5 => .blxImm (bit w 24) (bits w 0 24)
  | 2 => match bit w 24, bits w 20 3, bits w 12 4 with
    | true, 5, 15 => .pld (bit w 23) (bits w 16 4) (decodeOffset2 w) false
    | _, _, _ => .undefUncond (bits w 0 28)
  | 3 => match bit w 24, bits w 20 3, bits w 12 4 with
    | true, 5, 15 => .pld (bit w 23) (bits w 16 4) (decodeOffset2 w) (bit w 4)
    | _, _, _ => .undefUncond (bits w 0 28)
  | _ => .undefUncond (bits w 0 28)

/-- [27:25] = 000, [7] = 1, [4] = 1: multiplies, swaps, extra loads and stores (R287, R289, R297 (4), (5)). -/
def decodeMulSpace (c : Cond) (w : Word) : Instr :=
  match bit w 20, bits w 5 2 with
  | _, 0 => match bits w 21 4 with
    | 0 => .mul c (bit w 20) (bits w 16 4) (bits w 12 4) (bits w 8 4) (bits w 0 4)
    | 1 => .mla c (bit w 20) (bits w 16 4) (bits w 12 4) (bits w 8 4) (bits w 0 4)
    | 4 => .umull c (bit w 20) (bits w 16 4) (bits w 12 4) (bits w 8 4) (bits w 0 4)
    | 5 => .umlal c (bit w 20) (bits w 16 4) (bits w 12 4) (bits w 8 4) (bits w 0 4)
    | 6 => .smull c (bit w 20) (bits w 16 4) (bits w 12 4) (bits w 8 4) (bits w 0 4)
    | 7 => .smlal c (bit w 20) (bits w 16 4) (bits w 12 4) (bits w 8 4) (bits w 0 4)
    | 8 => match bit w 20, bits w 8 4 with
      | false, 0 => .swp c (bits w 16 4) (bits w 12 4) (bits w 0 4)
      | _, _ => .undefMulSpace c (bits w 0 28)
    | 10 => match bit w 20, bits w 8 4 with
      | false, 0 => .swpb c (bits w 16 4) (bits w 12 4) (bits w 0 4)
      | _, _ => .undefMulSpace c (bits w 0 28)
    | _ => .undefMulSpace c (bits w 0 28)
  | false, 1 => .strh c (decodeIndexing w) (bit w 23) (bits w 16 4) (bits w 12 4) (decodeOffset3 w)
  | false, 2 => .ldrd c (decodeIndexing w) (bit w 23) (bits w 16 4) (bits w 12 4) (decodeOffset3 w)
  | false, _ => .strd c (decodeIndexing w) (bit w 23) (bits w 16 4) (bits w 12 4) (decodeOffset3 w)
  | true, 1 => .ldrh c (decodeIndexing w) (bit w 23) (bits w 16 4) (bits w 12 4) (decodeOffset3 w)
  | true, 2 => .ldrsb c (decodeIndexing w) (bit w 23) (bits w 16 4) (bits w 12 4) (decodeOffset3 w)
  | true, _ => .ldrsh c (decodeIndexing w) (bit w 23) (bits w 16 4) (bits w 12 4) (decodeOffset3 w)

/-- [27:23] = 00010, [20] = 0, and not ([7] = [4] = 1): the miscellaneous space (R286, R297 (2), (3)). -/
def decodeMisc (c : Cond) (w : Word) : Instr :=
  match bits w 4 4, bits w 21 2 with
  | 0, 0 => decodeMrs
  | 0, 2 => decodeMrs
  | 0, _ => match bits w 8 8 with
    | 0xF0 => .msrReg c (bit w 22) (bits w 16 4) (bits w 0 4)
    | _ => .undefRest c (bits w 0 28)
  | 1, 1 => match bits w 8 12 with
    | 0xFFF => .bx c (bits w 0 4)
    | _ => .undefRest c (bits w 0 28)
  | 1, 3 => match bits w 16 4, bits w 8 4 with
    | 15, 15 => .clz c (bits w 12 4) (bits w 0 4)
    | _, _ => .undefRest c (bits w 0 28)
  | 3, 1 => match bits w 8 12 with
    | 0xFFF => .blxReg c (bits w 0 4)
    | _ => .undefRest c (bits w 0 28)
  | 5, op => match bits w 8 4, op with
    | 0, 0 => .qadd c (bits w 16 4) (bits w 12 4) (bits w 0 4)
    | 0, 1 => .qsub c (bits w 16 4) (bits w 12 4) (bits w 0 4)
    | 0, 2 => .qdadd c (bits w 16 4) (bits w 12 4) (bits w 0 4)
    | 0, _ => .qdsub c (bits w 16 4) (bits w 12 4) (bits w 0 4)
    | _, _ => .undefRest c (bits w 0 28)
  | 7, 1 => match c with
    | .al => .bkpt (bits w 8 12) (bits w 0 4)
    | c => .undefBkptCond c (bits w 8 12) (bits w 0 4)
  | n, op => match bit n 3, bit n 0, op with
    | true, false, 0 => .smlaxy c (bits w 16 4) (bits w 12 4) (bits w 8 4) (.ofBit (bit w 6)) (.ofBit (bit w 5)) (bits w 0 4)
    | true, false, 1 => match bit w 5 with
      | false => .smlawy c (bits w 16 4) (bits w 12 4) (bits w 8 4) (.ofBit (bit w 6)) (bits w 0 4)
      | true => .smulwy c (bits w 16 4) (bits w 12 4) (bits w 8 4) (.ofBit (bit w 6)) (bits w 0 4)
    | true, false, 2 => .smlalxy c (bits w 16 4) (bits w 12 4) (bits w 8 4) (.ofBit (bit w 6)) (.ofBit (bit w 5)) (bits w 0 4)
    | true, false, _ => .smulxy c (bits w 16 4) (bits w 12 4) (bits w 8 4) (.ofBit (bit w 6)) (.ofBit (bit w 5)) (bits w 0 4)
    | _, _, _ => .undefRest c (bits w 0 28)
where
  decodeMrs : Instr :=
    match bits w 16 4, bits w 0 4, bits w 8 4 with
    | 15, 0, 0 => .mrs c (bit w 22) (bits w 12 4)
    | _, _, _ => .undefRest c (bits w 0 28)

/-- The data-processing instructions (R284, R297 (14)); TST, TEQ, CMP and CMN exist only with S = 1. -/
def decodeDataProc (c : Cond) (w : Word) : Instr :=
  match bits w 21 4, bit w 20 with
  | 0, s => .and c s (bits w 16 4) (bits w 12 4) (decodeShifter w)
  | 1, s => .eor c s (bits w 16 4) (bits w 12 4) (decodeShifter w)
  | 2, s => .sub c s (bits w 16 4) (bits w 12 4) (decodeShifter w)
  | 3, s => .rsb c s (bits w 16 4) (bits w 12 4) (decodeShifter w)
  | 4, s => .add c s (bits w 16 4) (bits w 12 4) (decodeShifter w)
  | 5, s => .adc c s (bits w 16 4) (bits w 12 4) (decodeShifter w)
  | 6, s => .sbc c s (bits w 16 4) (bits w 12 4) (decodeShifter w)
  | 7, s => .rsc c s (bits w 16 4) (bits w 12 4) (decodeShifter w)
  | 8, true => .tst c (bits w 16 4) (bits w 12 4) (decodeShifter w)
  | 9, true => .teq c (bits w 16 4) (bits w 12 4) (decodeShifter w)
  | 10, true => .cmp c (bits w 16 4) (bits w 12 4) (decodeShifter w)
  | 11, true => .cmn c (bits w 16 4) (bits w 12 4) (decodeShifter w)
  | 12, s => .orr c s (bits w 16 4) (bits w 12 4) (decodeShifter w)
  | 13, s => .mov c s (bits w 16 4) (bits w 12 4) (decodeShifter w)
  | 14, s => .bic c s (bits w 16 4) (bits w 12 4) (decodeShifter w)
  | 15, s => .mvn c s (bits w 16 4) (bits w 12 4) (decodeShifter w)
  | _, _ => .undefRest c (bits w 0 28)

/-- [27:25] = 000 (R283). -/
def decode000 (c : Cond) (w : Word) : Instr :=
  match bit w 7, bit w 4 with
  | true, true => decodeMulSpace c w
  | _, _ => match bits w 23 2, bit w 20 with
    | 2, false => decodeMisc c w
    | _, _ => decodeDataProc c w

/-- [27:25] = 001: MSR immediate and the data-processing immediates (R283, R297 (13), (14)). -/
def decode001 (c : Cond) (w : Word) : Instr :=
  match bits w 23 2, bits w 20 2, bits w 12 4 with
  | 2, 2, 15 => .msrImm c (bit w 22) (bits w 16 4) (bits w 8 4) (bits w 0 8)
  | _, _, _ => decodeDataProc c w

/-- Loads and stores of a word or an unsigned byte (R288, R297 (12)). -/
def decodeLoadStore (c : Cond) (w : Word) : Instr :=
  match decodeIndexing w, bit w 20, bit w 22 with
  | .postW, true, false => .ldrt c (bit w 23) (bits w 16 4) (bits w 12 4) (decodeOffset2 w)
  | .postW, true, true => .ldrbt c (bit w 23) (bits w 16 4) (bits w 12 4) (decodeOffset2 w)
  | .postW, false, false => .strt c (bit w 23) (bits w 16 4) (bits w 12 4) (decodeOffset2 w)
  | .postW, false, true => .strbt c (bit w 23) (bits w 16 4) (bits w 12 4) (decodeOffset2 w)
  | ix, true, false => .ldr c ix (bit w 23) (bits w 16 4) (bits w 12 4) (decodeOffset2 w)
  | ix, true, true => .ldrb c ix (bit w 23) (bits w 16 4) (bits w 12 4) (decodeOffset2 w)
  | ix, false, false => .str c ix (bit w 23) (bits w 16 4) (bits w 12 4) (decodeOffset2 w)
  | ix, false, true => .strb c ix (bit w 23) (bits w 16 4) (bits w 12 4) (decodeOffset2 w)

/-- Load and store multiple (R290, R297 (11)). -/
def decodeBlock (c : Cond) (w : Word) : Instr :=
  match bit w 20, bit w 22, bit w 15 with
  | true, false, _ => .ldm c (decodeBlockMode w) (bit w 21) (bits w 16 4) (bits w 0 16)
  | true, true, false => .ldmUser c (decodeBlockMode w) (bit w 21) (bits w 16 4) (bits w 0 15)
  | true, true, true => .ldmRet c (decodeBlockMode w) (bit w 21) (bits w 16 4) (bits w 0 15)
  | false, false, _ => .stm c (decodeBlockMode w) (bit w 21) (bits w 16 4) (bits w 0 16)
  | false, true, _ => .stmUser c (decodeBlockMode w) (bit w 21) (bits w 16 4) (bits w 0 16)

/-- [27:25] = 110: LDC, STC and the two-register transfers (R292, R297 (7), (8)). -/
def decode110 (c : Cond) (w : Word) : Instr :=
  match bits w 21 4, bits w 8 4, bit w 20 with
  | 0, _, l => .undefLdcStc c l (bits w 0 20)
  | 2, 0, l => match bits w 0 8, l with
    | 0, false => .mar c (bits w 16 4) (bits w 12 4)
    | 0, true => .mra c (bits w 16 4) (bits w 12 4)
    | low, l => .cp0TransferOther c l (bits w 16 4) (bits w 12 4) low
  | 2, cp, false => .mcrr c (bits w 16 4) (bits w 12 4) cp (bits w 4 4) (bits w 0 4)
  | 2, cp, true => .mrrc c (bits w 16 4) (bits w 12 4) cp (bits w 4 4) (bits w 0 4)
  | _, cp, true => .ldc c (bit w 24) (bit w 23) (bit w 22) (bit w 21) (bits w 16 4) (bits w 12 4) cp (bits w 0 8)
  | _, cp, false => .stc c (bit w 24) (bit w 23) (bit w 22) (bit w 21) (bits w 16 4) (bits w 12 4) cp (bits w 0 8)

/-- Coprocessor 0 under [27:24] = 1110 (40_cp0_dsp.md R341, R297 (7)): [15:12] is Rs, [3:0] is Rm. -/
def decodeCp0 (c : Cond) (w : Word) : Instr :=
  match bits w 20 4, bits w 4 4, bits w 16 4 with
  | 2, 1, 0 => .mia c (bits w 12 4) (bits w 0 4)
  | 2, 1, 8 => .miaph c (bits w 12 4) (bits w 0 4)
  | 2, 1, 12 => .miabb c (bits w 12 4) (bits w 0 4)
  | 2, 1, 13 => .miabt c (bits w 12 4) (bits w 0 4)
  | 2, 1, 14 => .miatb c (bits w 12 4) (bits w 0 4)
  | 2, 1, 15 => .miatt c (bits w 12 4) (bits w 0 4)
  | _, _, _ => .cp0Other c (bits w 21 3) (bit w 20) (bits w 16 4) (bits w 12 4) (bits w 5 3) (bit w 4) (bits w 0 4)

/-- The CP15 functions written by MCR that have a row of their own (41_coprocessor_access.md R370 to R377), by
(CRn, CRm, opcode_2). -/
def decodeCp15Function (c : Cond) (rd : Reg) (crn crm : BitVec 4) (op2 : BitVec 3) : Option Instr :=
  match crn, crm, op2 with
  | 7, 7, 0 => some (.invIDCacheBtb c rd)
  | 7, 5, 0 => some (.invICacheBtb c rd)
  | 7, 5, 1 => some (.invICacheLine c rd)
  | 7, 6, 0 => some (.invDCache c rd)
  | 7, 6, 1 => some (.invDCacheLine c rd)
  | 7, 10, 1 => some (.cleanDCacheLine c rd)
  | 7, 10, 4 => some (.drainWriteBuffer c rd)
  | 7, 5, 6 => some (.invBtb c rd)
  | 7, 2, 5 => some (.allocDCacheLine c rd)
  | 8, 7, 0 => some (.invIDTlb c rd)
  | 8, 5, 0 => some (.invITlb c rd)
  | 8, 5, 1 => some (.invITlbEntry c rd)
  | 8, 6, 0 => some (.invDTlb c rd)
  | 8, 6, 1 => some (.invDTlbEntry c rd)
  | 9, 1, 0 => some (.lockICacheLine c rd)
  | 9, 1, 1 => some (.unlockICache c rd)
  | 9, 2, 0 => some (.writeDCacheLock c rd)
  | 9, 2, 1 => some (.unlockDCache c rd)
  | 10, 4, 0 => some (.lockITlbEntry c rd)
  | 10, 8, 0 => some (.lockDTlbEntry c rd)
  | 10, 4, 1 => some (.unlockITlb c rd)
  | 10, 8, 1 => some (.unlockDTlb c rd)
  | _, _, _ => none

/-- [27:24] = 1110, coprocessors 1 to 15: CDP, MCR, MRC and the CP15 functions (R297 (8), R312 (c)). -/
def decodeCoproc (c : Cond) (w : Word) : Instr :=
  match bit w 4, bit w 20 with
  | false, _ => .cdp c (bits w 20 4) (bits w 16 4) (bits w 12 4) (bits w 8 4) (bits w 5 3) (bits w 0 4)
  | true, false => match bits w 21 3, bits w 8 4 with
    | 0, 15 => match decodeCp15Function c (bits w 12 4) (bits w 16 4) (bits w 0 4) (bits w 5 3) with
      | some i => i
      | none => .mcr c 0 (bits w 16 4) (bits w 12 4) 15 (bits w 5 3) (bits w 0 4)
    | op1, cp => .mcr c op1 (bits w 16 4) (bits w 12 4) cp (bits w 5 3) (bits w 0 4)
  | true, true => match bits w 21 3, bits w 8 4, bits w 16 4, bits w 0 4, bits w 5 3 with
    | 0, 15, 9, 2, 0 => .readDCacheLock c (bits w 12 4)
    | op1, cp, crn, crm, op2 => .mrc c op1 crn (bits w 12 4) cp op2 crm

/-- A conditional ARM word (R283, R297 (2) to (15)). -/
def decodeCond (c : Cond) (w : Word) : Instr :=
  match bits w 25 3 with
  | 0 => decode000 c w
  | 1 => decode001 c w
  | 2 => decodeLoadStore c w
  | 3 => match bit w 4 with
    | false => decodeLoadStore c w
    | true => .undefArch c (bits w 0 28)
  | 4 => decodeBlock c w
  | 5 => match bit w 24 with
    | false => .b c (bits w 0 24)
    | true => .bl c (bits w 0 24)
  | 6 => decode110 c w
  | _ => match bit w 24, bits w 8 4 with
    | true, _ => .swi c (bits w 0 24)
    | false, 0 => decodeCp0 c w
    | false, _ => decodeCoproc c w

/-- The ARM instruction of a word (R280, R297). -/
def decodeArm (w : Word) : Instr :=
  match Cond.ofBits (bits w 28 4) with
  | none => decodeUncond w
  | some c => decodeCond c w

/-- Thumb formats 1 and 2 (R300): [15:13] = 000. -/
def decodeThumb0 (h : Half) : Instr :=
  match bits h 11 2, bits h 9 2 with
  | 0, _ => .tLslImm (bits h 6 5) (bits h 3 3) (bits h 0 3)
  | 1, _ => .tLsrImm (bits h 6 5) (bits h 3 3) (bits h 0 3)
  | 2, _ => .tAsrImm (bits h 6 5) (bits h 3 3) (bits h 0 3)
  | _, 0 => .tAddReg (bits h 6 3) (bits h 3 3) (bits h 0 3)
  | _, 1 => .tSubReg (bits h 6 3) (bits h 3 3) (bits h 0 3)
  | _, 2 => .tAddImm3 (bits h 6 3) (bits h 3 3) (bits h 0 3)
  | _, _ => .tSubImm3 (bits h 6 3) (bits h 3 3) (bits h 0 3)

/-- Thumb format 3 (R300): [15:13] = 001. -/
def decodeThumb1 (h : Half) : Instr :=
  match bits h 11 2 with
  | 0 => .tMovImm (bits h 8 3) (bits h 0 8)
  | 1 => .tCmpImm (bits h 8 3) (bits h 0 8)
  | 2 => .tAddImm8 (bits h 8 3) (bits h 0 8)
  | _ => .tSubImm8 (bits h 8 3) (bits h 0 8)

/-- Thumb format 4 (R300): [15:10] = 010000; the field [5:3] is Rs in the shifts and Rm in the rest. -/
def decodeThumbAlu (h : Half) : Instr :=
  match bits h 6 4 with
  | 0 => .tAnd (bits h 3 3) (bits h 0 3)
  | 1 => .tEor (bits h 3 3) (bits h 0 3)
  | 2 => .tLslReg (bits h 3 3) (bits h 0 3)
  | 3 => .tLsrReg (bits h 3 3) (bits h 0 3)
  | 4 => .tAsrReg (bits h 3 3) (bits h 0 3)
  | 5 => .tAdc (bits h 3 3) (bits h 0 3)
  | 6 => .tSbc (bits h 3 3) (bits h 0 3)
  | 7 => .tRor (bits h 3 3) (bits h 0 3)
  | 8 => .tTst (bits h 3 3) (bits h 0 3)
  | 9 => .tNeg (bits h 3 3) (bits h 0 3)
  | 10 => .tCmpReg (bits h 3 3) (bits h 0 3)
  | 11 => .tCmn (bits h 3 3) (bits h 0 3)
  | 12 => .tOrr (bits h 3 3) (bits h 0 3)
  | 13 => .tMul (bits h 3 3) (bits h 0 3)
  | 14 => .tBic (bits h 3 3) (bits h 0 3)
  | _ => .tMvn (bits h 3 3) (bits h 0 3)

/-- Thumb format 5 (R300): [15:10] = 010001; H1 is bit 7 and extends Rd, H2 is bit 6 and extends Rm. -/
def decodeThumbHigh (h : Half) : Instr :=
  match bits h 8 2 with
  | 0 => .tAddHigh (bit h 7) (bit h 6) (bits h 3 3) (bits h 0 3)
  | 1 => .tCmpHigh (bit h 7) (bit h 6) (bits h 3 3) (bits h 0 3)
  | 2 => .tMovHigh (bit h 7) (bit h 6) (bits h 3 3) (bits h 0 3)
  | _ => match bit h 7, bits h 0 3 with
    | false, 0 => .tBx (bit h 6) (bits h 3 3)
    | true, 0 => .tBlxReg (bit h 6) (bits h 3 3)
    | _, _ => .tUndefRest h

/-- Thumb formats 7 and 8 (R300): [15:12] = 0101. -/
def decodeThumbRegOffset (h : Half) : Instr :=
  match bits h 9 3 with
  | 0 => .tStrReg (bits h 6 3) (bits h 3 3) (bits h 0 3)
  | 1 => .tStrhReg (bits h 6 3) (bits h 3 3) (bits h 0 3)
  | 2 => .tStrbReg (bits h 6 3) (bits h 3 3) (bits h 0 3)
  | 3 => .tLdrsb (bits h 6 3) (bits h 3 3) (bits h 0 3)
  | 4 => .tLdrReg (bits h 6 3) (bits h 3 3) (bits h 0 3)
  | 5 => .tLdrhReg (bits h 6 3) (bits h 3 3) (bits h 0 3)
  | 6 => .tLdrbReg (bits h 6 3) (bits h 3 3) (bits h 0 3)
  | _ => .tLdrsh (bits h 6 3) (bits h 3 3) (bits h 0 3)

/-- Thumb [15:12] = 1011: formats 13 and 14, BKPT and the undefined rest (R300, R301). -/
def decodeThumbMisc (h : Half) : Instr :=
  match bits h 8 4, bit h 7 with
  | 0, false => .tIncSp (bits h 0 7)
  | 0, true => .tDecSp (bits h 0 7)
  | 4, _ => .tPush false (bits h 0 8)
  | 5, _ => .tPush true (bits h 0 8)
  | 12, _ => .tPop false (bits h 0 8)
  | 13, _ => .tPop true (bits h 0 8)
  | 14, _ => .tBkpt (bits h 0 8)
  | _, _ => .tUndefMisc (bits h 0 12)

/-- Thumb formats 16 and 17 (R300): [15:12] = 1101. -/
def decodeThumbCondBranch (h : Half) : Instr :=
  match Cond.ofBits (bits h 8 4) with
  | none => .tSwi (bits h 0 8)
  | some .al => .tUndefDE (bits h 0 8)
  | some c => .tBCond c (bits h 0 8)

/-- Thumb formats 18 and 19 (R300, R303): [15:13] = 111. -/
def decodeThumbBranch (h : Half) : Instr :=
  match bits h 11 2, bit h 0 with
  | 0, _ => .tB (bits h 0 11)
  | 1, true => .tUndefBlx (bits h 1 10)
  | 1, false => .tBlxSuffix (bits h 1 10)
  | 2, _ => .tBlHead (bits h 0 11)
  | _, _ => .tBlSuffix (bits h 0 11)

/-- The Thumb instruction of a halfword (R300, R301). -/
def decodeThumb (h : Half) : Instr :=
  match bits h 12 4, bits h 10 2, bit h 11 with
  | 0, _, _ => decodeThumb0 h
  | 1, _, _ => decodeThumb0 h
  | 2, _, _ => decodeThumb1 h
  | 3, _, _ => decodeThumb1 h
  | 4, 0, _ => decodeThumbAlu h
  | 4, 1, _ => decodeThumbHigh h
  | 4, _, _ => .tLdrPc (bits h 8 3) (bits h 0 8)
  | 5, _, _ => decodeThumbRegOffset h
  | 6, _, false => .tStrImm (bits h 6 5) (bits h 3 3) (bits h 0 3)
  | 6, _, true => .tLdrImm (bits h 6 5) (bits h 3 3) (bits h 0 3)
  | 7, _, false => .tStrbImm (bits h 6 5) (bits h 3 3) (bits h 0 3)
  | 7, _, true => .tLdrbImm (bits h 6 5) (bits h 3 3) (bits h 0 3)
  | 8, _, false => .tStrhImm (bits h 6 5) (bits h 3 3) (bits h 0 3)
  | 8, _, true => .tLdrhImm (bits h 6 5) (bits h 3 3) (bits h 0 3)
  | 9, _, false => .tStrSp (bits h 8 3) (bits h 0 8)
  | 9, _, true => .tLdrSp (bits h 8 3) (bits h 0 8)
  | 10, _, false => .tAddPc (bits h 8 3) (bits h 0 8)
  | 10, _, true => .tAddSp (bits h 8 3) (bits h 0 8)
  | 11, _, _ => decodeThumbMisc h
  | 12, _, false => .tStmia (bits h 8 3) (bits h 0 8)
  | 12, _, true => .tLdmia (bits h 8 3) (bits h 0 8)
  | 13, _, _ => decodeThumbCondBranch h
  | _, _, _ => decodeThumbBranch h

/-- The code of one instruction: a word in ARM state, a halfword in Thumb state (R280). -/
inductive Code where
  | arm (w : Word)
  | thumb (h : Half)
  deriving DecidableEq, Repr

/-- The instruction of a code. -/
def decode : Code → Instr
  | .arm w => decodeArm w
  | .thumb h => decodeThumb h

/-- Why bytes are no code. -/
inductive DecodeError where
  /-- Fewer bytes than an instruction of the state has (R280).  Safe: nothing runs. -/
  | tooFewBytes
  deriving DecidableEq, Repr

/-- The code that the first bytes hold, the least significant byte first (20_memory.md R155), and the bytes after it. -/
def decodeBytes (thumb : Bool) (bytes : List Byte) : Except DecodeError (Instr × List Byte) :=
  match thumb, bytes with
  | false, b0 :: b1 :: b2 :: b3 :: rest => .ok (decodeArm (b3 ++ b2 ++ b1 ++ b0), rest)
  | true, b0 :: b1 :: rest => .ok (decodeThumb (b1 ++ b0), rest)
  | _, _ => .error .tooFewBytes

/-- The first `n` bytes of a number, least significant first. -/
def bytesOfNat : Nat → Nat → List Byte
  | 0, _ => []
  | n + 1, w => BitVec.ofNat 8 w :: bytesOfNat n (w >>> 8)

/-- The instruction that the decoder reads from a row's bits: 32 bits are an ARM word, 16 bits a Thumb halfword. -/
def decodeTableWord (nbits w : Nat) : Option Instr :=
  match nbits with
  | 32 => (decodeBytes false (bytesOfNat 4 w)).toOption.map Prod.fst
  | 16 => (decodeBytes true (bytesOfNat 2 w)).toOption.map Prod.fst
  | _ => none

/-! The encoder, from the same tables of 30_encoding.md. -/

/-- Bits [6:5] of a shift (R284). -/
def ShiftKind.bits : ShiftKind → BitVec 2
  | .lsl => 0 | .lsr => 1 | .asr => 2 | .ror => 3

/-- The bit of a half selector (R286). -/
def HalfSel.bit : HalfSel → BitVec 1
  | .b => 0 | .t => 1

/-- One bit. -/
abbrev ofBool (b : Bool) : BitVec 1 := BitVec.ofBool b

/-- Bits 25 (I) of a shifter operand. -/
def ShifterOp.iBit : ShifterOp → BitVec 1
  | .imm _ _ => 1 | .shiftImm _ _ _ => 0 | .shiftReg _ _ _ => 0

/-- Bits [11:0] of a shifter operand (R284). -/
def ShifterOp.bits : ShifterOp → BitVec 12
  | .imm rotate immed => rotate ++ immed
  | .shiftImm amount kind rm => amount ++ kind.bits ++ 0#1 ++ rm
  | .shiftReg rs kind rm => rs ++ 0#1 ++ kind.bits ++ 1#1 ++ rm

/-- Bit 25 (I) of an offset of addressing mode 2 (R288). -/
def Offset2.iBit : Offset2 → BitVec 1
  | .imm _ => 0 | .scaled _ _ _ => 1

/-- Bits [11:0] of an offset of addressing mode 2 (R288); `b4` is bit 4 of the register form. -/
def Offset2.bits (b4 : BitVec 1) : Offset2 → BitVec 12
  | .imm offset => offset
  | .scaled amount kind rm => amount ++ kind.bits ++ b4 ++ rm

/-- Bit 22 (I) of an offset of addressing mode 3 (R289). -/
def Offset3.iBit : Offset3 → BitVec 1
  | .imm _ => 1 | .reg _ _ => 0

/-- Bits [11:8] of an offset of addressing mode 3 (R289). -/
def Offset3.hi : Offset3 → BitVec 4
  | .imm offset => offset.extractLsb' 4 4
  | .reg sbz _ => sbz

/-- Bits [3:0] of an offset of addressing mode 3 (R289). -/
def Offset3.lo : Offset3 → BitVec 4
  | .imm offset => offset.extractLsb' 0 4
  | .reg _ rm => rm

/-- Bit 24 (P) (R288). -/
def Indexing.pBit : Indexing → BitVec 1
  | .offset => 1 | .preIndexed => 1 | .postIndexed => 0 | .postW => 0

/-- Bit 21 (W) (R288). -/
def Indexing.wBit : Indexing → BitVec 1
  | .offset => 0 | .preIndexed => 1 | .postIndexed => 0 | .postW => 1

/-- Bits [24:23] (P, U) (R290). -/
def BlockMode.puBits : BlockMode → BitVec 2
  | .da => 0 | .ia => 1 | .db => 2 | .ib => 3

/-- A data-processing word (R284). -/
def encodeDp (c : Cond) (op : BitVec 4) (s : Bool) (rn rd : Reg) (op2 : ShifterOp) : Code :=
  .arm (c.bits ++ 0#2 ++ op2.iBit ++ op ++ ofBool s ++ rn ++ rd ++ op2.bits)

/-- A load or store of a word or an unsigned byte (R288). -/
def encodeLs (c : Cond) (ix : Indexing) (u : Bool) (b l : BitVec 1) (rn rd : Reg) (off : Offset2) : Code :=
  .arm (c.bits ++ 1#2 ++ off.iBit ++ ix.pBit ++ ofBool u ++ b ++ ix.wBit ++ l ++ rn ++ rd ++ off.bits 0#1)

/-- An extra load or store (R289); `sh` is [6:5]. -/
def encodeExtra (c : Cond) (ix : Indexing) (u : Bool) (l : BitVec 1) (sh : BitVec 2) (rn rd : Reg) (off : Offset3) :
    Code :=
  .arm (c.bits ++ 0#3 ++ ix.pBit ++ ofBool u ++ off.iBit ++ ix.wBit ++ l ++ rn ++ rd ++ off.hi ++ 1#1 ++ sh ++ 1#1 ++
    off.lo)

/-- A load or store multiple (R290). -/
def encodeBlock (c : Cond) (m : BlockMode) (s : BitVec 1) (w : Bool) (l : BitVec 1) (rn : Reg) (list : BitVec 16) :
    Code :=
  .arm (c.bits ++ 4#3 ++ m.puBits ++ s ++ ofBool w ++ l ++ rn ++ list)

/-- A multiply, long multiply or swap word (R287). -/
def encodeMul (c : Cond) (op : BitVec 7) (s : Bool) (f1 f2 rs rm : Reg) : Code :=
  .arm (c.bits ++ op ++ ofBool s ++ f1 ++ f2 ++ rs ++ 9#4 ++ rm)

/-- A half-register multiply (R286). -/
def encodeHalfMul (c : Cond) (op : BitVec 2) (f1 f2 rs : Reg) (y x : BitVec 1) (rm : Reg) : Code :=
  .arm (c.bits ++ 2#5 ++ op ++ 0#1 ++ f1 ++ f2 ++ rs ++ 1#1 ++ y ++ x ++ 0#1 ++ rm)

/-- A saturating add or subtract (R286). -/
def encodeSat (c : Cond) (op : BitVec 2) (rn rd rm : Reg) : Code :=
  .arm (c.bits ++ 2#5 ++ op ++ 0#1 ++ rn ++ rd ++ 0x05#8 ++ rm)

/-- A register transfer word of a coprocessor (R292, Table 7-1). -/
def encodeCp (c : Cond) (op1 : BitVec 3) (l : BitVec 1) (crn : BitVec 4) (rd : Reg) (cp : BitVec 4) (op2 : BitVec 3)
    (crm : BitVec 4) : Code :=
  .arm (c.bits ++ 14#4 ++ op1 ++ l ++ crn ++ rd ++ cp ++ op2 ++ 1#1 ++ crm)

/-- A multiply with internal accumulate (40_cp0_dsp.md R341). -/
def encodeMia (c : Cond) (op3 rs rm : Reg) : Code :=
  .arm (c.bits ++ 0xE2#8 ++ op3 ++ rs ++ 0x01#8 ++ rm)

/-- A two-register transfer of a coprocessor (R292, Table 2-5). -/
def encodeCp2 (c : Cond) (l : BitVec 1) (rn rd : Reg) (cp op crm : BitVec 4) : Code :=
  .arm (c.bits ++ 0b1100010#7 ++ l ++ rn ++ rd ++ cp ++ op ++ crm)

/-- A coprocessor load or store (R292, Table 7-2). -/
def encodeCpMem (c : Cond) (p u n w : Bool) (l : BitVec 1) (rn : Reg) (crd cp : BitVec 4) (off : Byte) : Code :=
  .arm (c.bits ++ 6#3 ++ ofBool p ++ ofBool u ++ ofBool n ++ ofBool w ++ l ++ rn ++ crd ++ cp ++ off)

/-- A Thumb halfword of a 5-bit pattern, a low register and an 8-bit field (R300 formats 3, 6, 11, 12, 15). -/
def encodeT8 (op : BitVec 5) (r : LowReg) (imm : Byte) : Code := .thumb (op ++ r ++ imm)

/-- A Thumb halfword of a 5-bit pattern, a 5-bit field and two low registers (R300 formats 1, 9, 10). -/
def encodeT5 (op : BitVec 5) (imm : BitVec 5) (r1 r0 : LowReg) : Code := .thumb (op ++ imm ++ r1 ++ r0)

/-- A Thumb halfword of a 7-bit pattern and three 3-bit fields (R300 formats 2, 7, 8). -/
def encodeT3 (op : BitVec 7) (f r1 r0 : LowReg) : Code := .thumb (op ++ f ++ r1 ++ r0)

/-- A Thumb halfword of format 4 (R300). -/
def encodeTAlu (op : BitVec 4) (r1 r0 : LowReg) : Code := .thumb (16#6 ++ op ++ r1 ++ r0)

/-- A Thumb halfword of format 5 (R300). -/
def encodeTHigh (op : BitVec 2) (h1 h2 : Bool) (rm rd : LowReg) : Code :=
  .thumb (17#6 ++ op ++ ofBool h1 ++ ofBool h2 ++ rm ++ rd)

/-- The code of an instruction, from the encoding tables of 30_encoding.md. -/
def encode : Instr → Code
  | .pld u rn off bit4 =>
    .arm (15#4 ++ 1#2 ++ off.iBit ++ 1#1 ++ ofBool u ++ 5#3 ++ rn ++ 15#4 ++ off.bits (ofBool bit4))
  | .blxImm h imm24 => .arm (15#4 ++ 5#3 ++ ofBool h ++ imm24)
  | .undefUncond low => .arm (15#4 ++ low)
  | .bkpt immHi immLo => .arm (0xE12#12 ++ immHi ++ 7#4 ++ immLo)
  | .undefBkptCond c immHi immLo => .arm (c.bits ++ 0x12#8 ++ immHi ++ 7#4 ++ immLo)
  | .mrs c r rd => .arm (c.bits ++ 2#5 ++ ofBool r ++ 0#2 ++ 15#4 ++ rd ++ 0#12)
  | .msrReg c r mask rm => .arm (c.bits ++ 2#5 ++ ofBool r ++ 2#2 ++ mask ++ 0xF00#12 ++ rm)
  | .bx c rm => .arm (c.bits ++ 0x12FFF1#24 ++ rm)
  | .blxReg c rm => .arm (c.bits ++ 0x12FFF3#24 ++ rm)
  | .clz c rd rm => .arm (c.bits ++ 0x16F#12 ++ rd ++ 0xF1#8 ++ rm)
  | .qadd c rn rd rm => encodeSat c 0 rn rd rm
  | .qsub c rn rd rm => encodeSat c 1 rn rd rm
  | .qdadd c rn rd rm => encodeSat c 2 rn rd rm
  | .qdsub c rn rd rm => encodeSat c 3 rn rd rm
  | .smlaxy c rd rn rs y x rm => encodeHalfMul c 0 rd rn rs y.bit x.bit rm
  | .smlawy c rd rn rs y rm => encodeHalfMul c 1 rd rn rs y.bit 0 rm
  | .smulwy c rd sbz rs y rm => encodeHalfMul c 1 rd sbz rs y.bit 1 rm
  | .smlalxy c rdHi rdLo rs y x rm => encodeHalfMul c 2 rdHi rdLo rs y.bit x.bit rm
  | .smulxy c rd sbz rs y x rm => encodeHalfMul c 3 rd sbz rs y.bit x.bit rm
  | .mul c s rd sbz rs rm => encodeMul c 0 s rd sbz rs rm
  | .mla c s rd rn rs rm => encodeMul c 1 s rd rn rs rm
  | .umull c s rdHi rdLo rs rm => encodeMul c 4 s rdHi rdLo rs rm
  | .umlal c s rdHi rdLo rs rm => encodeMul c 5 s rdHi rdLo rs rm
  | .smull c s rdHi rdLo rs rm => encodeMul c 6 s rdHi rdLo rs rm
  | .smlal c s rdHi rdLo rs rm => encodeMul c 7 s rdHi rdLo rs rm
  | .swp c rn rd rm => encodeMul c 8 false rn rd 0 rm
  | .swpb c rn rd rm => encodeMul c 10 false rn rd 0 rm
  | .strh c ix u rn rd off => encodeExtra c ix u 0 1 rn rd off
  | .ldrd c ix u rn rd off => encodeExtra c ix u 0 2 rn rd off
  | .strd c ix u rn rd off => encodeExtra c ix u 0 3 rn rd off
  | .ldrh c ix u rn rd off => encodeExtra c ix u 1 1 rn rd off
  | .ldrsb c ix u rn rd off => encodeExtra c ix u 1 2 rn rd off
  | .ldrsh c ix u rn rd off => encodeExtra c ix u 1 3 rn rd off
  | .undefMulSpace c low => .arm (c.bits ++ low)
  | .undefArch c low => .arm (c.bits ++ low)
  | .mia c rs rm => encodeMia c 0 rs rm
  | .miaph c rs rm => encodeMia c 8 rs rm
  | .miabb c rs rm => encodeMia c 12 rs rm
  | .miabt c rs rm => encodeMia c 13 rs rm
  | .miatb c rs rm => encodeMia c 14 rs rm
  | .miatt c rs rm => encodeMia c 15 rs rm
  | .mar c rdHi rdLo => encodeCp2 c 0 rdHi rdLo 0 0 0
  | .mra c rdHi rdLo => encodeCp2 c 1 rdHi rdLo 0 0 0
  | .cp0TransferOther c l rn rd low => .arm (c.bits ++ 0b1100010#7 ++ ofBool l ++ rn ++ rd ++ 0#4 ++ low)
  | .cp0Other c op1 bit20 crn rd op2 bit4 crm =>
    .arm (c.bits ++ 14#4 ++ op1 ++ ofBool bit20 ++ crn ++ rd ++ 0#4 ++ op2 ++ ofBool bit4 ++ crm)
  | .mcrr c rn rd cp op crm => encodeCp2 c 0 rn rd cp op crm
  | .mrrc c rn rd cp op crm => encodeCp2 c 1 rn rd cp op crm
  | .undefLdcStc c l low => .arm (c.bits ++ 0b1100000#7 ++ ofBool l ++ low)
  | .ldc c p u n w rn crd cp off => encodeCpMem c p u n w 1 rn crd cp off
  | .stc c p u n w rn crd cp off => encodeCpMem c p u n w 0 rn crd cp off
  | .cdp c op1 crn crd cp op2 crm => .arm (c.bits ++ 14#4 ++ op1 ++ crn ++ crd ++ cp ++ op2 ++ 0#1 ++ crm)
  | .invIDCacheBtb c rd => encodeCp c 0 0 7 rd 15 0 7
  | .invICacheBtb c rd => encodeCp c 0 0 7 rd 15 0 5
  | .invICacheLine c rd => encodeCp c 0 0 7 rd 15 1 5
  | .invDCache c rd => encodeCp c 0 0 7 rd 15 0 6
  | .invDCacheLine c rd => encodeCp c 0 0 7 rd 15 1 6
  | .cleanDCacheLine c rd => encodeCp c 0 0 7 rd 15 1 10
  | .drainWriteBuffer c rd => encodeCp c 0 0 7 rd 15 4 10
  | .invBtb c rd => encodeCp c 0 0 7 rd 15 6 5
  | .allocDCacheLine c rd => encodeCp c 0 0 7 rd 15 5 2
  | .invIDTlb c rd => encodeCp c 0 0 8 rd 15 0 7
  | .invITlb c rd => encodeCp c 0 0 8 rd 15 0 5
  | .invITlbEntry c rd => encodeCp c 0 0 8 rd 15 1 5
  | .invDTlb c rd => encodeCp c 0 0 8 rd 15 0 6
  | .invDTlbEntry c rd => encodeCp c 0 0 8 rd 15 1 6
  | .lockICacheLine c rd => encodeCp c 0 0 9 rd 15 0 1
  | .unlockICache c rd => encodeCp c 0 0 9 rd 15 1 1
  | .readDCacheLock c rd => encodeCp c 0 1 9 rd 15 0 2
  | .writeDCacheLock c rd => encodeCp c 0 0 9 rd 15 0 2
  | .unlockDCache c rd => encodeCp c 0 0 9 rd 15 1 2
  | .lockITlbEntry c rd => encodeCp c 0 0 10 rd 15 0 4
  | .lockDTlbEntry c rd => encodeCp c 0 0 10 rd 15 0 8
  | .unlockITlb c rd => encodeCp c 0 0 10 rd 15 1 4
  | .unlockDTlb c rd => encodeCp c 0 0 10 rd 15 1 8
  | .mcr c op1 crn rd cp op2 crm => encodeCp c op1 0 crn rd cp op2 crm
  | .mrc c op1 crn rd cp op2 crm => encodeCp c op1 1 crn rd cp op2 crm
  | .swi c imm24 => .arm (c.bits ++ 15#4 ++ imm24)
  | .b c imm24 => .arm (c.bits ++ 10#4 ++ imm24)
  | .bl c imm24 => .arm (c.bits ++ 11#4 ++ imm24)
  | .ldm c m w rn list => encodeBlock c m 0 w 1 rn list
  | .ldmUser c m w rn list => encodeBlock c m 1 w 1 rn (0#1 ++ list)
  | .ldmRet c m w rn list => encodeBlock c m 1 w 1 rn (1#1 ++ list)
  | .stm c m w rn list => encodeBlock c m 0 w 0 rn list
  | .stmUser c m w rn list => encodeBlock c m 1 w 0 rn list
  | .ldrt c u rn rd off => encodeLs c .postW u 0 1 rn rd off
  | .ldrbt c u rn rd off => encodeLs c .postW u 1 1 rn rd off
  | .strt c u rn rd off => encodeLs c .postW u 0 0 rn rd off
  | .strbt c u rn rd off => encodeLs c .postW u 1 0 rn rd off
  | .ldr c ix u rn rd off => encodeLs c ix u 0 1 rn rd off
  | .ldrb c ix u rn rd off => encodeLs c ix u 1 1 rn rd off
  | .str c ix u rn rd off => encodeLs c ix u 0 0 rn rd off
  | .strb c ix u rn rd off => encodeLs c ix u 1 0 rn rd off
  | .msrImm c r mask rotate immed => .arm (c.bits ++ 6#5 ++ ofBool r ++ 2#2 ++ mask ++ 15#4 ++ rotate ++ immed)
  | .and c s rn rd op2 => encodeDp c 0 s rn rd op2
  | .eor c s rn rd op2 => encodeDp c 1 s rn rd op2
  | .sub c s rn rd op2 => encodeDp c 2 s rn rd op2
  | .rsb c s rn rd op2 => encodeDp c 3 s rn rd op2
  | .add c s rn rd op2 => encodeDp c 4 s rn rd op2
  | .adc c s rn rd op2 => encodeDp c 5 s rn rd op2
  | .sbc c s rn rd op2 => encodeDp c 6 s rn rd op2
  | .rsc c s rn rd op2 => encodeDp c 7 s rn rd op2
  | .tst c rn rd op2 => encodeDp c 8 true rn rd op2
  | .teq c rn rd op2 => encodeDp c 9 true rn rd op2
  | .cmp c rn rd op2 => encodeDp c 10 true rn rd op2
  | .cmn c rn rd op2 => encodeDp c 11 true rn rd op2
  | .orr c s rn rd op2 => encodeDp c 12 s rn rd op2
  | .mov c s sbz rd op2 => encodeDp c 13 s sbz rd op2
  | .bic c s rn rd op2 => encodeDp c 14 s rn rd op2
  | .mvn c s sbz rd op2 => encodeDp c 15 s sbz rd op2
  | .undefRest c low => .arm (c.bits ++ low)
  | .tBx h2 rm => encodeTHigh 3 false h2 rm 0
  | .tBlxReg h2 rm => encodeTHigh 3 true h2 rm 0
  | .tLslImm imm rm rd => encodeT5 0 imm rm rd
  | .tLsrImm imm rm rd => encodeT5 1 imm rm rd
  | .tAsrImm imm rm rd => encodeT5 2 imm rm rd
  | .tAddReg rm rn rd => encodeT3 0x0C rm rn rd
  | .tSubReg rm rn rd => encodeT3 0x0D rm rn rd
  | .tAddImm3 imm rn rd => encodeT3 0x0E imm rn rd
  | .tSubImm3 imm rn rd => encodeT3 0x0F imm rn rd
  | .tMovImm rd imm => encodeT8 4 rd imm
  | .tCmpImm rn imm => encodeT8 5 rn imm
  | .tAddImm8 rd imm => encodeT8 6 rd imm
  | .tSubImm8 rd imm => encodeT8 7 rd imm
  | .tAnd r1 r0 => encodeTAlu 0 r1 r0
  | .tEor r1 r0 => encodeTAlu 1 r1 r0
  | .tLslReg r1 r0 => encodeTAlu 2 r1 r0
  | .tLsrReg r1 r0 => encodeTAlu 3 r1 r0
  | .tAsrReg r1 r0 => encodeTAlu 4 r1 r0
  | .tAdc r1 r0 => encodeTAlu 5 r1 r0
  | .tSbc r1 r0 => encodeTAlu 6 r1 r0
  | .tRor r1 r0 => encodeTAlu 7 r1 r0
  | .tTst r1 r0 => encodeTAlu 8 r1 r0
  | .tNeg r1 r0 => encodeTAlu 9 r1 r0
  | .tCmpReg r1 r0 => encodeTAlu 10 r1 r0
  | .tCmn r1 r0 => encodeTAlu 11 r1 r0
  | .tOrr r1 r0 => encodeTAlu 12 r1 r0
  | .tMul r1 r0 => encodeTAlu 13 r1 r0
  | .tBic r1 r0 => encodeTAlu 14 r1 r0
  | .tMvn r1 r0 => encodeTAlu 15 r1 r0
  | .tAddHigh h1 h2 rm rd => encodeTHigh 0 h1 h2 rm rd
  | .tCmpHigh h1 h2 rm rn => encodeTHigh 1 h1 h2 rm rn
  | .tMovHigh h1 h2 rm rd => encodeTHigh 2 h1 h2 rm rd
  | .tLdrPc rd imm => encodeT8 9 rd imm
  | .tStrReg rm rn rd => encodeT3 0x28 rm rn rd
  | .tStrhReg rm rn rd => encodeT3 0x29 rm rn rd
  | .tStrbReg rm rn rd => encodeT3 0x2a rm rn rd
  | .tLdrsb rm rn rd => encodeT3 0x2b rm rn rd
  | .tLdrReg rm rn rd => encodeT3 0x2c rm rn rd
  | .tLdrhReg rm rn rd => encodeT3 0x2d rm rn rd
  | .tLdrbReg rm rn rd => encodeT3 0x2e rm rn rd
  | .tLdrsh rm rn rd => encodeT3 0x2f rm rn rd
  | .tStrImm imm rn rd => encodeT5 12 imm rn rd
  | .tLdrImm imm rn rd => encodeT5 13 imm rn rd
  | .tStrbImm imm rn rd => encodeT5 14 imm rn rd
  | .tLdrbImm imm rn rd => encodeT5 15 imm rn rd
  | .tStrhImm imm rn rd => encodeT5 16 imm rn rd
  | .tLdrhImm imm rn rd => encodeT5 17 imm rn rd
  | .tStrSp rd imm => encodeT8 18 rd imm
  | .tLdrSp rd imm => encodeT8 19 rd imm
  | .tAddPc rd imm => encodeT8 20 rd imm
  | .tAddSp rd imm => encodeT8 21 rd imm
  | .tIncSp imm => .thumb (0b101100000#9 ++ imm)
  | .tDecSp imm => .thumb (0b101100001#9 ++ imm)
  | .tPush r list => .thumb (0b1011010#7 ++ ofBool r ++ list)
  | .tPop r list => .thumb (0b1011110#7 ++ ofBool r ++ list)
  | .tBkpt imm => .thumb (0xBE#8 ++ imm)
  | .tUndefMisc low => .thumb (11#4 ++ low)
  | .tStmia rn list => encodeT8 24 rn list
  | .tLdmia rn list => encodeT8 25 rn list
  | .tUndefDE imm => .thumb (0xDE#8 ++ imm)
  | .tSwi imm => .thumb (0xDF#8 ++ imm)
  | .tBCond c imm => .thumb (13#4 ++ c.bits ++ imm)
  | .tB imm => .thumb (28#5 ++ imm)
  | .tUndefBlx imm => .thumb (29#5 ++ imm ++ 1#1)
  | .tBlxSuffix imm => .thumb (29#5 ++ imm ++ 0#1)
  | .tBlHead imm => .thumb (30#5 ++ imm)
  | .tBlSuffix imm => .thumb (31#5 ++ imm)
  | .tUndefRest low => .thumb low

end Sys2Proof
end

