-- ==== Sys2Proof/Machine/ICache.lean ====
section
/-! DEFINITION. The instruction side: the instruction cache, the mini instruction cache, the fetch buffers, the fetch of
an instruction, locking and invalidation (20_memory.md R151, R185-R194, R256; 61_debug_and_jtag.md R861). -/

namespace Sys2Proof.Machine

/-- Control.I: the instruction cache is enabled. -/
def State.icacheOn (s : State) : Bool := bitAt s.cp15.control 12

/-- The valid line of an MVA line among the lines of a cache: its key and its contents. -/
def findIline (ways : Nat) (l : BitVec 27) (lines : List (Nat × ILine)) : Option (Nat × ILine) :=
  lines.find? (fun e => e.2.valid && e.1 / ways == (lineSet l).toNat && e.2.tag == lineTag l)

/-- A fetch buffer that holds the word at an address (R188). -/
def FetchBuffer.get (b : FetchBuffer) (a : Word) : Option LineData :=
  if b.line = lineOf a ∧ bitAt b.valid (field a 2 3).toNat then some b.data else none

/-- A line that a fetch hits: its data, its parity marks, and whether it came through LDIC. -/
structure InstrHit where
  data : LineData
  badParity : BitVec 8
  downloaded : Bool
  deriving DecidableEq, Repr

/-- A hit on a line of a cache. -/
def ILine.hit (d : ILine) : InstrHit := { data := d.data, badParity := d.badParity, downloaded := d.downloaded }

/-- A hit on a fetch buffer. -/
def bufferHit (d : LineData) : InstrHit := { data := d, badParity := 0, downloaded := false }

/-- What a fetch at an address hits: mini instruction cache, instruction cache, fetch buffers, in this order (R151,
R186). -/
def State.instrHit (s : State) (a : Word) : Option InstrHit :=
  match findIline 2 (lineOf a) s.miniICache.lines with
  | some e => some e.2.hit
  | none =>
    match findIline 32 (lineOf a) s.icache.lines with
    | some e => some e.2.hit
    | none =>
      match s.fetchBufs.first.get a with
      | some d => some (bufferHit d)
      | none => (s.fetchBufs.second.get a).map bufferHit

/-- The word of a line at an address. -/
def lineWord (data : LineData) (a : Word) : Word :=
  gather .word (fun i => data[((field a 2 3 ++ 0#2 : BitVec 5) + BitVec.ofNat 5 i).toFin])

/-- Writes a fetched line into the instruction cache at the round-robin pointer of its set (R188, R189). -/
def State.fillIcache (s : State) (lock downloaded : Bool) (l : BitVec 27) (data : LineData) : State :=
  let set := lineSet l
  let p := placeLine lock s.icache.rr[set.toFin] s.icache.lk[set.toFin]
  { s with icache :=
    { lines := sparsePut s.icache.lines (32 * set.toNat + p.way)
        { tag := lineTag l, valid := true, locked := p.locked, data := data, badParity := 0, downloaded := downloaded,
          byLock := lock }
      rr := s.icache.rr.set set.toFin p.rr
      lk := s.icache.lk.set set.toFin p.lk } }

/-- A fetch buffer is allocated, the two in turn (R188; log entry 66). -/
def State.allocFetchBuffer (s : State) (b : FetchBuffer) : State :=
  { s with fetchBufs :=
    { first := if s.fetchBufs.next = 0 then b else s.fetchBufs.first
      second := if s.fetchBufs.next = 0 then s.fetchBufs.second else b
      next := s.fetchBufs.next + 1 } }

/-- The words of a line that return from the bus without an error, among its first `n`. -/
def State.goodWords (s : State) (line : Word) : Nat → BitVec 8
  | 0 => 0
  | n + 1 =>
    if s.anyError .fetch (line + BitVec.ofNat 32 (4 * n)) 4 then s.goodWords line n
    else s.goodWords line n ||| (1#8 <<< n)

/-- What a fetch gives. -/
inductive Fetch where
  | ok (word : Word) (s : State)
  | abort (c : PrefetchCause) (s : State)
  | stop (r : Refusal)

/-- A miss: a fetch buffer is allocated and a 32-byte line is fetched into it; the whole line moves to the cache where the
cache is enabled and the fetch cacheable, which empties the buffer (R188).  A fetch sees neither the data caches nor the
write buffer (R256). -/
def State.fetchMiss (s : State) (mva pa : Word) (cacheable : Bool) : Fetch :=
  let line : Word := lineOf pa ++ 0#5
  let s := s.count .icacheMiss
  let r := s.busRead .fetch s.memByte line 32
  let data : LineData := Vector.ofFn (fun i : Fin 32 => r.byte i.val)
  let good := s.goodWords line 8
  let s' :=
    if good == 0xFF && s.icacheOn && cacheable then
      (r.after.fillIcache false false (lineOf mva) data).allocFetchBuffer .empty
    else r.after.allocFetchBuffer { line := lineOf mva, valid := good, data := data }
  if bitAt good (field mva 2 3).toNat then .ok (lineWord data mva) s' else .abort .external s'

/-! Fetches of changed code (93 U11, 70_reset_and_hazards.md R924; log entry 44). -/

/-- The words at a physical address that a fetch may see: of memory, and of memory before it was changed. -/
def State.memoryWords (s : State) (pa : Word) : List Word :=
  let a := pa &&& 0xFFFFFFFC
  if s.allMemory a 4 then s.memWord a :: s.oldWords a else []

/-- The words of the dirty lines of a data cache that hold a physical address. -/
def dirtyWords (pa : Word) (lines : List (Nat × DLine)) : List Word :=
  (lines.filter (fun e => e.2.valid && e.2.paLine == lineOf pa && (if bitAt pa 4 then e.2.dirtyHigh else e.2.dirtyLow))).map
    (fun e => lineWord e.2.data pa)

/-- What stores have made of the word at a physical address and has not yet reached memory: it is pended or in the write buffer,
or in a dirty line of a data cache. -/
def State.unwrittenWords (s : State) (pa : Word) : List Word :=
  lineWord (overlay (fun p => lineOf p.pa == lineOf pa) (s.readLine (lineOf pa)) s.pendBuf) pa ::
    (dirtyWords pa s.dcache.lines ++ dirtyWords pa s.miniDCache.lines)

/-- The words at an MVA that a fetch may see where it is translated to `pa`: those of memory, those that stores have made and
that are still on their way to memory, and those of translations before the present one.  A clean line of a data cache is none
of them (R256). -/
def State.mappedWords (s : State) (mva pa : Word) : List Word :=
  let a := pa &&& 0xFFFFFFFC
  let new := if s.allMemory a 4 then s.unwrittenWords a else []
  let old := s.stale.maps.flatMap (fun m =>
    match m with
    | none => s.memoryWords mva
    | some e => if e.covers mva then s.memoryWords (e.pa mva) else [])
  s.memoryWords pa ++ new ++ old

/-- The MVAs of the PC under the process identifiers before the present one (10_state.md R94). -/
def State.oldMvas (s : State) : List Word :=
  if s.sds || field s.core.pc 25 7 != 0 then []
  else s.stale.pids.map (fun p => (field p 25 7 ++ field s.core.pc 0 25 : BitVec 32))

/-- The words that a fetch under a process identifier before the present one saw. -/
def State.oldPidWords (s : State) (mva : Word) : List Word :=
  match s.instrHit mva with
  | some h => [lineWord h.data mva]
  | none =>
    if s.mmuOn then
      match s.translate .instr mva with
      | .ok e _ => s.mappedWords mva (e.pa mva)
      | .fault _ _ => []
      | .stop _ => []
    else s.mappedWords mva mva

/-- What the fetch buffers hold at an address. -/
def State.bufferWords (s : State) (mva : Word) : List Word :=
  ((s.fetchBufs.first.get mva).toList ++ (s.fetchBufs.second.get mva).toList).map (fun d => lineWord d mva)

/-- What a fetch may give beside the word it reads: the old and the new contents of its address.  A line that was
downloaded is what its download made it. -/
def State.otherWords (s : State) (mva pa : Word) : List Word :=
  let downloaded := match s.instrHit mva with
    | some h => h.downloaded
    | none => false
  s.bufferWords mva ++ (if downloaded then [] else s.mappedWords mva pa) ++ s.oldMvas.flatMap s.oldPidWords

/-- Of the words that a fetch may give, a free choice; where there is one only, that one. -/
def State.chooseWord (s : State) (w : Word) (others : List Word) : Word × State :=
  if others.all (fun x => x == w) then (w, s)
  else ((w :: others)[(s.free 0).toNat % (others.length + 1)]?.getD w, s.consume 1)

/-- A fetched word, or another that the fetch may see. -/
def State.fetched (s : State) (w : Word) (others : List Word) : Fetch :=
  let r := s.chooseWord w others
  .ok r.1 r.2

/-- Steps 4 and 5 of R151. -/
def State.fetchAt (s : State) (mva pa : Word) (cacheable : Bool) : Fetch :=
  match s.instrHit mva with
  | some h =>
    if bitAt h.badParity (field mva 2 3).toNat then .abort .parity s
    else s.fetched (lineWord h.data mva) (s.otherWords mva pa)
  | none =>
    match s.fetchMiss mva pa cacheable with
    | .ok w s' => s'.fetched w (s.otherWords mva pa)
    | .abort c s' => .abort c s'
    | .stop r => .stop r

/-- The MVA of a fetch at an address: the PID is disabled in Special Debug State (61_debug_and_jtag.md R770). -/
def State.mvaToFetch (s : State) (va : Word) : Word := if s.sds then va else s.mva va

/-- The MVA of the fetch at the PC. -/
def State.fetchMva (s : State) : Word := s.mvaToFetch s.core.pc

/-- A walk that ends in an external abort is reported as one (92 D24). -/
def AbortCause.ofFetch : AbortCause → PrefetchCause
  | .walkFirst => .external
  | .walkSecond _ => .external
  | .alignment => .mmu | .translationSection => .mmu | .translationPage _ => .mmu | .domainSection _ => .mmu
  | .domainPage _ => .mmu | .permissionSection _ => .mmu | .permissionPage _ => .mmu | .lockAbort => .mmu

/-- The word that holds the instruction at the PC (R151): in Special Debug State and with the MMU off there is no
translation and the fetch is cacheable (R174). -/
def State.fetchWord (s : State) : Fetch :=
  let mva := s.fetchMva
  if s.mmuOn && !s.sds then
    match s.translateChecked .instr mva s.privileged false with
    | .stop r => .stop r
    | .fault c s' => .abort c.ofFetch s'
    | .ok e s' => s'.fetchAt mva (e.pa mva) e.c
  else s.fetchAt mva mva true

/-! Fetching ahead (R188; log entry 81). -/

/-- An address is among the 128 bytes from another up: the distance that R193 keeps from the running code. -/
def closeAfter (base va : Word) : Bool := decide ((va - base).toNat < 128)

/-- Where the core may fetch ahead: after the PC, or after the target of a branch that the BTB predicts taken. -/
def State.mayFetchAhead (s : State) (va : Word) : Bool :=
  closeAfter s.core.pc va || (s.btbOn && s.btb.any (fun e => e.2.history.taken && closeAfter e.2.target va))

/-- The lookup and the miss of a fetch ahead: its line enters a fetch buffer or the cache, and an error raises nothing. -/
def State.bringLine (s : State) (mva pa : Word) (cacheable : Bool) : State :=
  if (s.instrHit mva).isSome then s
  else
    match s.fetchMiss mva pa cacheable with
    | .ok _ s' => s'
    | .abort _ s' => s'
    | .stop _ => s

/-- A fetch ahead of execution (R188): translated as the fetch at the PC is, it may fill the instruction TLB, a fetch buffer
and the instruction cache; a fault raises nothing (60_exceptions.md R674). -/
def State.fetchAhead (s : State) (va : Word) : State :=
  let mva := s.mvaToFetch va
  if !s.mayFetchAhead va then s
  else if s.mmuOn && !s.sds then
    match s.translateChecked .instr mva s.privileged false with
    | .stop _ => s
    | .fault _ s' => s'
    | .ok e s' => s'.bringLine mva (e.pa mva) e.c
  else s.bringLine mva mva true

/-- The halfword of a word at an address under Control.B (20_memory.md R155). -/
def halfAt (big : Bool) (a w : Word) : Half := if bitAt a 1 == big then field w 0 16 else field w 16 16

/-- The instruction in a fetched word: an ARM instruction is not affected by Control.B (R155). -/
def State.codeOf (s : State) (w : Word) : Code := if s.thumb then .thumb (halfAt s.bigEndian s.core.pc w) else .arm w

/-! Maintenance (R191, R194). -/

/-- Invalidate instruction cache and BTB (R191): unlocked lines, the fetch buffers and the BTB; not the mini instruction
cache.  With it the sequence that makes new code visible is done (R257). -/
def State.invalidateIcache (s : State) : State :=
  { s with
    icache := { s.icache with lines := s.icache.lines.filter (fun e => e.2.locked) }
    fetchBufs := { s.fetchBufs with first := .empty, second := .empty }
    btb := []
    stale := .none }

/-- Marks a line invalid.  That a locked line of an instruction cache stays locked, an unusable way, is log entry 76. -/
def invalidateIlines (hit : Nat → ILine → Bool) : List (Nat × ILine) → List (Nat × ILine)
  | [] => []
  | (k, d) :: t =>
    if hit k d then
      (if d.locked then (k, { d with valid := false }) :: invalidateIlines hit t else invalidateIlines hit t)
    else (k, d) :: invalidateIlines hit t

/-- Invalidate instruction cache line (R191): in the instruction cache and the mini instruction cache; neither the BTB nor
the fetch buffers (92 D21). -/
def State.invalidateIcacheLine (s : State) (l : BitVec 27) : State :=
  let hit (ways k : Nat) (d : ILine) : Bool := d.valid && k / ways == (lineSet l).toNat && d.tag == lineTag l
  { s with
    icache := { s.icache with lines := invalidateIlines (hit 32) s.icache.lines }
    miniICache := { s.miniICache with lines := invalidateIlines (hit 2) s.miniICache.lines } }

/-- A line without its lock. -/
def unlockIline (e : Nat × ILine) : Nat × ILine := (e.1, { e.2 with locked := false, byLock := false })

/-- Unlock instruction cache (R194). -/
def State.unlockIcache (s : State) : State :=
  { s with icache :=
    { lines := ((s.icache.lines.map unlockIline).filter (fun e => e.2.valid))
      rr := s.icache.rr
      lk := Vector.replicate 32 0 } }

/-- A word of a line fails parity. -/
def markIline (key : Nat) (word : BitVec 3) (l : List (Nat × ILine)) : List (Nat × ILine) :=
  match sparseGet l key with
  | none => l
  | some d => sparsePut l key { d with badParity := d.badParity ||| (1#8 <<< word.toNat) }

/-- A word of a line of the instruction cache or the mini instruction cache fails parity (92 D20, 61_debug_and_jtag.md
R861). -/
def State.markInstrParity (s : State) (mini : Bool) (set way : BitVec 5) (word : BitVec 3) : State :=
  if mini then
    { s with miniICache := { s.miniICache with
      lines := markIline (2 * set.toNat + way.toNat % 2) word s.miniICache.lines } }
  else { s with icache := { s.icache with lines := markIline (32 * set.toNat + way.toNat) word s.icache.lines } }

/-! Locking (R193). -/

/-- The lock abort of a lock operation (60_exceptions.md R685). -/
def lockAbortInfo (mva : Word) : AbortInfo := { cause := .lockAbort, mva := mva }

/-- Translation for a lock operation, checked as the read that a fetch is (R151): any fault is a lock abort. -/
def State.translateToLock (s : State) (side : Side) (mva : Word) : Access TlbEntry :=
  match s.translateChecked side mva s.privileged false with
  | .stop r => .stop r
  | .fault _ s' => .abort (lockAbortInfo mva) s'
  | .ok e s' => .ok e s'

/-- The page of an address of the running routine is cacheable. -/
def State.pageCacheable (s : State) (mva : Word) : Bool :=
  match s.translate .instr mva with
  | .ok e _ => e.c
  | .fault _ _ => false
  | .stop _ => false

/-- The routine that locks lines is where R193 requires it: in non-cacheable memory, not closer than 128 bytes to cacheable
memory, in neither instruction cache, and outside Special Debug State, whose fetches are cacheable. -/
def State.routinePlaced (s : State) : Bool :=
  let pc := s.mva s.core.pc
  s.mmuOn && !s.sds && !s.pageCacheable pc && !s.pageCacheable (pc - 128) && !s.pageCacheable (pc + 128) &&
    (findIline 32 (lineOf pc) s.icache.lines).isNone && (findIline 2 (lineOf pc) s.miniICache.lines).isNone

/-- IRQ and FIQ are masked: "Exceptions must be disabled during cache locking" (R193). -/
def State.masked (s : State) : Bool := bitAt s.core.cpsr 7 && bitAt s.core.cpsr 6

/-- The instruction cache was invalidated before lines are locked (R193): it holds no line but those that lock operations
fetched, locked or, in a set with 28 locked lines, not. -/
def State.icacheReady (s : State) : Bool := s.icache.lines.all (fun e => e.2.byLock || !e.2.valid)

/-- Fetch and lock an instruction cache line (R193); outside its requirements it is refused (93 U6, 10_state.md R74). -/
def State.lockIcacheLine (s : State) (mva : Word) : Access Unit :=
  if !s.icacheOn then .stop .lockOnDisabledUnit
  else if !s.routinePlaced || !s.masked || !s.icacheReady || (findIline 32 (lineOf mva) s.icache.lines).isSome then
    .stop .lockPrecondition
  else
    match s.translateToLock .instr mva with
    | .stop r => .stop r
    | .abort i s' => .abort i s'
    | .ok e s' =>
      let r := s'.busRead .fetch s'.memByte (lineOf (e.pa mva) ++ 0#5) 32
      if !e.c then .stop .lockPrecondition
      else if r.aborts then .abort (lockAbortInfo mva) r.after
      else
        .ok () ((r.after.count .icacheMiss).fillIcache true false (lineOf mva)
          (Vector.ofFn (fun i : Fin 32 => r.byte i.val)))

/-- Translate and lock a TLB entry (20_memory.md R178), with IRQ and FIQ masked or not; a translation that the TLB holds,
which is what an exception in the middle of the locking routine may leave, is refused (93 U6; log entry 56).  That its
permissions are checked as those of a read, for the data TLB too, is log entry 83. -/
def State.lockTlbEntry (s : State) (side : Side) (mva : Word) : Access Unit :=
  if !s.mmuOn then .stop .lockOnDisabledUnit
  else if ((s.tlb side).lookup mva).isSome then .stop .lockPrecondition
  else
    match (s.countTlbMiss side).walk mva with
    | .stop r => .stop r
    | .fault _ s' => .abort (lockAbortInfo mva) s'
    | .ok e s' =>
      match s'.checkAccess e mva s'.privileged false with
      | .error r => .stop r
      | .ok (some _) => .abort (lockAbortInfo mva) s'
      | .ok none => .ok () (s'.setTlb side ((s'.tlb side).lock e))

end Sys2Proof.Machine
end

