-- ==== Sys2Proof/Machine/Cp15Ops.lean ====
section
/-! DEFINITION. The cache, TLB and lock functions of CP15 registers 7 to 10 (41_coprocessor_access.md R370-R377;
20_memory.md R178, R179, R191-R194, R215-R218, R234, R263, R268). -/

namespace Sys2Proof.Machine

/-- A CP15 function (R361, R363): privileged, and R15 is refused; `f` gets the value of Rd. -/
def State.cp15Function (s : State) (c : Cond) (rd : Reg) (f : Word → Result) : Result :=
  if s.passed c then
    if !s.privileged then s.undefined
    else if rd == 15 then .refused .unpredictableOperands
    else f (s.reg rd)
  else s.advance

/-- The end of a function that may take a data abort (R685, 92 D28). -/
def finishFunction (r : Access Unit) : Result :=
  match r with
  | .stop e => .refused e
  | .abort i s => s.abortSingle i false 0 none 0
  | .ok _ s => s.advance

/-! Register 7: the caches. -/

/-- Invalidate I&D cache and BTB (R371); the outstanding fills return first (log entry 69). -/
def execInvIDCacheBtb (c : Cond) (rd : Reg) (s : State) : Result :=
  s.cp15Function c rd (fun _ => s.settleFills.invalidateIcache.invalidateDcache.advance)

/-- Invalidate I cache and BTB (R371). -/
def execInvICacheBtb (c : Cond) (rd : Reg) (s : State) : Result :=
  s.cp15Function c rd (fun _ => s.invalidateIcache.advance)

/-- Invalidate I cache line (R371). -/
def execInvICacheLine (c : Cond) (rd : Reg) (s : State) : Result :=
  s.cp15Function c rd (fun v => (s.invalidateIcacheLine (lineOf v)).advance)

/-- Invalidate D cache (R371); the outstanding fills return first (log entry 69). -/
def execInvDCache (c : Cond) (rd : Reg) (s : State) : Result :=
  s.cp15Function c rd (fun _ => s.settleFills.invalidateDcache.advance)

/-- Invalidate D cache line (R371); the outstanding fills return first (log entry 69). -/
def execInvDCacheLine (c : Cond) (rd : Reg) (s : State) : Result :=
  s.cp15Function c rd (fun v => (s.settleFills.invalidateDcacheLine (lineOf v)).advance)

/-- Clean D cache line (R372); the outstanding fills return first (log entry 69). -/
def execCleanDCacheLine (c : Cond) (rd : Reg) (s : State) : Result :=
  s.cp15Function c rd (fun v => (s.settleFills.cleanDcacheLine (lineOf v)).advance)

/-- Drain write and fill buffer (R373). -/
def execDrainWriteBuffer (c : Cond) (rd : Reg) (s : State) : Result :=
  s.cp15Function c rd (fun _ => s.drainCommand.advance)

/-- Invalidate BTB (R374). -/
def execInvBtb (c : Cond) (rd : Reg) (s : State) : Result :=
  s.cp15Function c rd (fun _ => State.advance { s with btb := [] })

/-- Allocate line (R374): with the MMU on, a translation that faults aborts (92 D28), with all of Rd as the FAR (log entry
70).  That the pending memory operations complete (20_memory.md R268) after the table walk, and only where the translation does
not fault, is log entry 86. -/
def State.allocateLine (s : State) (mva : Word) : Access Unit :=
  match (if s.mmuOn then s.translate .data mva else .ok { TlbEntry.empty with base := mva } s) with
  | .stop r => .stop r
  | .fault cause s' => .abort { cause := cause, mva := mva } s'
  | .ok e s' =>
    match s'.allocateCommand mva (e.pa mva) with
    | .error r => .stop r
    | .ok s'' => .ok () s''

/-- Allocate line in the data cache (R374). -/
def execAllocDCacheLine (c : Cond) (rd : Reg) (s : State) : Result :=
  s.cp15Function c rd (fun v => finishFunction (s.allocateLine v))

/-! Register 8: the TLBs. -/

/-- Invalidate I&D TLB (R375). -/
def execInvIDTlb (c : Cond) (rd : Reg) (s : State) : Result :=
  s.cp15Function c rd (fun _ => ((s.setTlb .instr s.itlb.invalidate).setTlb .data s.dtlb.invalidate).advance)

/-- Invalidate I TLB (R375). -/
def execInvITlb (c : Cond) (rd : Reg) (s : State) : Result :=
  s.cp15Function c rd (fun _ => (s.setTlb .instr s.itlb.invalidate).advance)

/-- Invalidate I TLB entry (R375). -/
def execInvITlbEntry (c : Cond) (rd : Reg) (s : State) : Result :=
  s.cp15Function c rd (fun v => (s.setTlb .instr (s.itlb.invalidateEntry v)).advance)

/-- Invalidate D TLB (R375). -/
def execInvDTlb (c : Cond) (rd : Reg) (s : State) : Result :=
  s.cp15Function c rd (fun _ => (s.setTlb .data s.dtlb.invalidate).advance)

/-- Invalidate D TLB entry (R375). -/
def execInvDTlbEntry (c : Cond) (rd : Reg) (s : State) : Result :=
  s.cp15Function c rd (fun v => (s.setTlb .data (s.dtlb.invalidateEntry v)).advance)

/-! Register 9: cache locking. -/

/-- Fetch and lock an I cache line (R376). -/
def execLockICacheLine (c : Cond) (rd : Reg) (s : State) : Result :=
  s.cp15Function c rd (fun v => finishFunction (s.lockIcacheLine v))

/-- Unlock I cache (R376); on a disabled cache it is refused (10_state.md R74). -/
def execUnlockICache (c : Cond) (rd : Reg) (s : State) : Result :=
  s.cp15Function c rd (fun _ => if s.icacheOn then s.unlockIcache.advance else .refused .lockOnDisabledUnit)

/-- Read the data cache lock register (10_state.md R74): the other bits are free values. -/
def execReadDCacheLock (c : Cond) (rd : Reg) (s : State) : Result :=
  if s.passed c then
    if !s.privileged then s.undefined
    else finishMrc rd (.ok (s.readMasked 1 (if s.cp15.dlock then 1 else 0)))
  else s.advance

/-- A line fill of the mini-data cache is outstanding. -/
def State.miniOutstanding (s : State) : Bool := s.fillBuf.any (fun f => f.alloc && f.mini)

/-- Write the data cache lock register (10_state.md R74), with the data cache enabled or not (log entry 56).  A fill of the
mini-data cache that would return in lock mode is refused (93 U6). -/
def execWriteDCacheLock (c : Cond) (rd : Reg) (s : State) : Result :=
  s.cp15Function c rd (fun v =>
    if bitAt v 0 && s.miniOutstanding then .refused .lockPrecondition
    else (s.setCp15 { s.cp15 with dlock := bitAt v 0 }).advance)

/-- Unlock D cache (R376); on a disabled cache it is refused (10_state.md R74). -/
def execUnlockDCache (c : Cond) (rd : Reg) (s : State) : Result :=
  s.cp15Function c rd (fun _ => if s.dcacheOn then s.unlockDcache.advance else .refused .lockOnDisabledUnit)

/-! Register 10: TLB locking. -/

/-- Translate and lock an I TLB entry (R377). -/
def execLockITlbEntry (c : Cond) (rd : Reg) (s : State) : Result :=
  s.cp15Function c rd (fun v => finishFunction (s.lockTlbEntry .instr v))

/-- Translate and lock a D TLB entry (R377). -/
def execLockDTlbEntry (c : Cond) (rd : Reg) (s : State) : Result :=
  s.cp15Function c rd (fun v => finishFunction (s.lockTlbEntry .data v))

/-- Unlocks a TLB (R377); with the MMU off it is refused (10_state.md R75). -/
def State.unlockTlb (s : State) (side : Side) : Result :=
  if s.mmuOn then (s.setTlb side (s.tlb side).unlock).advance else .refused .lockOnDisabledUnit

/-- Unlock I TLB (R377). -/
def execUnlockITlb (c : Cond) (rd : Reg) (s : State) : Result := s.cp15Function c rd (fun _ => s.unlockTlb .instr)

/-- Unlock D TLB (R377). -/
def execUnlockDTlb (c : Cond) (rd : Reg) (s : State) : Result := s.cp15Function c rd (fun _ => s.unlockTlb .data)

end Sys2Proof.Machine
end

