-- ==== Sys2Proof/Machine/DataProc.lean ====
section
/-! DEFINITION. The ARM data-processing instructions and CLZ (42_arm_data_processing.md). -/

namespace Sys2Proof.Machine

/-- The result of a data-processing instruction (R405): the PC, an exception return, or a register and the flags. -/
def State.dataResult (s : State) (setFlags : Bool) (rd : Reg) (o : AluOut) : Result :=
  if rd = 15 then (if setFlags then s.returnTo o.value else s.jumpResult o.value)
  else ((if setFlags then s.setAluFlags o else s).setReg rd o.value).advance

/-- A data-processing instruction (R400); `alu` gets the first operand, the shifter operand and its carry-out. -/
def State.dataProc (s : State) (c : Cond) (setFlags : Bool) (rn rd : Reg) (op2 : ShifterOp)
    (alu : Word → Word → Bool → AluOut) : Result :=
  if s.passed c then
    if op2.namesPc rn rd then .refused .unpredictableOperands
    else s.dataResult setFlags rd (alu (s.reg rn) (s.shifter op2).1 (s.shifter op2).2)
  else s.advance

/-- A compare or test instruction (R400, R405): only the flags are written; Rd = 15 is refused. -/
def State.dataTest (s : State) (c : Cond) (rn rd : Reg) (op2 : ShifterOp) (alu : Word → Word → Bool → AluOut) : Result :=
  if s.passed c then
    if op2.namesPc rn 0 || rd == 15 then .refused .unpredictableOperands
    else (s.setAluFlags (alu (s.reg rn) (s.shifter op2).1 (s.shifter op2).2)).advance
  else s.advance

/-- A logical result: C is the shifter carry-out, V stays (R404). -/
def logical (s : State) (v : Word) (shc : Bool) : AluOut := { value := v, c := shc, v := s.flagV }

/-- AND (R406). -/
def execAnd (c : Cond) (sf : Bool) (rn rd : Reg) (op2 : ShifterOp) (s : State) : Result :=
  s.dataProc c sf rn rd op2 (fun a b k => logical s (a &&& b) k)

/-- EOR (R407). -/
def execEor (c : Cond) (sf : Bool) (rn rd : Reg) (op2 : ShifterOp) (s : State) : Result :=
  s.dataProc c sf rn rd op2 (fun a b k => logical s (a ^^^ b) k)

/-- SUB (R408). -/
def execSub (c : Cond) (sf : Bool) (rn rd : Reg) (op2 : ShifterOp) (s : State) : Result :=
  s.dataProc c sf rn rd op2 (fun a b _ => subtract a b)

/-- RSB (R409). -/
def execRsb (c : Cond) (sf : Bool) (rn rd : Reg) (op2 : ShifterOp) (s : State) : Result :=
  s.dataProc c sf rn rd op2 (fun a b _ => subtract b a)

/-- ADD (R410). -/
def execAdd (c : Cond) (sf : Bool) (rn rd : Reg) (op2 : ShifterOp) (s : State) : Result :=
  s.dataProc c sf rn rd op2 (fun a b _ => addWithCarry a b false)

/-- ADC (R411). -/
def execAdc (c : Cond) (sf : Bool) (rn rd : Reg) (op2 : ShifterOp) (s : State) : Result :=
  s.dataProc c sf rn rd op2 (fun a b _ => addWithCarry a b s.flagC)

/-- SBC (R412). -/
def execSbc (c : Cond) (sf : Bool) (rn rd : Reg) (op2 : ShifterOp) (s : State) : Result :=
  s.dataProc c sf rn rd op2 (fun a b _ => addWithCarry a (~~~b) s.flagC)

/-- RSC (R413). -/
def execRsc (c : Cond) (sf : Bool) (rn rd : Reg) (op2 : ShifterOp) (s : State) : Result :=
  s.dataProc c sf rn rd op2 (fun a b _ => addWithCarry b (~~~a) s.flagC)

/-- TST (R414). -/
def execTst (c : Cond) (rn rd : Reg) (op2 : ShifterOp) (s : State) : Result :=
  s.dataTest c rn rd op2 (fun a b k => logical s (a &&& b) k)

/-- TEQ (R415). -/
def execTeq (c : Cond) (rn rd : Reg) (op2 : ShifterOp) (s : State) : Result :=
  s.dataTest c rn rd op2 (fun a b k => logical s (a ^^^ b) k)

/-- CMP (R416). -/
def execCmp (c : Cond) (rn rd : Reg) (op2 : ShifterOp) (s : State) : Result :=
  s.dataTest c rn rd op2 (fun a b _ => subtract a b)

/-- CMN (R417). -/
def execCmn (c : Cond) (rn rd : Reg) (op2 : ShifterOp) (s : State) : Result :=
  s.dataTest c rn rd op2 (fun a b _ => addWithCarry a b false)

/-- ORR (R418). -/
def execOrr (c : Cond) (sf : Bool) (rn rd : Reg) (op2 : ShifterOp) (s : State) : Result :=
  s.dataProc c sf rn rd op2 (fun a b k => logical s (a ||| b) k)

/-- MOV (R419); the Rn field is ignored. -/
def execMov (c : Cond) (sf : Bool) (_sbz : BitVec 4) (rd : Reg) (op2 : ShifterOp) (s : State) : Result :=
  s.dataProc c sf 0 rd op2 (fun _ b k => logical s b k)

/-- BIC (R420). -/
def execBic (c : Cond) (sf : Bool) (rn rd : Reg) (op2 : ShifterOp) (s : State) : Result :=
  s.dataProc c sf rn rd op2 (fun a b k => logical s (a &&& ~~~b) k)

/-- MVN (R421); the Rn field is ignored. -/
def execMvn (c : Cond) (sf : Bool) (_sbz : BitVec 4) (rd : Reg) (op2 : ShifterOp) (s : State) : Result :=
  s.dataProc c sf 0 rd op2 (fun _ b k => logical s (~~~b) k)

/-- The zero bits of `w` above its highest one bit among the low `n` bits. -/
def leadingZeros (w : Word) : Nat → Nat
  | 0 => 0
  | n + 1 => if w.getLsbD n then 0 else leadingZeros w n + 1

/-- CLZ (R425). -/
def execClz (c : Cond) (rd rm : Reg) (s : State) : Result :=
  if s.passed c then
    if rd == 15 || rm == 15 then .refused .unpredictableOperands
    else (s.setReg rd (BitVec.ofNat 32 (leadingZeros (s.reg rm) 32))).advance
  else s.advance

end Sys2Proof.Machine
end

