-- ==== Sys2Proof/Machine/LoadStore.lean ====
section
/-! DEFINITION. The ARM loads and stores of one register and of a pair, and PLD (44_arm_load_store.md R495-R515). -/

namespace Sys2Proof.Machine

/-- Write-back with Rn = 15 or Rn = Rd, which is refused (R491, 93 U2 (a), (b)). -/
def badBase (ix : Indexing) (rn rd : Reg) : Bool := ix.writesBack && (rn == 15 || rn == rd)

/-! Word and byte transfers: addressing mode 2. -/

/-- A load of mode 2 with its refusals (93 U2); `pcAllowed`: Rd = 15 branches. -/
def State.load2 (s : State) (c : Cond) (ix : Indexing) (u : Bool) (rn rd : Reg) (off : Offset2) (w : Width)
    (privileged pcAllowed : Bool) (conv : Word → Word → Word) : Result :=
  if s.passed c then
    if off.namesPc || badBase ix rn rd || (rd == 15 && !pcAllowed) then .refused .unpredictableOperands
    else
      let a := s.address2 ix u rn off
      if rd == 15 && s.unalignedPc a.va then .refused .unpredictableAlignment
      else s.loadSingle a rn rd w privileged (conv a.va)
  else s.advance

/-- A store of mode 2 with its refusals (93 U2). -/
def State.store2 (s : State) (c : Cond) (ix : Indexing) (u : Bool) (rn rd : Reg) (off : Offset2) (w : Width)
    (privileged pcAllowed : Bool) : Result :=
  if s.passed c then
    if off.namesPc || badBase ix rn rd || (rd == 15 && !pcAllowed) then .refused .unpredictableOperands
    else s.storeSingle (s.address2 ix u rn off) rn w privileged (s.storeReg rd)
  else s.advance

/-- The value read is the register's value: bytes and halfwords are zero-extended by the read. -/
def plainRead (_va v : Word) : Word := v

/-- LDR (R495); in DEBUG mode a load of the PC or with an RRX offset is refused (93 U42). -/
def execLdr (c : Cond) (ix : Indexing) (u : Bool) (rn rd : Reg) (off : Offset2) (s : State) : Result :=
  if s.passed c && s.mode == .dbg && (rd == 15 || off.isRrx) then .refused .notInDebugMode
  else s.load2 c ix u rn rd off .word s.privileged true rotateRead

/-- LDRB (R496). -/
def execLdrb (c : Cond) (ix : Indexing) (u : Bool) (rn rd : Reg) (off : Offset2) (s : State) : Result :=
  s.load2 c ix u rn rd off .byte s.privileged false plainRead

/-- STR (R497). -/
def execStr (c : Cond) (ix : Indexing) (u : Bool) (rn rd : Reg) (off : Offset2) (s : State) : Result :=
  s.store2 c ix u rn rd off .word s.privileged true

/-- STRB (R498). -/
def execStrb (c : Cond) (ix : Indexing) (u : Bool) (rn rd : Reg) (off : Offset2) (s : State) : Result :=
  s.store2 c ix u rn rd off .byte s.privileged false

/-- LDRT (R499): with User-mode permission. -/
def execLdrt (c : Cond) (u : Bool) (rn rd : Reg) (off : Offset2) (s : State) : Result :=
  s.load2 c .postIndexed u rn rd off .word false false rotateRead

/-- LDRBT (R499). -/
def execLdrbt (c : Cond) (u : Bool) (rn rd : Reg) (off : Offset2) (s : State) : Result :=
  s.load2 c .postIndexed u rn rd off .byte false false plainRead

/-- STRT (R499). -/
def execStrt (c : Cond) (u : Bool) (rn rd : Reg) (off : Offset2) (s : State) : Result :=
  s.store2 c .postIndexed u rn rd off .word false true

/-- STRBT (R499). -/
def execStrbt (c : Cond) (u : Bool) (rn rd : Reg) (off : Offset2) (s : State) : Result :=
  s.store2 c .postIndexed u rn rd off .byte false false

/-! Halfword, signed byte and doubleword transfers: addressing mode 3. -/

/-- What every form of mode 3 refuses (R491, R492; 93 U2 (a), (b), (g)). -/
def badMode3 (ix : Indexing) (rn rd : Reg) (off : Offset3) : Bool :=
  off.namesPc || ix == .postW || badBase ix rn rd

/-- A load of a byte or a halfword of mode 3. -/
def State.load3 (s : State) (c : Cond) (ix : Indexing) (u : Bool) (rn rd : Reg) (off : Offset3) (w : Width)
    (conv : Word → Word) : Result :=
  if s.passed c then
    if badMode3 ix rn rd off || rd == 15 then .refused .unpredictableOperands
    else
      let a := s.address3 ix u rn off
      if w == .half && s.oddHalf a.va then .refused .unpredictableAlignment
      else s.loadSingle a rn rd w s.privileged conv
  else s.advance

/-- The sign extension of a halfword that was read. -/
def signHalf (v : Word) : Word := (field v 0 16).signExtend 32

/-- The sign extension of a byte that was read. -/
def signByte (v : Word) : Word := (field v 0 8).signExtend 32

/-- LDRH (R503). -/
def execLdrh (c : Cond) (ix : Indexing) (u : Bool) (rn rd : Reg) (off : Offset3) (s : State) : Result :=
  s.load3 c ix u rn rd off .half id

/-- LDRSH (R504). -/
def execLdrsh (c : Cond) (ix : Indexing) (u : Bool) (rn rd : Reg) (off : Offset3) (s : State) : Result :=
  s.load3 c ix u rn rd off .half signHalf

/-- LDRSB (R505). -/
def execLdrsb (c : Cond) (ix : Indexing) (u : Bool) (rn rd : Reg) (off : Offset3) (s : State) : Result :=
  s.load3 c ix u rn rd off .byte signByte

/-- STRH (R506). -/
def execStrh (c : Cond) (ix : Indexing) (u : Bool) (rn rd : Reg) (off : Offset3) (s : State) : Result :=
  if s.passed c then
    if badMode3 ix rn rd off || rd == 15 then .refused .unpredictableOperands
    else
      let a := s.address3 ix u rn off
      if s.oddHalf a.va then .refused .unpredictableAlignment
      else s.storeSingle a rn .half s.privileged (s.reg rd)
  else s.advance

/-- The second register of a pair. -/
def nextReg (rd : Reg) : Reg := rd + 1

/-- The address of a doubleword is not a multiple of 8 (20_memory.md R158). -/
def unalignedPair (a : Word) : Bool := field a 0 3 != 0

/-- What LDRD refuses beyond mode 3 (R507, 93 U2 (f)). -/
def badLdrd (ix : Indexing) (rn rd : Reg) (off : Offset3) : Bool :=
  rd == 14 || badMode3 ix rn rd off || (ix.writesBack && rn == nextReg rd)
    || off.reg? == some rd || off.reg? == some (nextReg rd)

/-- LDRD (R507): both words are read before a register is written. -/
def execLdrd (c : Cond) (ix : Indexing) (u : Bool) (rn rd : Reg) (off : Offset3) (s : State) : Result :=
  if s.passed c then
    if bitAt rd 0 then s.undefined
    else if badLdrd ix rn rd off then .refused .unpredictableOperands
    else
      let a := s.address3 ix u rn off
      let regs := addReg rd (addReg (nextReg rd) 0)
      if unalignedPair a.va then s.abortSingle { cause := .alignment, mva := s.mva a.va } true rn a.newBase regs
      else
        match s.memRead a.va .word s.privileged with
        | .stop r => .refused r
        | .abort i s1 => s1.abortSingle i true rn a.newBase regs
        | .ok v1 s1 =>
          match s1.busGap.memRead (a.va + 4) .word s.privileged with
          | .stop r => .refused r
          | .abort i s2 => s2.abortSingle i true rn a.newBase regs
          | .ok v2 s2 => (((s2.writeBase rn a.newBase).setReg rd v1).setReg (nextReg rd) v2).advance
  else s.advance

/-- STRD (R508). -/
def execStrd (c : Cond) (ix : Indexing) (u : Bool) (rn rd : Reg) (off : Offset3) (s : State) : Result :=
  if s.passed c then
    if bitAt rd 0 then s.undefined
    else if rd == 14 || badMode3 ix rn rd off then .refused .unpredictableOperands
    else
      let a := s.address3 ix u rn off
      if unalignedPair a.va then
        s.abortMultiple { cause := .alignment, mva := s.mva a.va } s.mode (baseSet rn a.newBase)
      else
        match s.memWrite a.va .word (s.reg rd) s.privileged with
        | .stop r => .refused r
        | .abort i s1 => s1.abortMultiple i s1.mode (baseSet rn a.newBase)
        | .ok _ s1 =>
          match s1.busGap.memWrite (a.va + 4) .word (s.reg (nextReg rd)) s.privileged with
          | .stop r => .refused r
          | .abort i s2 => s2.abortMultiple i s2.mode (baseSet rn a.newBase)
          | .ok _ s2 => (s2.writeBase rn a.newBase).advance
  else s.advance

/-! PLD. -/

/-- What PLD would fetch: the line of a cacheable page whose translation is in the TLB and allows a read, not resident and
not outstanding (R515, 20_memory.md R172).  Where a load would be unpredictable (a reserved permission, the mini-data cache with
MD = 0b11 or in lock mode) the hint is ignored (log entry 79). -/
def State.preloadTarget (s : State) (mva : Word) : Option Target :=
  if s.mmuOn && s.dcacheOn then
    match s.dtlb.lookup mva with
    | none => none
    | some e =>
      match s.checkAccess e mva s.privileged false with
      | .error _ => none
      | .ok (some _) => none
      | .ok none =>
        let t : Target := { mva := mva, pa := e.pa mva, x := e.x, c := e.c, b := e.b }
        if !t.c || (t.isMini && (s.miniPolicy == 3 || s.cp15.dlock)) || (s.dataHit (lineOf mva)).isSome
            || (s.pendingFill (lineOf mva)).isSome then none
        else some t
  else none

/-- PLD (R515): starts a line fill, or does nothing. -/
def execPld (u : Bool) (rn : Reg) (off : Offset2) (_bit4 : Bool) (s : State) : Result :=
  if off.namesPc then .refused .unpredictableOperands
  else
    match s.preloadTarget (s.mva (s.address2 .offset u rn off).va) with
    | none => s.advance
    | some t => (s.startFill t).advance

end Sys2Proof.Machine
end

