-- ==== Sys2Proof/Machine/Status.lean ====
section
/-! DEFINITION. MRS, MSR, and the instructions that generate exceptions: SWI, BKPT and the undefined instructions
(45_arm_branch_status.md R550-R557). -/

namespace Sys2Proof.Machine

/-- MRS (R550); the SPSR of a mode without one, and Rd = 15, are refused (93 U31). -/
def execMrs (c : Cond) (r : Bool) (rd : Reg) (s : State) : Result :=
  if s.passed c then
    if rd == 15 then .refused .noSpsr
    else if r then
      match s.spsrOf s.mode with
      | none => .refused .noSpsr
      | some w => (s.setReg rd w).advance
    else (s.setReg rd s.core.cpsr).advance
  else s.advance

/-- The bits of a status register that a field mask selects (R551). -/
def psrMask (mask : BitVec 4) : Word :=
  (if bitAt mask 3 then 0xFF000000 else 0) ||| (if bitAt mask 2 then 0x00FF0000 else 0)
    ||| (if bitAt mask 1 then 0x0000FF00 else 0) ||| (if bitAt mask 0 then 0x000000FF else 0)

/-- A mode number that MSR may not write from mode `m`: an illegal one (93 U31), DEBUG mode but where it is the mode
already, since debug entry only sets it (10_state.md R31, R551), User mode in Special Debug State (93 U33). -/
def modeWriteError (m : Mode) (sds : Bool) (psr : Word) : Option Refusal :=
  match Mode.ofBits (field psr 0 5) with
  | none => some .illegalModeWrite
  | some .dbg => if m = .dbg then none else some .illegalModeWrite
  | some .usr => if sds then some .userModeInSds else none
  | some _ => none

/-- MSR to the CPSR (R551): User mode writes the flag byte only, and the T bit is never changed (92 D30). -/
def State.msrCpsr (s : State) (mask : BitVec 4) (v : Word) : Result :=
  if s.mode.privileged then
    let w := merge (psrMask mask &&& 0xFFFFFFDF) s.core.cpsr v
    match if bitAt mask 0 then modeWriteError s.mode s.sds w else none with
    | some r => .refused r
    | none => (s.setCpsr w).advance
  else (s.setCpsr (merge (psrMask mask &&& 0xFF000000) s.core.cpsr v)).advance

/-- MSR to the SPSR of the current mode (R551). -/
def State.msrSpsr (s : State) (mask : BitVec 4) (v : Word) : Result :=
  match s.spsrOf s.mode with
  | none => .refused .noSpsr
  | some w => (s.setSpsrOf s.mode (merge (psrMask mask) w v)).advance

/-- MSR (R551). -/
def State.msr (s : State) (r : Bool) (mask : BitVec 4) (v : Word) : Result :=
  if r then s.msrSpsr mask v else s.msrCpsr mask v

/-- MSR with a register (R551); R15 is refused (93 U31). -/
def execMsrReg (c : Cond) (r : Bool) (mask : BitVec 4) (rm : Reg) (s : State) : Result :=
  if s.passed c then
    if rm == 15 then .refused .unpredictableOperands else s.msr r mask (s.reg rm)
  else s.advance

/-- MSR with an immediate (R551). -/
def execMsrImm (c : Cond) (r : Bool) (mask rotate : BitVec 4) (immed : Byte) (s : State) : Result :=
  if s.passed c then s.msr r mask (rotatedImm rotate immed s.flagC).1 else s.advance

/-- SWI (R555). -/
def execSwi (c : Cond) (_imm24 : BitVec 24) (s : State) : Result :=
  if s.passed c then s.softwareInterrupt else s.advance

/-- A software breakpoint (R556): nothing with DCSR.GE = 0 or in Special Debug State, else the debug exception; in Monitor
mode and Abort mode the mode stays, which the monitor counts as a PC change (60_exceptions.md R733; log entry 40). -/
def State.breakpoint (s : State) : Result :=
  if s.debugOn && !s.sds then
    .next ((if !s.haltMode && s.mode == .abt then s.count .pcChanged else s).takeDebug .software)
  else s.advance

/-- BKPT (R556). -/
def execBkpt (_immHi : BitVec 12) (_immLo : BitVec 4) (s : State) : Result := s.breakpoint

/-- BKPT with another condition (R556, 93 U26): Undefined Instruction. -/
def execUndefBkptCond (c : Cond) (_immHi : BitVec 12) (_immLo : BitVec 4) (s : State) : Result :=
  if s.passed c then s.undefined else s.advance

/-- The unconditional undefined space (30_encoding.md R295, R296). -/
def execUndefUncond (_low : BitVec 28) (s : State) : Result := s.undefined

/-- The rest of the multiply and extra load/store space (30_encoding.md R296; 92 D26). -/
def execUndefMulSpace (c : Cond) (_low : BitVec 28) (s : State) : Result :=
  if s.passed c then s.undefined else s.advance

/-- The architecturally undefined instruction (R557). -/
def execUndefArch (c : Cond) (_low : BitVec 28) (s : State) : Result :=
  if s.passed c then s.undefined else s.advance

/-- Every other undefined pattern (30_encoding.md R296; 92 D26). -/
def execUndefRest (c : Cond) (_low : BitVec 28) (s : State) : Result :=
  if s.passed c then s.undefined else s.advance

end Sys2Proof.Machine
end

