-- ==== Sys2Proof/Machine/ThumbBranch.lean ====
section
/-! DEFINITION. The Thumb branches, SWI, BKPT and undefined encodings (46_thumb.md R646-R653). -/

namespace Sys2Proof.Machine

/-- The target of B(1) (R646). -/
def State.tBCondTarget (s : State) (imm : Byte) : Word := s.pcRead + (imm.signExtend 32 <<< 1)

/-- B(1) (R646). -/
def execTBCond (c : Cond) (imm : Byte) (s : State) : Result :=
  if s.passed c then .next (s.branchTo (s.tBCondTarget imm)) else s.branchNotTaken (s.tBCondTarget imm)

/-- B(2) (R647). -/
def execTB (imm : BitVec 11) (s : State) : Result := .next (s.branchTo (s.pcRead + (imm.signExtend 32 <<< 1)))

/-- The first halfword of BL and BLX(1) (R648). -/
def execTBlHead (imm : BitVec 11) (s : State) : Result :=
  (s.setReg 14 (s.pcRead + (imm.signExtend 32 <<< 12))).advance

/-- The return address of BL, BLX(1) and BLX(2): the next halfword with bit 0 set (R648, R650). -/
def State.thumbLink (s : State) : Word := s.nextPc ||| 1

/-- The second halfword of BL (R648): a direct branch, which the BTB holds (90_conflicts.md C32). -/
def execTBlSuffix (imm : BitVec 11) (s : State) : Result :=
  .next ((s.setReg 14 s.thumbLink).branchTo ((s.reg 14 + (imm.zeroExtend 32 <<< 1)) &&& 0xFFFFFFFE))

/-- The second halfword of BLX(1) (R648): to ARM state; `imm` is bits [10:1] of the halfword. -/
def execTBlxSuffix (imm : BitVec 10) (s : State) : Result :=
  let target := (s.reg 14 + (imm.zeroExtend 32 <<< 2)) &&& 0xFFFFFFFC
  .next ((s.setReg 14 s.thumbLink).branchArmTo target)

/-- BX (R649). -/
def execTBx (h2 : Bool) (rm : LowReg) (s : State) : Result :=
  (s.count .branchExecuted).jumpExchange (s.reg (highReg h2 rm))

/-- BLX(2) (R650): the target is read before R14 is written; R15 is refused (93 U30). -/
def execTBlxReg (h2 : Bool) (rm : LowReg) (s : State) : Result :=
  if highReg h2 rm = 15 then .refused .unpredictableOperands
  else ((s.count .branchExecuted).setReg 14 s.thumbLink).jumpExchange (s.reg (highReg h2 rm))

/-- SWI (R651). -/
def execTSwi (_imm : Byte) (s : State) : Result := s.softwareInterrupt

/-- BKPT (R652). -/
def execTBkpt (_imm : Byte) (s : State) : Result := s.breakpoint

/-- The rest of 1011 xxxx (R653). -/
def execTUndefMisc (_low : BitVec 12) (s : State) : Result := s.undefined

/-- 1101 1110 (R653). -/
def execTUndefDE (_imm : Byte) (s : State) : Result := s.undefined

/-- The BLX suffix with bit 0 set (R653). -/
def execTUndefBlx (_imm : BitVec 10) (s : State) : Result := s.undefined

/-- Every other undefined halfword (R653; 92 D26). -/
def execTUndefRest (_low : BitVec 16) (s : State) : Result := s.undefined

end Sys2Proof.Machine
end

