-- ==== Sys2Proof/Machine/ThumbAlu.lean ====
section
/-! DEFINITION. The Thumb shifts, arithmetic, moves, compares and logical instructions (46_thumb.md R590-R624). -/

namespace Sys2Proof.Machine

/-! The shared ends. -/

/-- A result with all four flags (R597). -/
def State.thumbArith (s : State) (rd : LowReg) (o : AluOut) : Result :=
  ((s.setAluFlags o).setReg rd.reg o.value).advance

/-- Flags only (R616). -/
def State.thumbCompare (s : State) (o : AluOut) : Result := (s.setAluFlags o).advance

/-- A result with N and Z; C and V stay (R612). -/
def State.thumbLogic (s : State) (rd : LowReg) (v : Word) : Result :=
  ((s.setNz v.msb (v == 0)).setReg rd.reg v).advance

/-- A shift: N, Z and the carry-out; V stays (R590). -/
def State.thumbShift (s : State) (rd : LowReg) (r : Word × Bool) : Result :=
  s.thumbArith rd { value := r.1, c := r.2, v := s.flagV }

/-- The value of a low register. -/
def State.low (s : State) (r : LowReg) : Word := s.reg r.reg

/-- An 8-bit immediate. -/
def imm8 (imm : Byte) : Word := imm.zeroExtend 32

/-- A 3-bit immediate. -/
def imm3 (imm : BitVec 3) : Word := imm.zeroExtend 32

/-- A 5-bit immediate. -/
def imm5 (imm : BitVec 5) : Word := imm.zeroExtend 32

/-- The low byte of a shift register. -/
def State.shiftBy (s : State) (rs : LowReg) : Nat := (field (s.low rs) 0 8).toNat

/-! Shifts. -/

/-- LSL(1) (R590). -/
def execTLslImm (imm : BitVec 5) (rm rd : LowReg) (s : State) : Result :=
  s.thumbShift rd (immShift .lsl (s.low rm) imm s.flagC)

/-- LSR(1) (R591): 0 means 32. -/
def execTLsrImm (imm : BitVec 5) (rm rd : LowReg) (s : State) : Result :=
  s.thumbShift rd (immShift .lsr (s.low rm) imm s.flagC)

/-- ASR(1) (R592): 0 means 32. -/
def execTAsrImm (imm : BitVec 5) (rm rd : LowReg) (s : State) : Result :=
  s.thumbShift rd (immShift .asr (s.low rm) imm s.flagC)

/-- LSL(2) (R593). -/
def execTLslReg (rs rd : LowReg) (s : State) : Result :=
  s.thumbShift rd (shiftLsl (s.low rd) (s.shiftBy rs) s.flagC)

/-- LSR(2) (R594). -/
def execTLsrReg (rs rd : LowReg) (s : State) : Result :=
  s.thumbShift rd (shiftLsr (s.low rd) (s.shiftBy rs) s.flagC)

/-- ASR(2) (R595). -/
def execTAsrReg (rs rd : LowReg) (s : State) : Result :=
  s.thumbShift rd (shiftAsr (s.low rd) (s.shiftBy rs) s.flagC)

/-- ROR (R596). -/
def execTRor (rs rd : LowReg) (s : State) : Result :=
  s.thumbShift rd (shiftRor (s.low rd) (s.shiftBy rs) s.flagC)

/-! Addition, subtraction and multiplication. -/

/-- ADD(1) (R597). -/
def execTAddImm3 (imm : BitVec 3) (rn rd : LowReg) (s : State) : Result :=
  s.thumbArith rd (addWithCarry (s.low rn) (imm3 imm) false)

/-- ADD(2) (R598). -/
def execTAddImm8 (rd : LowReg) (imm : Byte) (s : State) : Result :=
  s.thumbArith rd (addWithCarry (s.low rd) (imm8 imm) false)

/-- ADD(3) (R599). -/
def execTAddReg (rm rn rd : LowReg) (s : State) : Result :=
  s.thumbArith rd (addWithCarry (s.low rn) (s.low rm) false)

/-- ADD(4) (R600): no flags; Rd = 15 branches. -/
def execTAddHigh (h1 h2 : Bool) (rm rd : LowReg) (s : State) : Result :=
  let v := s.reg (highReg h1 rd) + s.reg (highReg h2 rm)
  if highReg h1 rd = 15 then s.jumpResult v else (s.setReg (highReg h1 rd) v).advance

/-- ADD(5) (R601): the PC word aligned. -/
def execTAddPc (rd : LowReg) (imm : Byte) (s : State) : Result :=
  (s.setReg rd.reg ((s.pcRead &&& 0xFFFFFFFC) + (imm8 imm <<< 2))).advance

/-- ADD(6) (R602). -/
def execTAddSp (rd : LowReg) (imm : Byte) (s : State) : Result :=
  (s.setReg rd.reg (s.reg 13 + (imm8 imm <<< 2))).advance

/-- ADD(7) (R603). -/
def execTIncSp (imm : BitVec 7) (s : State) : Result := (s.setReg 13 (s.reg 13 + (imm.zeroExtend 32 <<< 2))).advance

/-- SUB(1) (R604). -/
def execTSubImm3 (imm : BitVec 3) (rn rd : LowReg) (s : State) : Result :=
  s.thumbArith rd (subtract (s.low rn) (imm3 imm))

/-- SUB(2) (R605). -/
def execTSubImm8 (rd : LowReg) (imm : Byte) (s : State) : Result := s.thumbArith rd (subtract (s.low rd) (imm8 imm))

/-- SUB(3) (R606). -/
def execTSubReg (rm rn rd : LowReg) (s : State) : Result := s.thumbArith rd (subtract (s.low rn) (s.low rm))

/-- SUB(4) (R607). -/
def execTDecSp (imm : BitVec 7) (s : State) : Result := (s.setReg 13 (s.reg 13 - (imm.zeroExtend 32 <<< 2))).advance

/-- ADC (R608). -/
def execTAdc (rm rd : LowReg) (s : State) : Result := s.thumbArith rd (addWithCarry (s.low rd) (s.low rm) s.flagC)

/-- SBC (R609). -/
def execTSbc (rm rd : LowReg) (s : State) : Result := s.thumbArith rd (addWithCarry (s.low rd) (~~~s.low rm) s.flagC)

/-- NEG (R610). -/
def execTNeg (rm rd : LowReg) (s : State) : Result := s.thumbArith rd (subtract 0 (s.low rm))

/-- MUL (R611): C and V stay. -/
def execTMul (rm rd : LowReg) (s : State) : Result := s.thumbLogic rd (s.low rm * s.low rd)

/-! Moves and compares. -/

/-- MOV(1) (R612). -/
def execTMovImm (rd : LowReg) (imm : Byte) (s : State) : Result := s.thumbLogic rd (imm8 imm)

/-- MOV(3) (R614): no flags; Rd = 15 branches. -/
def execTMovHigh (h1 h2 : Bool) (rm rd : LowReg) (s : State) : Result :=
  let v := s.reg (highReg h2 rm)
  if highReg h1 rd = 15 then s.jumpResult v else (s.setReg (highReg h1 rd) v).advance

/-- MVN (R615). -/
def execTMvn (rm rd : LowReg) (s : State) : Result := s.thumbLogic rd (~~~s.low rm)

/-- CMP(1) (R616). -/
def execTCmpImm (rn : LowReg) (imm : Byte) (s : State) : Result := s.thumbCompare (subtract (s.low rn) (imm8 imm))

/-- CMP(2) (R617). -/
def execTCmpReg (rm rn : LowReg) (s : State) : Result := s.thumbCompare (subtract (s.low rn) (s.low rm))

/-- CMP(3) (R618). -/
def execTCmpHigh (h1 h2 : Bool) (rm rn : LowReg) (s : State) : Result :=
  s.thumbCompare (subtract (s.reg (highReg h1 rn)) (s.reg (highReg h2 rm)))

/-- CMN (R619). -/
def execTCmn (rm rn : LowReg) (s : State) : Result := s.thumbCompare (addWithCarry (s.low rn) (s.low rm) false)

/-- TST (R620). -/
def execTTst (rm rn : LowReg) (s : State) : Result :=
  let v := s.low rn &&& s.low rm
  (s.setNz v.msb (v == 0)).advance

/-! Logic. -/

/-- AND (R621). -/
def execTAnd (rm rd : LowReg) (s : State) : Result := s.thumbLogic rd (s.low rd &&& s.low rm)

/-- EOR (R622). -/
def execTEor (rm rd : LowReg) (s : State) : Result := s.thumbLogic rd (s.low rd ^^^ s.low rm)

/-- ORR (R623). -/
def execTOrr (rm rd : LowReg) (s : State) : Result := s.thumbLogic rd (s.low rd ||| s.low rm)

/-- BIC (R624). -/
def execTBic (rm rd : LowReg) (s : State) : Result := s.thumbLogic rd (s.low rd &&& ~~~s.low rm)

end Sys2Proof.Machine
end

