-- ==== Sys2Proof/Machine/ThumbMem.lean ====
section
/-! DEFINITION. The Thumb loads and stores, as their ARM equivalents (46_thumb.md R625-R645, R582). -/

namespace Sys2Proof.Machine

/-- An address without write-back. -/
def plainAddress (va : Word) : Address := { va := va, newBase := none }

/-- A word load; an unaligned word is rotated (R582). -/
def State.thumbLdr (s : State) (va : Word) (rd : LowReg) : Result :=
  s.loadSingle (plainAddress va) 0 rd.reg .word s.privileged (rotateRead va)

/-- A byte load. -/
def State.thumbLdrb (s : State) (va : Word) (rd : LowReg) (conv : Word → Word) : Result :=
  s.loadSingle (plainAddress va) 0 rd.reg .byte s.privileged conv

/-- A halfword load; an odd address without the alignment check is refused (93 U8). -/
def State.thumbLdrh (s : State) (va : Word) (rd : LowReg) (conv : Word → Word) : Result :=
  if s.oddHalf va then .refused .unpredictableAlignment
  else s.loadSingle (plainAddress va) 0 rd.reg .half s.privileged conv

/-- A word store. -/
def State.thumbStr (s : State) (va : Word) (rd : LowReg) : Result :=
  s.storeSingle (plainAddress va) 0 .word s.privileged (s.low rd)

/-- A byte store. -/
def State.thumbStrb (s : State) (va : Word) (rd : LowReg) : Result :=
  s.storeSingle (plainAddress va) 0 .byte s.privileged (s.low rd)

/-- A halfword store. -/
def State.thumbStrh (s : State) (va : Word) (rd : LowReg) : Result :=
  if s.oddHalf va then .refused .unpredictableAlignment
  else s.storeSingle (plainAddress va) 0 .half s.privileged (s.low rd)

/-- LDR(1) (R625); LDR in DEBUG mode with an offset that is no RRX is allowed (93 U42). -/
def execTLdrImm (imm : BitVec 5) (rn rd : LowReg) (s : State) : Result := s.thumbLdr (s.low rn + (imm5 imm <<< 2)) rd

/-- LDR(2) (R626). -/
def execTLdrReg (rm rn rd : LowReg) (s : State) : Result := s.thumbLdr (s.low rn + s.low rm) rd

/-- LDR(3) (R627). -/
def execTLdrPc (rd : LowReg) (imm : Byte) (s : State) : Result :=
  s.thumbLdr ((s.pcRead &&& 0xFFFFFFFC) + (imm8 imm <<< 2)) rd

/-- LDR(4) (R628). -/
def execTLdrSp (rd : LowReg) (imm : Byte) (s : State) : Result := s.thumbLdr (s.reg 13 + (imm8 imm <<< 2)) rd

/-- LDRB(1) (R629). -/
def execTLdrbImm (imm : BitVec 5) (rn rd : LowReg) (s : State) : Result := s.thumbLdrb (s.low rn + imm5 imm) rd id

/-- LDRB(2) (R630). -/
def execTLdrbReg (rm rn rd : LowReg) (s : State) : Result := s.thumbLdrb (s.low rn + s.low rm) rd id

/-- LDRH(1) (R631). -/
def execTLdrhImm (imm : BitVec 5) (rn rd : LowReg) (s : State) : Result :=
  s.thumbLdrh (s.low rn + (imm5 imm <<< 1)) rd id

/-- LDRH(2) (R632). -/
def execTLdrhReg (rm rn rd : LowReg) (s : State) : Result := s.thumbLdrh (s.low rn + s.low rm) rd id

/-- LDRSB (R633). -/
def execTLdrsb (rm rn rd : LowReg) (s : State) : Result := s.thumbLdrb (s.low rn + s.low rm) rd signByte

/-- LDRSH (R634). -/
def execTLdrsh (rm rn rd : LowReg) (s : State) : Result := s.thumbLdrh (s.low rn + s.low rm) rd signHalf

/-- STR(1) (R635). -/
def execTStrImm (imm : BitVec 5) (rn rd : LowReg) (s : State) : Result := s.thumbStr (s.low rn + (imm5 imm <<< 2)) rd

/-- STR(2) (R636). -/
def execTStrReg (rm rn rd : LowReg) (s : State) : Result := s.thumbStr (s.low rn + s.low rm) rd

/-- STR(3) (R637). -/
def execTStrSp (rd : LowReg) (imm : Byte) (s : State) : Result := s.thumbStr (s.reg 13 + (imm8 imm <<< 2)) rd

/-- STRB(1) (R638). -/
def execTStrbImm (imm : BitVec 5) (rn rd : LowReg) (s : State) : Result := s.thumbStrb (s.low rn + imm5 imm) rd

/-- STRB(2) (R639). -/
def execTStrbReg (rm rn rd : LowReg) (s : State) : Result := s.thumbStrb (s.low rn + s.low rm) rd

/-- STRH(1) (R640). -/
def execTStrhImm (imm : BitVec 5) (rn rd : LowReg) (s : State) : Result := s.thumbStrh (s.low rn + (imm5 imm <<< 1)) rd

/-- STRH(2) (R641). -/
def execTStrhReg (rm rn rd : LowReg) (s : State) : Result := s.thumbStrh (s.low rn + s.low rm) rd

/-! Multiple transfers. -/

/-- A list of low registers. -/
def lowList (list : Byte) : BitVec 16 := list.zeroExtend 16

/-- A list of low registers and one more. -/
def lowListWith (r : Bool) (n : Reg) (list : Byte) : BitVec 16 := if r then addReg n (lowList list) else lowList list

/-- A Thumb load multiple, with the refusals of LDM (R582; 93 U34, U42). -/
def State.thumbLdm (s : State) (w : Bool) (rn : Reg) (list : BitVec 16) : Result :=
  if s.mode == .dbg then .refused .notInDebugMode
  else if list == 0 then .refused .unpredictableOperands
  else s.loadMultiple .ia w rn list s.mode finishLdm

/-- LDMIA (R642): no write-back with the base in the list. -/
def execTLdmia (rn : LowReg) (list : Byte) (s : State) : Result :=
  s.thumbLdm (!bitAt list rn.toNat) rn.reg (lowList list)

/-- STMIA (R643). -/
def execTStmia (rn : LowReg) (list : Byte) (s : State) : Result :=
  if list == 0 then .refused .unpredictableOperands
  else s.storeMultiple .ia true rn.reg (lowList list) s.mode

/-- PUSH (R644). -/
def execTPush (r : Bool) (list : Byte) (s : State) : Result :=
  if lowListWith r 14 list == 0 then .refused .unpredictableOperands
  else s.storeMultiple .db true 13 (lowListWith r 14 list) s.mode

/-- POP (R645). -/
def execTPop (r : Bool) (list : Byte) (s : State) : Result := s.thumbLdm true 13 (lowListWith r 15 list)

end Sys2Proof.Machine
end

