-- ==== Sys2Proof/Machine/Dispatch.lean ====
section
/-! DEFINITION. One arm for each instruction (spec/opcode_table.json, in its order). -/

namespace Sys2Proof.Machine

/-- The meaning of an instruction in a state. -/
def exec (i : Instr) (s : State) : Host.Outcome State Fault Refusal :=
  match i with
  | .pld u rn off bit4 => Sys2Proof.Machine.execPld u rn off bit4 s
  | .blxImm h imm24 => Sys2Proof.Machine.execBlxImm h imm24 s
  | .undefUncond low => Sys2Proof.Machine.execUndefUncond low s
  | .bkpt immHi immLo => Sys2Proof.Machine.execBkpt immHi immLo s
  | .undefBkptCond c immHi immLo => Sys2Proof.Machine.execUndefBkptCond c immHi immLo s
  | .mrs c r rd => Sys2Proof.Machine.execMrs c r rd s
  | .msrReg c r mask rm => Sys2Proof.Machine.execMsrReg c r mask rm s
  | .bx c rm => Sys2Proof.Machine.execBx c rm s
  | .blxReg c rm => Sys2Proof.Machine.execBlxReg c rm s
  | .clz c rd rm => Sys2Proof.Machine.execClz c rd rm s
  | .qadd c rn rd rm => Sys2Proof.Machine.execQadd c rn rd rm s
  | .qsub c rn rd rm => Sys2Proof.Machine.execQsub c rn rd rm s
  | .qdadd c rn rd rm => Sys2Proof.Machine.execQdadd c rn rd rm s
  | .qdsub c rn rd rm => Sys2Proof.Machine.execQdsub c rn rd rm s
  | .smlaxy c rd rn rs y x rm => Sys2Proof.Machine.execSmlaxy c rd rn rs y x rm s
  | .smlawy c rd rn rs y rm => Sys2Proof.Machine.execSmlawy c rd rn rs y rm s
  | .smulwy c rd sbz rs y rm => Sys2Proof.Machine.execSmulwy c rd sbz rs y rm s
  | .smlalxy c rdHi rdLo rs y x rm => Sys2Proof.Machine.execSmlalxy c rdHi rdLo rs y x rm s
  | .smulxy c rd sbz rs y x rm => Sys2Proof.Machine.execSmulxy c rd sbz rs y x rm s
  | .mul c sf rd sbz rs rm => Sys2Proof.Machine.execMul c sf rd sbz rs rm s
  | .mla c sf rd rn rs rm => Sys2Proof.Machine.execMla c sf rd rn rs rm s
  | .umull c sf rdHi rdLo rs rm => Sys2Proof.Machine.execUmull c sf rdHi rdLo rs rm s
  | .umlal c sf rdHi rdLo rs rm => Sys2Proof.Machine.execUmlal c sf rdHi rdLo rs rm s
  | .smull c sf rdHi rdLo rs rm => Sys2Proof.Machine.execSmull c sf rdHi rdLo rs rm s
  | .smlal c sf rdHi rdLo rs rm => Sys2Proof.Machine.execSmlal c sf rdHi rdLo rs rm s
  | .swp c rn rd rm => Sys2Proof.Machine.execSwp c rn rd rm s
  | .swpb c rn rd rm => Sys2Proof.Machine.execSwpb c rn rd rm s
  | .strh c ix u rn rd off => Sys2Proof.Machine.execStrh c ix u rn rd off s
  | .ldrd c ix u rn rd off => Sys2Proof.Machine.execLdrd c ix u rn rd off s
  | .strd c ix u rn rd off => Sys2Proof.Machine.execStrd c ix u rn rd off s
  | .ldrh c ix u rn rd off => Sys2Proof.Machine.execLdrh c ix u rn rd off s
  | .ldrsb c ix u rn rd off => Sys2Proof.Machine.execLdrsb c ix u rn rd off s
  | .ldrsh c ix u rn rd off => Sys2Proof.Machine.execLdrsh c ix u rn rd off s
  | .undefMulSpace c low => Sys2Proof.Machine.execUndefMulSpace c low s
  | .undefArch c low => Sys2Proof.Machine.execUndefArch c low s
  | .mia c rs rm => Sys2Proof.Machine.execMia c rs rm s
  | .miaph c rs rm => Sys2Proof.Machine.execMiaph c rs rm s
  | .miabb c rs rm => Sys2Proof.Machine.execMiabb c rs rm s
  | .miabt c rs rm => Sys2Proof.Machine.execMiabt c rs rm s
  | .miatb c rs rm => Sys2Proof.Machine.execMiatb c rs rm s
  | .miatt c rs rm => Sys2Proof.Machine.execMiatt c rs rm s
  | .mar c rdHi rdLo => Sys2Proof.Machine.execMar c rdHi rdLo s
  | .mra c rdHi rdLo => Sys2Proof.Machine.execMra c rdHi rdLo s
  | .cp0TransferOther c l rn rd low => Sys2Proof.Machine.execCp0TransferOther c l rn rd low s
  | .cp0Other c op1 bit20 crn rd op2 bit4 crm => Sys2Proof.Machine.execCp0Other c op1 bit20 crn rd op2 bit4 crm s
  | .mcrr c rn rd cp op crm => Sys2Proof.Machine.execMcrr c rn rd cp op crm s
  | .mrrc c rn rd cp op crm => Sys2Proof.Machine.execMrrc c rn rd cp op crm s
  | .undefLdcStc c l low => Sys2Proof.Machine.execUndefLdcStc c l low s
  | .ldc c p u n w rn crd cp off => Sys2Proof.Machine.execLdc c p u n w rn crd cp off s
  | .stc c p u n w rn crd cp off => Sys2Proof.Machine.execStc c p u n w rn crd cp off s
  | .cdp c op1 crn crd cp op2 crm => Sys2Proof.Machine.execCdp c op1 crn crd cp op2 crm s
  | .invIDCacheBtb c rd => Sys2Proof.Machine.execInvIDCacheBtb c rd s
  | .invICacheBtb c rd => Sys2Proof.Machine.execInvICacheBtb c rd s
  | .invICacheLine c rd => Sys2Proof.Machine.execInvICacheLine c rd s
  | .invDCache c rd => Sys2Proof.Machine.execInvDCache c rd s
  | .invDCacheLine c rd => Sys2Proof.Machine.execInvDCacheLine c rd s
  | .cleanDCacheLine c rd => Sys2Proof.Machine.execCleanDCacheLine c rd s
  | .drainWriteBuffer c rd => Sys2Proof.Machine.execDrainWriteBuffer c rd s
  | .invBtb c rd => Sys2Proof.Machine.execInvBtb c rd s
  | .allocDCacheLine c rd => Sys2Proof.Machine.execAllocDCacheLine c rd s
  | .invIDTlb c rd => Sys2Proof.Machine.execInvIDTlb c rd s
  | .invITlb c rd => Sys2Proof.Machine.execInvITlb c rd s
  | .invITlbEntry c rd => Sys2Proof.Machine.execInvITlbEntry c rd s
  | .invDTlb c rd => Sys2Proof.Machine.execInvDTlb c rd s
  | .invDTlbEntry c rd => Sys2Proof.Machine.execInvDTlbEntry c rd s
  | .lockICacheLine c rd => Sys2Proof.Machine.execLockICacheLine c rd s
  | .unlockICache c rd => Sys2Proof.Machine.execUnlockICache c rd s
  | .readDCacheLock c rd => Sys2Proof.Machine.execReadDCacheLock c rd s
  | .writeDCacheLock c rd => Sys2Proof.Machine.execWriteDCacheLock c rd s
  | .unlockDCache c rd => Sys2Proof.Machine.execUnlockDCache c rd s
  | .lockITlbEntry c rd => Sys2Proof.Machine.execLockITlbEntry c rd s
  | .lockDTlbEntry c rd => Sys2Proof.Machine.execLockDTlbEntry c rd s
  | .unlockITlb c rd => Sys2Proof.Machine.execUnlockITlb c rd s
  | .unlockDTlb c rd => Sys2Proof.Machine.execUnlockDTlb c rd s
  | .mcr c op1 crn rd cp op2 crm => Sys2Proof.Machine.execMcr c op1 crn rd cp op2 crm s
  | .mrc c op1 crn rd cp op2 crm => Sys2Proof.Machine.execMrc c op1 crn rd cp op2 crm s
  | .swi c imm24 => Sys2Proof.Machine.execSwi c imm24 s
  | .b c imm24 => Sys2Proof.Machine.execB c imm24 s
  | .bl c imm24 => Sys2Proof.Machine.execBl c imm24 s
  | .ldm c m w rn list => Sys2Proof.Machine.execLdm c m w rn list s
  | .ldmUser c m w rn list => Sys2Proof.Machine.execLdmUser c m w rn list s
  | .ldmRet c m w rn list => Sys2Proof.Machine.execLdmRet c m w rn list s
  | .stm c m w rn list => Sys2Proof.Machine.execStm c m w rn list s
  | .stmUser c m w rn list => Sys2Proof.Machine.execStmUser c m w rn list s
  | .ldrt c u rn rd off => Sys2Proof.Machine.execLdrt c u rn rd off s
  | .ldrbt c u rn rd off => Sys2Proof.Machine.execLdrbt c u rn rd off s
  | .strt c u rn rd off => Sys2Proof.Machine.execStrt c u rn rd off s
  | .strbt c u rn rd off => Sys2Proof.Machine.execStrbt c u rn rd off s
  | .ldr c ix u rn rd off => Sys2Proof.Machine.execLdr c ix u rn rd off s
  | .ldrb c ix u rn rd off => Sys2Proof.Machine.execLdrb c ix u rn rd off s
  | .str c ix u rn rd off => Sys2Proof.Machine.execStr c ix u rn rd off s
  | .strb c ix u rn rd off => Sys2Proof.Machine.execStrb c ix u rn rd off s
  | .msrImm c r mask rotate immed => Sys2Proof.Machine.execMsrImm c r mask rotate immed s
  | .and c sf rn rd op2 => Sys2Proof.Machine.execAnd c sf rn rd op2 s
  | .eor c sf rn rd op2 => Sys2Proof.Machine.execEor c sf rn rd op2 s
  | .sub c sf rn rd op2 => Sys2Proof.Machine.execSub c sf rn rd op2 s
  | .rsb c sf rn rd op2 => Sys2Proof.Machine.execRsb c sf rn rd op2 s
  | .add c sf rn rd op2 => Sys2Proof.Machine.execAdd c sf rn rd op2 s
  | .adc c sf rn rd op2 => Sys2Proof.Machine.execAdc c sf rn rd op2 s
  | .sbc c sf rn rd op2 => Sys2Proof.Machine.execSbc c sf rn rd op2 s
  | .rsc c sf rn rd op2 => Sys2Proof.Machine.execRsc c sf rn rd op2 s
  | .tst c rn rd op2 => Sys2Proof.Machine.execTst c rn rd op2 s
  | .teq c rn rd op2 => Sys2Proof.Machine.execTeq c rn rd op2 s
  | .cmp c rn rd op2 => Sys2Proof.Machine.execCmp c rn rd op2 s
  | .cmn c rn rd op2 => Sys2Proof.Machine.execCmn c rn rd op2 s
  | .orr c sf rn rd op2 => Sys2Proof.Machine.execOrr c sf rn rd op2 s
  | .mov c sf sbz rd op2 => Sys2Proof.Machine.execMov c sf sbz rd op2 s
  | .bic c sf rn rd op2 => Sys2Proof.Machine.execBic c sf rn rd op2 s
  | .mvn c sf sbz rd op2 => Sys2Proof.Machine.execMvn c sf sbz rd op2 s
  | .undefRest c low => Sys2Proof.Machine.execUndefRest c low s
  | .tBx h2 rm => Sys2Proof.Machine.execTBx h2 rm s
  | .tBlxReg h2 rm => Sys2Proof.Machine.execTBlxReg h2 rm s
  | .tLslImm imm rm rd => Sys2Proof.Machine.execTLslImm imm rm rd s
  | .tLsrImm imm rm rd => Sys2Proof.Machine.execTLsrImm imm rm rd s
  | .tAsrImm imm rm rd => Sys2Proof.Machine.execTAsrImm imm rm rd s
  | .tAddReg rm rn rd => Sys2Proof.Machine.execTAddReg rm rn rd s
  | .tSubReg rm rn rd => Sys2Proof.Machine.execTSubReg rm rn rd s
  | .tAddImm3 imm rn rd => Sys2Proof.Machine.execTAddImm3 imm rn rd s
  | .tSubImm3 imm rn rd => Sys2Proof.Machine.execTSubImm3 imm rn rd s
  | .tMovImm rd imm => Sys2Proof.Machine.execTMovImm rd imm s
  | .tCmpImm rn imm => Sys2Proof.Machine.execTCmpImm rn imm s
  | .tAddImm8 rd imm => Sys2Proof.Machine.execTAddImm8 rd imm s
  | .tSubImm8 rd imm => Sys2Proof.Machine.execTSubImm8 rd imm s
  | .tAnd rm rd => Sys2Proof.Machine.execTAnd rm rd s
  | .tEor rm rd => Sys2Proof.Machine.execTEor rm rd s
  | .tLslReg rs rd => Sys2Proof.Machine.execTLslReg rs rd s
  | .tLsrReg rs rd => Sys2Proof.Machine.execTLsrReg rs rd s
  | .tAsrReg rs rd => Sys2Proof.Machine.execTAsrReg rs rd s
  | .tAdc rm rd => Sys2Proof.Machine.execTAdc rm rd s
  | .tSbc rm rd => Sys2Proof.Machine.execTSbc rm rd s
  | .tRor rs rd => Sys2Proof.Machine.execTRor rs rd s
  | .tTst rm rn => Sys2Proof.Machine.execTTst rm rn s
  | .tNeg rm rd => Sys2Proof.Machine.execTNeg rm rd s
  | .tCmpReg rm rn => Sys2Proof.Machine.execTCmpReg rm rn s
  | .tCmn rm rn => Sys2Proof.Machine.execTCmn rm rn s
  | .tOrr rm rd => Sys2Proof.Machine.execTOrr rm rd s
  | .tMul rm rd => Sys2Proof.Machine.execTMul rm rd s
  | .tBic rm rd => Sys2Proof.Machine.execTBic rm rd s
  | .tMvn rm rd => Sys2Proof.Machine.execTMvn rm rd s
  | .tAddHigh h1 h2 rm rd => Sys2Proof.Machine.execTAddHigh h1 h2 rm rd s
  | .tCmpHigh h1 h2 rm rn => Sys2Proof.Machine.execTCmpHigh h1 h2 rm rn s
  | .tMovHigh h1 h2 rm rd => Sys2Proof.Machine.execTMovHigh h1 h2 rm rd s
  | .tLdrPc rd imm => Sys2Proof.Machine.execTLdrPc rd imm s
  | .tStrReg rm rn rd => Sys2Proof.Machine.execTStrReg rm rn rd s
  | .tStrhReg rm rn rd => Sys2Proof.Machine.execTStrhReg rm rn rd s
  | .tStrbReg rm rn rd => Sys2Proof.Machine.execTStrbReg rm rn rd s
  | .tLdrsb rm rn rd => Sys2Proof.Machine.execTLdrsb rm rn rd s
  | .tLdrReg rm rn rd => Sys2Proof.Machine.execTLdrReg rm rn rd s
  | .tLdrhReg rm rn rd => Sys2Proof.Machine.execTLdrhReg rm rn rd s
  | .tLdrbReg rm rn rd => Sys2Proof.Machine.execTLdrbReg rm rn rd s
  | .tLdrsh rm rn rd => Sys2Proof.Machine.execTLdrsh rm rn rd s
  | .tStrImm imm rn rd => Sys2Proof.Machine.execTStrImm imm rn rd s
  | .tLdrImm imm rn rd => Sys2Proof.Machine.execTLdrImm imm rn rd s
  | .tStrbImm imm rn rd => Sys2Proof.Machine.execTStrbImm imm rn rd s
  | .tLdrbImm imm rn rd => Sys2Proof.Machine.execTLdrbImm imm rn rd s
  | .tStrhImm imm rn rd => Sys2Proof.Machine.execTStrhImm imm rn rd s
  | .tLdrhImm imm rn rd => Sys2Proof.Machine.execTLdrhImm imm rn rd s
  | .tStrSp rd imm => Sys2Proof.Machine.execTStrSp rd imm s
  | .tLdrSp rd imm => Sys2Proof.Machine.execTLdrSp rd imm s
  | .tAddPc rd imm => Sys2Proof.Machine.execTAddPc rd imm s
  | .tAddSp rd imm => Sys2Proof.Machine.execTAddSp rd imm s
  | .tIncSp imm => Sys2Proof.Machine.execTIncSp imm s
  | .tDecSp imm => Sys2Proof.Machine.execTDecSp imm s
  | .tPush r list => Sys2Proof.Machine.execTPush r list s
  | .tPop r list => Sys2Proof.Machine.execTPop r list s
  | .tBkpt imm => Sys2Proof.Machine.execTBkpt imm s
  | .tUndefMisc low => Sys2Proof.Machine.execTUndefMisc low s
  | .tStmia rn list => Sys2Proof.Machine.execTStmia rn list s
  | .tLdmia rn list => Sys2Proof.Machine.execTLdmia rn list s
  | .tUndefDE imm => Sys2Proof.Machine.execTUndefDE imm s
  | .tSwi imm => Sys2Proof.Machine.execTSwi imm s
  | .tBCond c imm => Sys2Proof.Machine.execTBCond c imm s
  | .tB imm => Sys2Proof.Machine.execTB imm s
  | .tUndefBlx imm => Sys2Proof.Machine.execTUndefBlx imm s
  | .tBlxSuffix imm => Sys2Proof.Machine.execTBlxSuffix imm s
  | .tBlHead imm => Sys2Proof.Machine.execTBlHead imm s
  | .tBlSuffix imm => Sys2Proof.Machine.execTBlSuffix imm s
  | .tUndefRest low => Sys2Proof.Machine.execTUndefRest low s

end Sys2Proof.Machine
end

