-- ==== Sys2Proof/Machine/Jtag.lean ====
section
/-! DEFINITION. The JTAG port: the TAP controller, the scan registers, the debug registers behind them and the download of
instruction cache lines (61_debug_and_jtag.md R830-R866). -/

namespace Sys2Proof.Machine

/-- Writes the JTAG side. -/
def State.setJtag (s : State) (j : Jtag) : State := { s with jtag := j }

/-! The TAP controller (R832). -/

/-- The next state of the TAP controller (R832). -/
def TapState.next (tms : Bool) : TapState → TapState
  | .testLogicReset => if tms then .testLogicReset else .runTestIdle
  | .runTestIdle => if tms then .selectDr else .runTestIdle
  | .selectDr => if tms then .selectIr else .captureDr
  | .captureDr => if tms then .exit1Dr else .shiftDr
  | .shiftDr => if tms then .exit1Dr else .shiftDr
  | .exit1Dr => if tms then .updateDr else .pauseDr
  | .pauseDr => if tms then .exit2Dr else .pauseDr
  | .exit2Dr => if tms then .updateDr else .shiftDr
  | .updateDr => if tms then .selectDr else .runTestIdle
  | .selectIr => if tms then .testLogicReset else .captureIr
  | .captureIr => if tms then .exit1Ir else .shiftIr
  | .shiftIr => if tms then .exit1Ir else .shiftIr
  | .exit1Ir => if tms then .updateIr else .pauseIr
  | .pauseIr => if tms then .exit2Ir else .pauseIr
  | .exit2Ir => if tms then .updateIr else .shiftIr
  | .updateIr => if tms then .selectDr else .runTestIdle

/-! Instructions (R834, R836). -/

/-- The data register an instruction selects. -/
inductive DataReg where
  | bypass | boundary | ident | dcsr | dbgtx | dbgrx | ldic
  deriving DecidableEq, Repr

/-- The data register of an instruction code (R834, R836); private and unused codes are treated as bypass, which 93 U45
allows (log entry 52). -/
def DataReg.ofCode (ir : BitVec 5) : DataReg :=
  match ir with
  | 0b00000 => .boundary | 0b00001 => .boundary | 0b00010 => .dbgrx | 0b00111 => .ldic
  | 0b01001 => .dcsr | 0b10000 => .dbgtx | 0b11110 => .ident | _ => .bypass

/-- The code of ldic (R862). -/
def ldicInstr : BitVec 5 := 0b00111

/-- The device identification code (R839, 92 D5). -/
def jtagIdcode : BitVec 32 := Config.jtagIdcodeHigh ++ 1#1

/-- The selected data register. -/
def State.dataReg (s : State) : DataReg := DataReg.ofCode s.jtag.ir

/-! Capture-DR. -/

/-- SELDCSR (R842): DBG_SR[34:3] = DCSR, [2:1] = 0b01; [35], [0] and the reserved bits of DCSR are free values (93 U23). -/
def State.captureDcsr (s : State) : State :=
  let r := s.readMasked 0xC0DF003F s.cp14.dcsr
  let f := s.free 1
  (r.2.consume 1).setJtag { s.jtag with dbgSr := field f 0 1 ++ r.1 ++ 0b01#2 ++ field f 1 1 }

/-- DBGTX (R845): TX and TR; a captured TR is cleared (92 D33); the other bits are free values (93 U23). -/
def State.captureTx (s : State) : State :=
  let f := s.free 0
  let tr := bitAt s.cp14.txrxctrl 28
  ((s.consume 1).setJtag { s.jtag with dbgSr := field f 0 1 ++ s.cp14.tx ++ field f 1 2 ++ BitVec.ofBool tr }).setCp14
    { s.cp14 with txrxctrl := setBit 28 false s.cp14.txrxctrl }

/-- DBGRX (R846): RR; the other bits are free values (93 U23). -/
def State.captureRx (s : State) : State :=
  (s.consume 2).setJtag
    { s.jtag with dbgSr := field (s.free 0) 0 3 ++ s.free 1 ++ BitVec.ofBool (bitAt s.cp14.txrxctrl 31) }

/-- The selected register loads its parallel input (R832, R836, R837, R862); LDIC_SR1 gets a free value. -/
def State.captureDr (s : State) : State :=
  match s.dataReg with
  | .bypass => s.setJtag { s.jtag with bypass := 0 }
  | .boundary => s
  | .ident => s.setJtag { s.jtag with idShift := jtagIdcode }
  | .dcsr => s.captureDcsr
  | .dbgtx => s.captureTx
  | .dbgrx => s.captureRx
  | .ldic => (s.consume 2).setJtag { s.jtag with ldicSr := field (s.free 0) 0 1 ++ s.free 1 }

/-! Shift-DR. -/

/-- One shift towards bit 0, a new bit at the top. -/
def shiftIn {n : Nat} (tdi : Bool) (w : BitVec n) : BitVec n := (w >>> 1) ||| (BitVec.ofNat n tdi.toNat <<< (n - 1))

/-- The selected register shifts (R832); the boundary-scan register is outside the model (91 N10).  What enters the
identification register is free and not TDI (R836). -/
def State.shiftDr (s : State) (tdi : Bool) : State :=
  match s.dataReg with
  | .bypass => s.setJtag { s.jtag with bypass := shiftIn tdi s.jtag.bypass }
  | .boundary => s
  | .ident => (s.consume 1).setJtag { s.jtag with idShift := shiftIn (bitAt (s.free 0) 0) s.jtag.idShift }
  | .dcsr => s.setJtag { s.jtag with dbgSr := shiftIn tdi s.jtag.dbgSr }
  | .dbgtx => s.setJtag { s.jtag with dbgSr := shiftIn tdi s.jtag.dbgSr }
  | .dbgrx => s.setJtag { s.jtag with dbgSr := shiftIn tdi s.jtag.dbgSr }
  | .ldic => s.setJtag { s.jtag with ldicSr := shiftIn tdi s.jtag.ldicSr }

/-! Update-DR. -/

/-- SELDCSR (R842-R844): hold_rst, the external debug break and the JTAG-writable bits of DCSR; hold_rst set while the
reset pin is not asserted is refused (93 U48). -/
def State.updateDcsr (s : State) : Except Refusal State :=
  let sr := s.jtag.dbgSr
  if bitAt sr 1 && !s.jtag.resetPin && !s.jtag.holdRst then .error .holdWithoutReset
  else
    let s := s.setJtag { s.jtag with dbgReg := field sr 1 35, holdRst := bitAt sr 1 }
    let s := { s with pending := { s.pending with extBreak := s.pending.extBreak || bitAt sr 2 } }
    .ok (s.setCp14 { s.cp14 with dcsr := merge jtagDcsrMask s.cp14.dcsr (field sr 3 32) })

/-- The RX write logic (R847, 92 D36). -/
def rxWrite (sr : BitVec 36) (c : Cp14) : Cp14 :=
  let t := setBit 29 (bitAt sr 2) c.txrxctrl
  let t := if bitAt sr 1 then setBit 31 false t else t
  if bitAt sr 35 then
    { c with rx := field sr 3 32, txrxctrl := setBit 31 true (if bitAt t 31 then setBit 30 true t else t) }
  else { c with txrxctrl := t }

/-- DBGRX (R846, R847). -/
def State.updateRx (s : State) : State :=
  let sr := s.jtag.dbgSr
  (s.setJtag { s.jtag with dbgReg := field sr 1 35 &&& 0x3FFFFFFFF }).setCp14 (rxWrite sr s.cp14)

/-- DBGTX: nothing of the core changes (R845). -/
def State.updateTx (s : State) : State := s.setJtag { s.jtag with dbgReg := field s.jtag.dbgSr 1 35 }

/-- A downloaded line goes into the mini instruction cache, at the way its pointer selects (R863). -/
def State.fillMiniIcache (s : State) (l : BitVec 27) (data : LineData) : State :=
  let set := lineSet l
  let way := s.miniICache.rr[set.toFin]
  { s with miniICache :=
    { lines := sparsePut s.miniICache.lines (2 * set.toNat + way.toNat)
        { tag := lineTag l, valid := true, locked := false, data := data, badParity := 0, downloaded := true,
          byLock := false }
      rr := s.miniICache.rr.set set.toFin (way + 1) } }

/-- A line of either instruction cache is valid at an address (R866). -/
def State.lineInIcaches (s : State) (l : BitVec 27) : Bool :=
  (findIline 2 l s.miniICache.lines).isSome || (findIline 32 l s.icache.lines).isSome

/-- The bytes of a downloaded line, its words in ascending order (R864). -/
def lineOfWords (ws : List Word) : LineData :=
  Vector.ofFn (fun i : Fin 32 => byteOf (ws[i.val / 4]?.getD 0) (i.val % 4))

/-- Writes the load in progress. -/
def State.setLdic (s : State) (l : Option LdicLoad) : State := s.setJtag { s.jtag with ldic := l }

/-- The first packet of a function (R863, R864), whose bits [5:3] are ignored (log entry 72); a reserved function (93 U46) and
a load of a line that is valid already (93 U47) are refused. -/
def State.ldicStart (s : State) (sr : BitVec 33) : Except Refusal State :=
  let l : BitVec 27 := field sr 6 27
  match field sr 0 3 with
  | 0 => .ok (s.invalidateIcacheLine l)
  | 1 => .ok { s with miniICache := { s.miniICache with lines := [] } }
  | 2 => if s.lineInIcaches l then .error .ldicOverwrite else .ok (s.setLdic (some { mini := false, line := l, words := [] }))
  | 3 => if s.lineInIcaches l then .error .ldicOverwrite else .ok (s.setLdic (some { mini := true, line := l, words := [] }))
  | _ => .error .ldicProtocol

/-- A data packet of a load (R864); the eighth writes the line (R863), which is refused where a fetch has made it valid since
the first packet (R866, 93 U47).  Parity is ignored (R865, 92 D20). -/
def State.ldicData (s : State) (d : LdicLoad) (w : Word) : Except Refusal State :=
  let ws := d.words ++ [w]
  if ws.length = 8 then
    if s.lineInIcaches d.line then .error .ldicOverwrite
    else
      let s := s.setLdic none
      .ok (if d.mini then s.fillMiniIcache d.line (lineOfWords ws) else s.fillIcache false true d.line (lineOfWords ws))
  else .ok (s.setLdic (some { d with words := ws }))

/-- LDIC (R862): LDIC_SR1 goes to LDIC_REG and on to LDIC_SR2, and the packet is delivered. -/
def State.updateLdic (s : State) : Except Refusal State :=
  let s := s.setJtag { s.jtag with tcksSinceLdic := 0, ldicReg := s.jtag.ldicSr, ldicSr2 := s.jtag.ldicSr }
  match s.jtag.ldic with
  | none => s.ldicStart s.jtag.ldicSr2
  | some d => s.ldicData d (field s.jtag.ldicSr2 0 32)

/-- The selected register reaches its parallel output. -/
def State.updateDr (s : State) : Except Refusal State :=
  match s.dataReg with
  | .bypass => .ok s
  | .boundary => .ok s
  | .ident => .ok s
  | .dcsr => s.updateDcsr
  | .dbgtx => .ok s.updateTx
  | .dbgrx => .ok s.updateRx
  | .ldic => s.updateLdic

/-! The instruction register (R833, R835). -/

/-- A new instruction; leaving LDIC within a load or within 15 TCKs of its last packet is refused (93 U46). -/
def State.latchIr (s : State) (ir : BitVec 5) : Except Refusal State :=
  if s.jtag.ir == ldicInstr && ir != ldicInstr && (s.jtag.ldic.isSome || s.jtag.tcksSinceLdic != 15) then
    .error .ldicProtocol
  else .ok (s.setJtag { s.jtag with ir := ir })

/-! One TCK. -/

/-- The action of the current state at a rising edge (R832, R833). -/
def State.tapAction (s : State) (tdi : Bool) : State :=
  match s.jtag.tap with
  | .captureDr => s.captureDr
  | .shiftDr => s.shiftDr tdi
  | .captureIr => s.setJtag { s.jtag with irShift := 0b00001 }
  | .shiftIr => s.setJtag { s.jtag with irShift := shiftIn tdi s.jtag.irShift }
  | .testLogicReset | .runTestIdle | .selectDr | .exit1Dr | .pauseDr | .exit2Dr | .updateDr | .selectIr | .exit1Ir
  | .pauseIr | .exit2Ir | .updateIr => s

/-- What happens on the falling edge in the state that was entered (R832, R833). -/
def State.tapEnter (s : State) : Except Refusal State :=
  match s.jtag.tap with
  | .testLogicReset => s.latchIr idcodeInstr
  | .updateDr => s.updateDr
  | .updateIr => s.latchIr s.jtag.irShift
  | .runTestIdle | .selectDr | .captureDr | .shiftDr | .exit1Dr | .pauseDr | .exit2Dr | .selectIr | .captureIr | .shiftIr
  | .exit1Ir | .pauseIr | .exit2Ir => .ok s

/-- The bit of the selected data register nearest TDO; of the boundary-scan register a free value (91 N10). -/
def State.dataOut (s : State) : Bool :=
  match s.dataReg with
  | .bypass => bitAt s.jtag.bypass 0
  | .boundary => bitAt (s.free 0) 0
  | .ident => bitAt s.jtag.idShift 0
  | .dcsr => bitAt s.jtag.dbgSr 0
  | .dbgtx => bitAt s.jtag.dbgSr 0
  | .dbgrx => bitAt s.jtag.dbgSr 0
  | .ldic => bitAt s.jtag.ldicSr 0

/-- TDO in a state: the selected register in the shift states, high-Z elsewhere (R830). -/
def State.tdoValue (s : State) : Option Bool :=
  match s.jtag.tap with
  | .shiftDr => some s.dataOut
  | .shiftIr => some (bitAt s.jtag.irShift 0)
  | .testLogicReset | .runTestIdle | .selectDr | .captureDr | .exit1Dr | .pauseDr | .exit2Dr | .updateDr | .selectIr
  | .captureIr | .exit1Ir | .pauseIr | .exit2Ir | .updateIr => none

/-- Drives TDO; a bit of the boundary-scan register uses a free value. -/
def State.driveTdo (s : State) : State :=
  let s' := s.setJtag { s.jtag with tdo := s.tdoValue }
  if s.jtag.tap = .shiftDr ∧ s.dataReg = .boundary then s'.consume 1 else s'

/-- Counts the TCKs since the last LDIC Update_DR, up to 15 (R862). -/
def State.countTck (s : State) : State :=
  s.setJtag { s.jtag with tcksSinceLdic := if s.jtag.tcksSinceLdic = 15 then 15 else s.jtag.tcksSinceLdic + 1 }

/-- The TAP controller moves to its next state. -/
def State.moveTap (s : State) (tms : Bool) : State := s.setJtag { s.jtag with tap := s.jtag.tap.next tms }

/-- JTAG works: not while TRST is asserted or in sleep (R831). -/
def State.jtagLive (s : State) : Bool := !s.jtag.trst && s.power != .sleep

/-- One TCK: the rising edge in the current state, then the falling edge in the next (R832). -/
def State.tck (s : State) (tms tdi : Bool) : Except Refusal State :=
  if s.jtagLive then
    match ((s.countTck.tapAction tdi).moveTap tms).tapEnter with
    | .error r => .error r
    | .ok s' => .ok s'.driveTdo
  else .ok s

/-! TRST (R831, R835, R848). -/

/-- Both instruction caches are invalidated (R867). -/
def State.clearIcaches (s : State) : State := { s with icache := .reset, miniICache := .reset }

/-- What a processor reset invalidates, by the JTAG instruction and Halt mode (R868).  A cache that is not invalidated keeps its
locks and pointers too (log entry 82). -/
def State.resetIcaches (s : State) : State :=
  if s.jtag.ir = ldicInstr then s
  else if s.haltMode then { s with icache := .reset }
  else s.clearIcaches

/-- TRST is asserted: Test-Logic-Reset, idcode, DBG_REG bits 0, 1, 34 zero and 33:2 free, no hold and no break pending;
H and the trap bits of DCSR are cleared (R769).  With the reset pin it is a cold reset, which invalidates both instruction
caches (R867, R868, 10_state.md R122). -/
def State.assertTrst (s : State) : Except Refusal State :=
  match s.latchIr idcodeInstr with
  | .error r => .error r
  | .ok s =>
    let s := (s.consume 1).setJtag
      { s.jtag with tap := .testLogicReset, dbgReg := 0#1 ++ s.free 0 ++ 0#2, ldic := none, tdo := none, trst := true,
                    holdRst := false }
    let s := { s with pending := { s.pending with extBreak := false } }
    let s := s.setCp14 { s.cp14 with dcsr := s.cp14.dcsr &&& ~~~jtagDcsrMask }
    .ok (if s.jtag.resetPin then s.clearIcaches else s)

/-- The level of nTRST. -/
def State.setTrst (s : State) (asserted : Bool) : Except Refusal State :=
  if asserted then s.assertTrst else .ok (s.setJtag { s.jtag with trst := false })

end Sys2Proof.Machine
end

