-- ==== Sys2Proof/Machine/Boundary.lean ====
section
/-! DEFINITION. What happens between instructions and around one: the inputs, reset (70_reset_and_hazards.md R900-R905),
the exceptions taken at an instruction boundary (60_exceptions.md R662, R663, R700; 61_debug_and_jtag.md R774-R783), and
the fetch, the decoding and the run of one instruction. -/

namespace Sys2Proof.Machine

/-! Exceptions at the boundary, in the order of 60_exceptions.md R663. -/

/-- A vector trap: Halt mode, outside Special Debug State, at a trapped vector; all but the reset trap need GE
(61_debug_and_jtag.md R774). -/
def State.vectorTrap (s : State) : Bool :=
  let trap (bit : Nat) (offset : Word) : Bool := bitAt s.cp14.dcsr bit && s.core.pc == s.vectorBase + offset
  s.haltMode && !s.sds &&
    (trap 16 0x00 || (s.debugOn &&
      (trap 17 0x04 || trap 18 0x08 || trap 19 0x0C || trap 20 0x10 || trap 22 0x18 || trap 23 0x1C)))

/-- A pending data breakpoint is reported before the next instruction (61_debug_and_jtag.md R777): GE counts at the access,
also where the access is that of an LDC which clears it (log entry 84). -/
def State.dataBkptDue (s : State) : Bool := s.pending.dataBkpt && !s.sds

/-- A pending imprecise abort is taken at this boundary: it must be, or a free bit says so (60_exceptions.md R686; log
entry 41). -/
def State.impreciseDue (s : State) : Option ImpreciseAbort :=
  match s.pending.imprecise with
  | none => none
  | some a => if a.boundaries = some 0 then some a else if bitAt (s.free 0) 0 then some a else none

/-- A pending imprecise abort that is not taken at this boundary has one boundary less. -/
def State.deferImprecise (s : State) : State :=
  match s.pending.imprecise with
  | none => s
  | some a =>
    { s with
      pending := { s.pending with imprecise := some { a with boundaries := a.boundaries.map Nat.pred } }
      freeCtr := s.freeCtr + 1 }

/-- External debug breaks and trace-buffer full breaks are taken: not in Special Debug State, and in Monitor mode not in
Abort mode (61_debug_and_jtag.md R778, R779, R783). -/
def State.breaksTaken (s : State) : Bool := s.debugOn && !s.sds && (s.haltMode || s.mode != .abt)

/-- FIQ is taken (60_exceptions.md R700). -/
def State.fiqDue (s : State) : Bool := s.pending.fiqLine && !bitAt s.core.cpsr 6 && !s.sds

/-- IRQ is taken (60_exceptions.md R700). -/
def State.irqDue (s : State) : Bool := s.pending.irqLine && !bitAt s.core.cpsr 7 && !s.sds

/-- An instruction breakpoint register matches the instruction at the PC (61_debug_and_jtag.md R775). -/
def ibcrMatch (thumb : Bool) (mva ibcr : Word) : Bool :=
  bitAt ibcr 0 && (if thumb then field mva 1 31 == field ibcr 1 31 else field mva 2 30 == field ibcr 2 30)

/-- An instruction breakpoint (61_debug_and_jtag.md R775). -/
def State.instrBkptDue (s : State) : Bool :=
  s.debugOn && !s.sds &&
    (ibcrMatch s.thumb (s.mva s.core.pc) s.cp15.ibcr0 || ibcrMatch s.thumb (s.mva s.core.pc) s.cp15.ibcr1)

/-- The exceptions below the imprecise abort: breaks, FIQ, IRQ, instruction breakpoint (60_exceptions.md R663). -/
def State.lowerEvent (s : State) : Option State :=
  if s.breaksTaken && s.pending.extBreak then some (s.takeDebug .external)
  else if s.breaksTaken && s.pending.traceFull then some (s.takeDebug .traceFull)
  else if s.fiqDue then some s.takeFiq
  else if s.irqDue then some s.takeIrq
  else if s.instrBkptDue then some (s.takeDebug .instrBkpt)
  else none

/-- What the boundary before an instruction does. -/
inductive BoundaryOutcome where
  /-- An exception was taken. -/
  | taken (s : State)
  /-- The instruction at the PC is to run. -/
  | run (s : State)

/-- The boundary before an instruction (60_exceptions.md R663). -/
def State.boundary (s : State) : BoundaryOutcome :=
  if s.vectorTrap then .taken (s.takeDebug .vectorTrap)
  else if s.dataBkptDue then .taken (s.takeDebug .dataBkpt)
  else
    match s.impreciseDue with
    | some a => .taken ((s.consume 1).takeImprecise a.parity)
    | none =>
      let s' := s.deferImprecise
      match s'.lowerEvent with
      | some t => .taken t
      | none => .run s'

/-! The run of one instruction. -/

/-- The direct target of an instruction that the BTB predicts: none where it is no such instruction, or where the target
is in a register (20_memory.md R200). -/
def State.directTarget (s : State) : Instr → Option Word
  | .b _ imm => some (s.armTarget imm)
  | .bl _ imm => some (s.armTarget imm)
  | .tBCond _ imm => some (s.tBCondTarget imm)
  | .tB imm => some (s.pcRead + (imm.signExtend 32 <<< 1))
  | _ => none

/-- Instructions that the BTB predicts (20_memory.md R200). -/
def predicted : Instr → Bool
  | .b _ _ => true
  | .bl _ _ => true
  | .tBCond _ _ => true
  | .tB _ => true
  | .tBlSuffix _ => true
  | _ => false

/-- A BTB entry that predicts taken sends the fetch where the instruction at the PC does not go (93 U11). -/
def State.staleBtb (s : State) (i : Instr) : Bool :=
  match s.btbLookup s.core.pc with
  | none => false
  | some e =>
    e.history.taken && (!predicted i ||
      match s.directTarget i with
      | none => false
      | some t => t != e.target)

/-- A shifter operand that is 0 whatever the registers hold: an immediate 0, or LSR by 32 (42_arm_data_processing.md R401,
R402). -/
def zeroOperand : ShifterOp → Bool
  | .imm _ immed => immed == 0
  | .shiftImm amount kind _ => amount == 0 && kind == .lsr
  | .shiftReg _ _ _ => false

/-- An instruction that writes nothing, or a register's own value back to it, whatever the state holds, and no flag: "an
instruction with no state changing effect", such as "Add-constant-zero without condition flag update" (00_scope.md R18,
30_encoding.md R296(d)).  Which forms these are is log entry 51. -/
def writesNothing : Instr → Bool
  | .add _ false rn rd op2 | .sub _ false rn rd op2 | .eor _ false rn rd op2 | .bic _ false rn rd op2 =>
    rn == rd && rd != 15 && zeroOperand op2
  | .orr _ false rn rd op2 => rn == rd && rd != 15 && (zeroOperand op2 || op2 == .shiftImm 0 .lsl rd)
  | .and _ false rn rd op2 => rn == rd && rd != 15 && op2 == .shiftImm 0 .lsl rd
  | .mov _ false _ rd op2 => rd != 15 && op2 == .shiftImm 0 .lsl rd
  | .msrReg _ _ mask _ => mask == 0
  | .msrImm _ _ mask _ _ => mask == 0
  | .tMovHigh h1 h2 rm rd => highReg h1 rd == highReg h2 rm && highReg h1 rd != 15
  | .tIncSp imm | .tDecSp imm => imm == 0
  | _ => false

/-- A software breakpoint. -/
def isBkpt : Instr → Bool
  | .bkpt _ _ | .tBkpt _ => true
  | _ => false

/-- An instruction is a NOP: it writes nothing, or its condition fails (70_reset_and_hazards.md R920), or it is a BKPT that the
debug unit does not take (61_debug_and_jtag.md R770, R780). -/
def State.isNop (s : State) (i : Instr) : Bool :=
  writesNothing i || !s.executed i || (isBkpt i && !(s.debugOn && !s.sds))

/-- A memory access that aborted in Special Debug State without the NOP after it (61_debug_and_jtag.md R771) leaves free values
in the registers it writes (93 U41; log entry 51). -/
def State.settleShadow (s : State) (i : Instr) : State :=
  if s.sdsShadow = 0 then s
  else
    let s' := if s.isNop i then s else s.freeRegs s.mode (listRegs s.sdsShadow)
    { s' with sdsShadow := 0 }

/-- R13_dbg after an instruction in DEBUG mode is a free value (61_debug_and_jtag.md R781, 93 U43). -/
def State.settleDebug (s : State) : State :=
  if s.mode = .dbg then (s.setBankedReg .dbg 13 (s.free 0)).consume 1 else s

/-- The end of an instruction: it is counted (60_exceptions.md R733, event 7), and the clock goes on.  It is counted after it
ran: an MRC reads a count without itself, and an MCR that disables the counters is not counted (log entry 40). -/
def State.retire (s : State) : State := ((s.count .instrExecuted).settleDebug).tick

/-- Applies a function to a next state. -/
def mapNext (f : State → State) : Result → Result
  | .next s => .next (f s)
  | .fault r => .fault r
  | .refused r => .refused r

/-- Runs an instruction code; what DEBUG mode forbids R13 for is refused (10_state.md R43). -/
def State.runCode (s : State) (c : Code) : Result :=
  if s.staleBtb (decode c) then .refused .staleBtb
  else if s.badStackUse (decode c) then .refused .debugStackRegister
  else mapNext State.retire (exec (decode c) (s.settleShadow (decode c)))

/-- Fetches and runs the instruction at the PC.  A fetch that aborts is a prefetch abort (60_exceptions.md R674), which
Special Debug State ignores: a free word runs (61_debug_and_jtag.md R770; log entry 51). -/
def State.runNext (s : State) : Result :=
  match s.fetchWord with
  | .stop r => .refused r
  | .abort c s' => if s.sds then (s'.consume 1).runCode (s'.codeOf (s'.free 0)) else .next (s'.takePrefetchAbort c).tick
  | .ok w s' => s'.runCode (s'.codeOf w)

/-- The boundary and at most one instruction (60_exceptions.md R663). -/
def State.runBoundary (s : State) : Result :=
  match s.boundary with
  | .taken s' => .next s'.tick
  | .run s' => s'.runNext

/-- Idle ends when an interrupt line is asserted (60_exceptions.md R720). -/
def State.wake (s : State) : State :=
  if s.power = .idle ∧ (s.pending.irqLine ∨ s.pending.fiqLine) then { s with power := .active } else s

/-- A step is over: the instruction has stored what it stores. -/
def State.endStep (s : State) : State := { s with storing := [] }

/-- The core executes: it is not held in reset and not in a power mode. -/
def State.executes (s : State) : Bool := !s.jtag.held && s.power == .active

/-- A step after its inputs. -/
def State.proceed (s : State) : Result :=
  let s' := if s.jtag.held then s else s.wake
  if !s'.executes then .next s'
  else if (Mode.ofBits (field s'.core.cpsr 0 5)).isNone then .fault .illegalMode
  else mapNext State.endStep s'.runBoundary

/-! Reset (10_state.md R140). -/

/-- The core registers: the reset CPSR and PC, and free values where R44 gives none. -/
def State.resetCore (s : State) : Core :=
  { regs := Vector.ofFn (fun i : Fin 32 => s.free i.val)
    pc := 0
    cpsr := merge 0xFF (s.free 38) 0xD3
    spsrs := Vector.ofFn (fun i : Fin 6 => s.free (32 + i.val))
    acc0 := field (s.free 39) 0 8 ++ s.free 40 }

/-- CP15: the values of R140, and free values where it gives none. -/
def State.resetCp15 (s : State) : Cp15 :=
  { Cp15.reset with
    ttbr := s.free 41 &&& 0xFFFFC000
    dacr := s.free 42
    fsr := s.free 43 &&& 0x6FF
    far := s.free 44
    ibcr0 := s.free 45 &&& 0xFFFFFFFE
    ibcr1 := s.free 46 &&& 0xFFFFFFFE
    dbr0 := s.free 47
    dbr1 := s.free 48 }

/-- CP14: the values of R140, and free values where it gives none; H and the trap bits of DCSR stay
(61_debug_and_jtag.md R769). -/
def State.resetCp14 (s : State) : Cp14 :=
  { pmnc := s.free 49 &&& 0x0FFFF708
    ccnt := s.free 50
    pmn0 := s.free 51
    pmn1 := s.free 52
    cclkcfg := field (s.free 53) 0 4
    tx := s.free 54
    rx := s.free 55
    dcsr := s.cp14.dcsr &&& 0x7FFFFFC0
    chkpt0 := s.free 56
    chkpt1 := s.free 57
    txrxctrl := 0
    ccntPhase := field (s.free 58) 0 6 }

/-- A processor reset (R900-R905): what R903 lists stays.  DBG_REG[33:2] is free (61_debug_and_jtag.md R848).  That it empties
the fetch buffers, whatever becomes of the instruction caches, is log entry 67. -/
def State.processorReset (s : State) : State :=
  { s with
    core := s.resetCore
    cp15 := s.resetCp15
    cp14 := s.resetCp14
    itlb := .reset
    dtlb := .reset
    fetchBufs := .reset
    btb := []
    dcache := .reset
    miniDCache := .reset
    writeBuf := []
    fillBuf := []
    pendBuf := []
    pending := { s.pending with imprecise := none, traceFull := false, dataBkpt := false }
    sds := false
    power := .active
    jtag := { s.jtag with dbgReg := field s.jtag.dbgReg 34 1 ++ s.free 59 ++ field s.jtag.dbgReg 0 2 }
    freeCtr := s.freeCtr + 60
    sdsShadow := 0
    stale := .none
    midBus := []
    storing := [] }

/-- The addresses of the bytes that differ between two memories. -/
def changedBytes (old new : List Host.Cell) : List Nat :=
  (new.filter (fun c => sparseGet old c.1 != some c.2)).map Prod.fst ++
    (old.filter (fun c => (sparseGet new c.1).isNone)).map Prod.fst

/-- Bytes of memory get free values, one draw each. -/
def State.freeBytes (s : State) : List Nat → State
  | [] => s
  | a :: t => ((s.putByte (BitVec.ofNat 32 a) (byteOf (s.free 0) 0)).consume 1).freeBytes t

/-- The bytes of memory that the instruction at this boundary would write: those it stores, whatever it stores and wherever the
buffers hold it, and those that change besides. -/
def State.writtenBytes (s t : State) : List Nat :=
  (changedBytes s.mem t.mem ++ t.storing).filter (fun a => s.regionAt (BitVec.ofNat 32 a) == none)

/-- A reset cuts the instruction in progress short: the bytes of memory that it would have written are unspecified (R901;
log entry 75). -/
def State.cutShort (s : State) : State :=
  match s.endStep.runBoundary with
  | .next t => s.freeBytes (s.writtenBytes t)
  | .fault _ => s
  | .refused _ => s

/-- The internal reset begins, by a free bit within an instruction (R901).  The instruction caches are invalidated when it
begins (61_debug_and_jtag.md R867, R869) and when it ends (R868; log entry 50). -/
def State.beginReset (s : State) : State :=
  (if s.executes && bitAt (s.free 0) 0 then (s.consume 1).cutShort else s.consume 1).resetIcaches.processorReset

/-- The core is held in reset or not. -/
def State.setHeld (s : State) (b : Bool) : State := s.setJtag { s.jtag with held := b }

/-- The internal reset is the reset pin or hold_rst (61_debug_and_jtag.md R843). -/
def State.updateHold (s : State) : State :=
  match s.jtag.held, s.jtag.resetPin || s.jtag.holdRst with
  | false, true => s.beginReset.setHeld true
  | true, false => s.resetIcaches.setHeld false
  | false, false => s
  | true, true => s

/-! The inputs (log entry 10). -/

/-- What one input does by itself. -/
def State.takeInput (s : State) : Input → Except Refusal State
  | .irq level => .ok { s with pending := { s.pending with irqLine := level } }
  | .fiq level => .ok { s with pending := { s.pending with fiqLine := level } }
  | .resetPin asserted => .ok (s.setJtag { s.jtag with resetPin := asserted })
  | .trst asserted => s.setTrst asserted
  | .tck tms tdi => s.tck tms tdi
  | .retireWrite i => .ok (s.retireWrite i)
  | .fillReturn i => .ok (s.returnFill i)
  | .icParity mini set way word => .ok (s.markInstrParity mini set way word)
  | .dcParity mini set way byte => .ok (s.markDataParity mini set way byte)
  | .busWrite pa v => .ok (s.foreignWrite pa v)
  | .busBetween writes => .ok { s with midBus := s.midBus ++ [writes] }
  | .fetchAhead va => .ok (if s.executes then s.fetchAhead va else s)
  | .powerFault => .ok s.enterSleep

/-- The inputs of one boundary, in their order; each can change the internal reset. -/
def State.takeInputs (s : State) : List Input → Except Refusal State
  | [] => .ok s
  | i :: t =>
    match s.takeInput i with
    | .error r => .error r
    | .ok s' => s'.updateHold.takeInputs t

/-- The inputs of this step are taken off the schedule, after what other bus masters had left to do in the step before. -/
def State.popInputs (s : State) : Except Refusal State :=
  let s := s.busRest
  match s.inputs with
  | [] => .ok s
  | now :: later => { s with inputs := later }.takeInputs now

/-! Placing an instruction where the next fetch finds it. -/

/-- The physical address that the next fetch reads. -/
def State.fetchPa (s : State) : Word :=
  if s.mmuOn && !s.sds then
    match s.translate .instr s.fetchMva with
    | .ok e _ => e.pa s.fetchMva
    | .fault _ _ => s.fetchMva
    | .stop _ => s.fetchMva
  else s.fetchMva

/-- A fetch buffer without a line. -/
def FetchBuffer.drop (b : FetchBuffer) (l : BitVec 27) : FetchBuffer := if b.line = l then .empty else b

/-- Removes an instruction line from the caches and the fetch buffers, and what old code is known. -/
def State.dropInstrLine (s : State) (l : BitVec 27) : State :=
  let s := s.invalidateIcacheLine l
  { s with
    fetchBufs := { s.fetchBufs with first := s.fetchBufs.first.drop l, second := s.fetchBufs.second.drop l }
    stale := .none }

/-- Removes a line from the data caches, the fill and pend buffers, and its block at a physical address from the write
buffer. -/
def State.dropDataLine (s : State) (l : BitVec 27) (pa : Word) : State :=
  let s := s.invalidateDcacheLine l
  { s with
    fillBuf := s.fillBuf.filter (fun f => f.line != l)
    pendBuf := s.pendBuf.filter (fun p => !p.waitsFor l)
    writeBuf := s.writeBuf.filter (fun e => e.block != field pa 4 28) }

/-- Stores an instruction of the state of the T bit where the next fetch reads it, and leaves nothing else at its address
that the fetch may see. -/
def State.placeCode (s : State) (w : Nat) : State :=
  let s' := (s.dropInstrLine (lineOf s.fetchMva)).dropDataLine (lineOf s.fetchMva) s.fetchPa
  if s.thumb then s'.putBytes (laneAddr s.bigEndian .half s.fetchPa) (BitVec.ofNat 32 w) 2
  else s'.putBytes (s.fetchPa &&& 0xFFFFFFFC) (BitVec.ofNat 32 w) 4

end Sys2Proof.Machine
end

