-- ==== Sys2Proof/Machine/Step.lean ====
section
/-! DEFINITION. One step: the inputs of the boundary, then the boundary, then at most one instruction. -/

namespace Sys2Proof.Machine

/-- One step of the machine (log entry 10). -/
def step (s : State) : Host.Outcome State Fault Refusal :=
  match s.popInputs with
  | .error r => .refused r
  | .ok s' => s'.proceed

/-- `s` with an instruction stored where `step` fetches its next instruction: 16 bits are a Thumb halfword, with T = 1;
else an ARM word, with T = 0. -/
def State.withFetchWord (s : State) (nbits w : Nat) : State :=
  (s.setCpsr (setBit 5 (nbits == 16) s.core.cpsr)).placeCode w

end Sys2Proof.Machine
end

