-- ==== Sys2Proof/Safety.lean ====
section
/-! DEFINITION. What counts as a safe state and a safe run, in the terms the statements use. -/

namespace Sys2Proof.Machine

/-- The CPSR names a processor mode (10_state.md R31). -/
def State.legalMode (s : State) : Bool := (Mode.ofBits (field s.core.cpsr 0 5)).isSome

/-- The PC is a multiple of the instruction size (10_state.md R34). -/
def State.pcAligned (s : State) : Bool := if s.thumb then !bitAt s.core.pc 0 else field s.core.pc 0 2 == 0

/-- The memory is in its canonical form. -/
def State.memCanonical (s : State) : Bool := Memory.wf s.mem

/-- The Control register holds its constant bits and nothing outside its defined bits (10_state.md R64). -/
def State.controlLegal (s : State) : Bool := s.cp15.control == controlValue s.cp15.control

/-- A state from which a step fetches and runs an instruction: nothing is pending and nothing holds the core. -/
def State.quiet (s : State) : Bool :=
  s.inputs.isEmpty && s.midBus.isEmpty && s.executes && s.legalMode && !s.vectorTrap && !s.dataBkptDue && s.pending.imprecise.isNone &&
    !(s.breaksTaken && (s.pending.extBreak || s.pending.traceFull)) && !s.fiqDue && !s.irqDue && !s.instrBkptDue

/-- A run of `k` steps that ends in a next state, and that state. -/
def runTo : Nat → State → Option State
  | 0, s => some s
  | k + 1, s =>
    match step s with
    | .next s' => runTo k s'
    | .fault _ => none
    | .refused _ => none

/-- No buffer holds more than its entries (20_memory.md R230, R232, R233). -/
def State.buffersBounded (s : State) : Bool :=
  decide (s.writeBuf.length ≤ 8) && decide (s.fillBuf.length ≤ 4) && decide (s.pendBuf.length ≤ 4)

/-! What an instruction leaves: the terms of the statements. -/

/-- The flags N, Z, C and V. -/
structure Nzcv where
  n : Bool
  z : Bool
  c : Bool
  v : Bool
  deriving DecidableEq, Repr

/-- The flags of the CPSR. -/
def State.nzcv (s : State) : Nzcv := { n := s.flagN, z := s.flagZ, c := s.flagC, v := s.flagV }

/-- The Q flag. -/
def State.flagQ (s : State) : Bool := bitAt s.core.cpsr 27

/-- N and Z of a result, with a C and a V. -/
def resultFlags (v : Word) (c o : Bool) : Nzcv := { n := v.msb, z := v == 0, c := c, v := o }

/-- The instruction at the PC is not the last of the address space (93 U14). -/
abbrev State.hasNext (s : State) : Prop := s.core.pc.toNat + s.instrSize.toNat < 2 ^ 32

/-- The registers of a list, of the bank of mode `m`, hold their values, and every other of the 32 physical registers is
as before. -/
structure WritesBank (s t : State) (m : Mode) (l : List (Reg × Word)) : Prop where
  written : ∀ x ∈ l, t.bankedReg m x.1 = x.2
  others : ∀ p : Fin 32, (∀ x ∈ l, p ≠ (physReg m x.1).toFin) → t.core.regs[p] = s.core.regs[p]

/-- Every byte of memory reads as before. -/
def SameMemory (s t : State) : Prop := ∀ pa : Word, t.memByte pa = s.memByte pa

/-- Outside the core registers the state is that of `u`, but for what the trace buffer records of one instruction
(61_debug_and_jtag.md R803). -/
def SystemIs (u t : State) : Prop := t = ({ u with core := t.core } : State).traceInstr

/-- An instruction of the ALU is complete: it wrote the registers of a list and the flags, went on in sequence, and left
everything else. -/
structure AluAfter (s t : State) (l : List (Reg × Word)) (f : Nzcv) (q : Bool) (acc : Acc) : Prop where
  regs : WritesBank s t s.mode l
  flags : t.nzcv = f
  sticky : t.flagQ = q
  status : field t.core.cpsr 0 27 = field s.core.cpsr 0 27
  pc : t.core.pc = s.nextPc
  saved : t.core.spsrs = s.core.spsrs
  accumulator : t.core.acc0 = acc
  memory : SameMemory s t
  system : SystemIs s t

/-- The outcome is a next state, in which an instruction of the ALU is complete. -/
def Completes (r : Result) (s : State) (l : List (Reg × Word)) (f : Nzcv) (q : Bool) (acc : Acc) : Prop :=
  ∃ t, r = .next t ∧ AluAfter s t l f q acc

/-- The outcome is a next state: `u`, with the PC moved on in sequence and what the trace buffer records. -/
def CompletesAs (r : Result) (s u : State) : Prop :=
  ∃ t, r = .next t ∧ t.core = { u.core with pc := s.nextPc } ∧ SystemIs u t

/-- Outside the core registers, memory and the BTB, only the event counters, the trace buffer with its checkpoint
registers, the requests of a data breakpoint and of a trace-full break, the count of free values, and the records of what
memory held before stores changed it and of what the instruction stores may differ; the counters only while they are enabled, the trace buffer only while it
records. -/
structure SameElsewhere (s t : State) : Prop where
  rest : { t with
    core := s.core
    mem := s.mem
    btb := s.btb
    cp14 := { t.cp14 with
      pmnc := s.cp14.pmnc, pmn0 := s.cp14.pmn0, pmn1 := s.cp14.pmn1, chkpt0 := s.cp14.chkpt0, chkpt1 := s.cp14.chkpt1 }
    trace := s.trace
    pending := { t.pending with traceFull := s.pending.traceFull, dataBkpt := s.pending.dataBkpt }
    freeCtr := s.freeCtr
    stale := { t.stale with words := s.stale.words }
    storing := s.storing } = s
  counters : pmuOn s.cp14 = false →
    t.cp14.pmnc = s.cp14.pmnc ∧ t.cp14.pmn0 = s.cp14.pmn0 ∧ t.cp14.pmn1 = s.cp14.pmn1
  tracing : s.traceOn = false →
    t.trace = s.trace ∧ t.pending.traceFull = s.pending.traceFull ∧ t.cp14.chkpt0 = s.cp14.chkpt0 ∧
      t.cp14.chkpt1 = s.cp14.chkpt1

/-- An instruction that makes no data access: no data breakpoint is requested, and no old content of memory and no store
is recorded. -/
structure SameWithoutAccess (s t : State) : Prop where
  memory : SameMemory s t
  elsewhere : SameElsewhere s t
  dataBkpt : t.pending.dataBkpt = s.pending.dataBkpt
  stale : t.stale = s.stale
  storing : t.storing = s.storing

/-- The outcome is a next state with these core registers; the BTB may have learned of a branch. -/
def BranchesTo (r : Result) (s : State) (c : Core) : Prop :=
  ∃ t, r = .next t ∧ t.core = c ∧ SameWithoutAccess s t

/-- The outcome is a next state with these core registers, and the BTB is as before. -/
def JumpsTo (r : Result) (s : State) (c : Core) : Prop :=
  ∃ t, r = .next t ∧ t.core = c ∧ SameMemory s t ∧ t.btb = s.btb ∧ t.stale = s.stale ∧ t.storing = s.storing ∧
    SameElsewhere s t

/-- Core registers with the registers of a list, of the bank of mode `m`, written. -/
def Core.wrote (c : Core) (m : Mode) (l : List (Reg × Word)) : Core :=
  { c with regs := l.foldl (fun r x => r.set (physReg m x.1).toFin x.2) c.regs }

/-- The core registers after a write of the PC that takes the T bit from bit 0 of the value (10_state.md R35 (b), (c)). -/
def exchangeCore (c : Core) (v : Word) : Core :=
  { c with pc := v &&& 0xFFFFFFFE, cpsr := merge 0x20 c.cpsr (if bitAt v 0 then 0x20 else 0) }

/-- An interworking write of the PC: a branch to Thumb or ARM state; an ARM target off a word boundary is refused (93
U30). -/
def Exchanges (r : Result) (s : State) (c : Core) (v : Word) : Prop :=
  if bitAt v 0 = false ∧ bitAt v 1 = true then r = .refused .unalignedTarget else JumpsTo r s (exchangeCore c v)

/-- An exception was taken to a mode (60_exceptions.md R670): the link, the saved CPSR, the new CPSR, the vector; nothing
else. -/
structure ExceptionAfter (s t : State) (m : Mode) (setF : Bool) (vector link : Word) : Prop where
  pc : t.core.pc = (if bitAt s.cp15.control 13 then 0xFFFF0000 else 0) + vector
  regs : WritesBank s t m [(14, link)]
  saved : t.spsrOf m = some s.core.cpsr
  otherSaved : ∀ m' : Mode, m'.spsrIndex ≠ m.spsrIndex → t.spsrOf m' = s.spsrOf m'
  mode : field t.core.cpsr 0 5 = m.bits
  thumb : bitAt t.core.cpsr 5 = false
  fiqMask : bitAt t.core.cpsr 6 = (setF || bitAt s.core.cpsr 6)
  irqMask : bitAt t.core.cpsr 7 = true
  flags : field t.core.cpsr 8 24 = field s.core.cpsr 8 24
  accumulator : t.core.acc0 = s.core.acc0
  memory : SameMemory s t
  predictor : t.btb = s.btb

/-- The outcome of an instruction is that it takes an exception, and nothing of the system changes. -/
def TakesException (r : Result) (s : State) (m : Mode) (vector link : Word) : Prop :=
  ∃ t, r = .next t ∧ ExceptionAfter s t m false vector link ∧ SameWithoutAccess s t

/-- A debug exception was taken (61_debug_and_jtag.md R766, R772, R773): the method of entry, and the trace buffer off; in Halt
mode Special Debug State and DEBUG mode at the reset vector, in Monitor mode Abort mode at `vector` with FSR[9] set; the link
is the PC + 4. -/
structure DebugEntry (s t : State) (moe : BitVec 3) (vector : Word) : Prop where
  method : field t.cp14.dcsr 2 3 = moe
  traceOff : bitAt t.cp14.dcsr 0 = false
  halt : bitAt s.cp14.dcsr 30 = true →
    t.core.pc = (if bitAt s.cp15.control 13 then 0xFFFF0000 else 0) ∧ t.bankedReg .dbg 14 = s.core.pc + 4 ∧
      t.spsrOf .dbg = some s.core.cpsr ∧ field t.core.cpsr 0 8 = 0xD5 ∧ t.sds = true ∧ SameMemory s t
  monitor : bitAt s.cp14.dcsr 30 = false →
    ExceptionAfter s t .abt false vector (s.core.pc + 4) ∧ bitAt t.cp15.fsr 9 = true ∧ t.sds = false

/-! Data in memory that no cache or buffer holds. -/

/-- An access of the data side at a virtual address reaches memory: the MMU is off, the buffers are empty, no data cache
holds the line, its bytes are memory that answers without an error, and it is aligned where that is checked (20_memory.md
R150, R156, R174). -/
structure State.Direct (s : State) (va : Word) (w : Width) : Prop where
  mmuOff : s.mmuOn = false
  noFill : s.fillBuf = []
  noWrite : s.writeBuf = []
  noPend : s.pendBuf = []
  noLine : s.dataHit (lineOf (s.mva va)) = none
  memory : ∀ i < w.bytes, s.regionAt (laneAddr s.bigEndian w (s.mva va) + BitVec.ofNat 32 i) = none
  answers : ∀ i < w.bytes, s.busError .read (laneAddr s.bigEndian w (s.mva va) + BitVec.ofNat 32 i) = false ∧
    s.busError .write (laneAddr s.bigEndian w (s.mva va) + BitVec.ofNat 32 i) = false
  aligned : s.alignChecked = true → misaligned w va = false

/-- The physical address of the least significant byte of an access with the MMU off (20_memory.md R153, R174). -/
def State.directLane (s : State) (va : Word) (w : Width) : Word := laneAddr s.bigEndian w (s.mva va)

/-- The bytes of memory an access with the MMU off is made of, as a number. -/
def State.directValue (s : State) (va : Word) (w : Width) : Word :=
  gather w (fun i => s.memByte (s.directLane va w + BitVec.ofNat 32 i))

/-- The words of memory that a list of registers is loaded with, one after the other. -/
def State.directBlock (s : State) (va : Word) : List Reg → List (Reg × Word)
  | [] => []
  | r :: t => (r, s.directValue va .word) :: s.directBlock (va + 4) t

/-- Every word of a block reaches memory, and no other bus master writes between two of them (70_reset_and_hazards.md
R935). -/
structure State.DirectBlock (s : State) (va : Word) (n : Nat) : Prop where
  alone : s.midBus = []
  words : ∀ i < n, s.Direct (va + BitVec.ofNat 32 (4 * i)) .word

/-- A load is complete: it wrote registers of the bank of mode `m` and went on in sequence. -/
structure LoadAfter (s t : State) (m : Mode) (l : List (Reg × Word)) : Prop where
  regs : WritesBank s t m l
  pc : t.core.pc = s.nextPc
  status : t.core.cpsr = s.core.cpsr
  saved : t.core.spsrs = s.core.spsrs
  accumulator : t.core.acc0 = s.core.acc0
  memory : SameMemory s t
  predictor : t.btb = s.btb
  stale : t.stale = s.stale
  storing : t.storing = s.storing
  elsewhere : SameElsewhere s t

/-- The outcome of a load: the registers of a list, of the bank of mode `m`, are written, and no other. -/
def Loads (r : Result) (s : State) (m : Mode) (l : List (Reg × Word)) : Prop :=
  ∃ t, r = .next t ∧ LoadAfter s t m l

/-- A byte of an access that stores `w` at a virtual address. -/
def State.storedAt (s : State) (va : Word) (w : Width) (pa : Word) : Prop :=
  ∃ i < w.bytes, pa = s.directLane va w + BitVec.ofNat 32 i

/-- The outcome of a store: the bytes at the address hold the value, every other byte is as before, the registers of a
list are written, and no other. -/
def Stores (r : Result) (s : State) (va : Word) (w : Width) (v : Word) (l : List (Reg × Word)) : Prop :=
  ∃ t, r = .next t ∧ WritesBank s t s.mode l ∧ t.core.pc = s.nextPc ∧ t.core.cpsr = s.core.cpsr ∧
    t.core.spsrs = s.core.spsrs ∧ t.core.acc0 = s.core.acc0 ∧
    (∀ i < w.bytes, t.memByte (s.directLane va w + BitVec.ofNat 32 i) = byteOf v i) ∧
    (∀ pa, ¬ s.storedAt va w pa → t.memByte pa = s.memByte pa) ∧ t.btb = s.btb ∧ SameElsewhere s t

/-- `StorePcOffset`: what is added to its address for the value that a store of R15 stores (92 D12, log entry 15). -/
def storePcOffset : Word := if Config.storesPcPlus12 then 12 else 8

/-- A store multiple from `start` up is complete: word k holds the k-th register of the list, of the bank of mode `bank`, R15
the instruction's address + `storePcOffset`, and nothing is said of a base that is written back and is not the lowest
register (93 U16); every other byte is as before; the registers of `base` are written, and no other. -/
structure BlockStored (s t : State) (start : Word) (bank : Mode) (w : Bool) (rn : Reg) (list : BitVec 16)
    (base : List (Reg × Word)) : Prop where
  words : ∀ (k : Nat) (r : Reg), (listRegs list)[k]? = some r →
    (r = 15 → t.directValue (start + BitVec.ofNat 32 (4 * k)) .word = s.core.pc + storePcOffset) ∧
    (r ≠ 15 → (w = false ∨ r ≠ rn ∨ (listRegs list).head? = some rn) →
      t.directValue (start + BitVec.ofNat 32 (4 * k)) .word = s.bankedReg bank r)
  others : ∀ pa, (∀ k < (listRegs list).length, ¬ s.storedAt (start + BitVec.ofNat 32 (4 * k)) .word pa) →
    t.memByte pa = s.memByte pa
  regs : WritesBank s t s.mode base
  pc : t.core.pc = s.nextPc
  status : t.core.cpsr = s.core.cpsr
  saved : t.core.spsrs = s.core.spsrs
  accumulator : t.core.acc0 = s.core.acc0
  predictor : t.btb = s.btb
  elsewhere : SameElsewhere s t

/-- A read of a special register is complete: Rd holds the value on the bits of the mask, and free values elsewhere. -/
def ReadsSpecial (r : Result) (s : State) (rd : Reg) (mask v : Word) : Prop :=
  ∃ t x, r = .next t ∧ WritesBank s t s.mode [(rd, x)] ∧ x &&& mask = v &&& mask ∧ t.core.pc = s.nextPc ∧
    t.core.cpsr = s.core.cpsr ∧ t.core.spsrs = s.core.spsrs ∧ t.core.acc0 = s.core.acc0 ∧ SameMemory s t ∧
    SystemIs { s with freeCtr := t.freeCtr } t

/-! Memory that answers. -/

/-- The `n` bytes from an address up are memory, and no error answers an access of a kind to them (92 D1, D2). -/
def State.Answers (s : State) (k : BusKind) (pa : Word) (n : Nat) : Prop :=
  ∀ i < n, s.regionAt (pa + BitVec.ofNat 32 i) = none ∧ s.busError k (pa + BitVec.ofNat 32 i) = false

/-- A TLB entry maps the 2^n bytes around an MVA, to the physical address of a base, with these rights and attributes
(20_memory.md R162-R168). -/
structure TlbEntry.Maps (e : TlbEntry) (n : Nat) (mva base : Word) (ap : Word → BitVec 2) (domain : BitVec 4)
    (x c b : Bool) : Prop where
  valid : e.valid = true
  unlocked : e.locked = false
  covers : ∀ m : Word, e.covers m = decide (m.toNat / 2 ^ n = mva.toNat / 2 ^ n)
  address : ∀ m : Word, (e.pa m).toNat = base.toNat / 2 ^ n * 2 ^ n + m.toNat % 2 ^ n
  rights : ∀ m : Word, e.ap m = ap m
  domain : e.domain = domain
  attributes : e.x = x ∧ e.c = c ∧ e.b = b

/-- A word of the data side at a virtual address goes to memory through a TLB entry: the page is neither cached nor buffered,
the access is allowed, nothing is outstanding, and memory answers (20_memory.md R150, R162, R168, R175). -/
structure State.Paged (s : State) (va : Word) (e : TlbEntry) (write : Bool) : Prop where
  mmuOn : s.mmuOn = true
  held : s.dtlb.lookup (s.mva va) = some e
  allowed : s.checkAccess e (s.mva va) s.privileged write = .ok none
  plain : e.x = false ∧ e.c = false ∧ e.b = false
  aligned : va.toNat % 4 = 0
  noFill : s.fillBuf = []
  noWrite : s.writeBuf = []
  noPend : s.pendBuf = []
  noLine : s.dataHit (lineOf (s.mva va)) = none
  answers : s.Answers (if write then .write else .read) (e.pa (s.mva va)) 4

/-! Precise data aborts (60_exceptions.md R675, R681, R682). -/

/-- The outcome is that a precise data abort is taken: Abort mode at vector 0x10, the link is the instruction's address + 8, no
other register and no byte of memory changes, FSR holds the status and, where it is valid, the domain, and FAR the address. -/
def TakesDataAbort (r : Result) (s : State) (code : BitVec 4) (domain : Option (BitVec 4)) (far : Word) : Prop :=
  ∃ t, r = .next t ∧ ExceptionAfter s t .abt false 0x10 (s.core.pc + 8) ∧ field t.cp15.fsr 0 4 = code ∧
    bitAt t.cp15.fsr 10 = false ∧ (∀ d, domain = some d → field t.cp15.fsr 4 4 = d) ∧ t.cp15.far = far

/-- The faults of a translation, in domain `d`, with FSR[3:0] and the domain where it is valid (60_exceptions.md R681). -/
def faultRows (d : BitVec 4) : List (AbortCause × BitVec 4 × Option (BitVec 4)) :=
  [ (.walkFirst, 0b1100, none), (.walkSecond d, 0b1110, some d), (.translationSection, 0b0101, none),
    (.translationPage d, 0b0111, some d), (.domainSection d, 0b1001, some d), (.domainPage d, 0b1011, some d),
    (.permissionSection d, 0b1101, some d), (.permissionPage d, 0b1111, some d) ]

/-- An instruction that makes one data access: its address, its width, and what it is checked as. -/
structure AccessRow where
  instr : Instr
  va : Word
  width : Width
  privileged : Bool
  write : Bool

/-- A misaligned access where alignment is checked, and an access whose translation faults, take a precise data abort; a
translation is reached by an aligned access, and by an unaligned word that `unaligned` allows (20_memory.md R156, R157). -/
def AbortsPrecisely (s : State) (unaligned : Bool) (r : AccessRow) : Prop :=
  (s.alignChecked = true → r.va.toNat % r.width.bytes ≠ 0 →
    TakesDataAbort (exec r.instr s) s 0b0001 none (s.mva r.va)) ∧
  (∀ d cause code domain s1, (cause, code, domain) ∈ faultRows d → s.mmuOn = true →
    r.va.toNat % r.width.bytes = 0 ∨ (s.alignChecked = false ∧ r.width = .word ∧ unaligned = true) →
    (s.noteAccess r.width (s.mva r.va) r.write).translateChecked .data (s.mva r.va) r.privileged r.write = .fault cause s1 →
    TakesDataAbort (exec r.instr s) s code domain (s.mva r.va))

/-! Tables of the instruction set: what the rules give for each instruction of a family. -/

/-- An instruction of the ALU, its result, and its C and V. -/
structure AluRow where
  instr : Instr
  value : Word
  c : Bool
  v : Bool

/-- A carry or a borrow as a number. -/
def carryWord (b : Bool) : Word := if b then 1 else 0

/-- A sum: C is the carry out of the unsigned addition, V the signed overflow (42_arm_data_processing.md R404). -/
def sumRow (i : Instr) (x y : Word) (carry : Bool) : AluRow :=
  let v := x + y + carryWord carry
  { instr := i, value := v, c := decide (2 ^ 32 ≤ x.toNat + y.toNat + carry.toNat)
    v := decide (v.toInt ≠ x.toInt + y.toInt + carry.toNat) }

/-- A difference: C is NOT borrow, V the signed overflow (42_arm_data_processing.md R404). -/
def differenceRow (i : Instr) (x y : Word) (borrow : Bool) : AluRow :=
  let v := x - y - carryWord borrow
  { instr := i, value := v, c := decide (y.toNat + borrow.toNat ≤ x.toNat)
    v := decide (v.toInt ≠ x.toInt - y.toInt - borrow.toNat) }

/-- The data-processing instructions that write a register (42_arm_data_processing.md R406-R413, R418-R421). -/
def dataRows (s : State) (c : Cond) (sf : Bool) (rn rd : Reg) (op2 : ShifterOp) : List AluRow :=
  let a := s.reg rn
  let b := (s.shifter op2).1
  let k := (s.shifter op2).2
  [ { instr := .and c sf rn rd op2, value := a &&& b, c := k, v := s.flagV },
    { instr := .eor c sf rn rd op2, value := a ^^^ b, c := k, v := s.flagV },
    { instr := .orr c sf rn rd op2, value := a ||| b, c := k, v := s.flagV },
    { instr := .bic c sf rn rd op2, value := a &&& ~~~b, c := k, v := s.flagV },
    { instr := .mov c sf rn rd op2, value := b, c := k, v := s.flagV },
    { instr := .mvn c sf rn rd op2, value := ~~~b, c := k, v := s.flagV },
    sumRow (.add c sf rn rd op2) a b false,
    sumRow (.adc c sf rn rd op2) a b s.flagC,
    differenceRow (.sub c sf rn rd op2) a b false,
    differenceRow (.sbc c sf rn rd op2) a b (!s.flagC),
    differenceRow (.rsb c sf rn rd op2) b a false,
    differenceRow (.rsc c sf rn rd op2) b a (!s.flagC) ]

/-- The compares and tests (42_arm_data_processing.md R414-R417). -/
def testRows (s : State) (c : Cond) (rn rd : Reg) (op2 : ShifterOp) : List AluRow :=
  let a := s.reg rn
  let b := (s.shifter op2).1
  let k := (s.shifter op2).2
  [ { instr := .tst c rn rd op2, value := a &&& b, c := k, v := s.flagV },
    { instr := .teq c rn rd op2, value := a ^^^ b, c := k, v := s.flagV },
    differenceRow (.cmp c rn rd op2) a b false,
    sumRow (.cmn c rn rd op2) a b false ]

/-- A half of a register (43_arm_multiply.md R460). -/
def halfBits (w : Word) : HalfSel → BitVec 16
  | .b => field w 0 16
  | .t => field w 16 16

/-- An integer brought into the range of a signed word (42_arm_data_processing.md R426). -/
def clamp32 (x : Int) : Int := max (-2147483648) (min 2147483647 x)

/-- The multiplies with internal accumulate and the accumulator afterwards (40_cp0_dsp.md R342-R347). -/
def accumulateRows (s : State) (c : Cond) (rs rm : Reg) : List (Instr × Acc) :=
  let m := s.reg rm
  let n := s.reg rs
  let half (x y : HalfSel) : Acc := (halfBits m x).signExtend 40 * (halfBits n y).signExtend 40
  [ (.mia c rs rm, s.core.acc0 + m.signExtend 40 * n.signExtend 40),
    (.miaph c rs rm, s.core.acc0 + half .b .b + half .t .t),
    (.miabb c rs rm, s.core.acc0 + half .b .b),
    (.miabt c rs rm, s.core.acc0 + half .b .t),
    (.miatb c rs rm, s.core.acc0 + half .t .b),
    (.miatt c rs rm, s.core.acc0 + half .t .t) ]

/-- The Thumb instructions that write a low register and all four flags (46_thumb.md R597-R599, R604-R606, R608-R610). -/
def thumbSumRows (s : State) (rd ra rb : LowReg) (i3 : BitVec 3) (i8 : Byte) : List AluRow :=
  let d := s.reg rd.reg
  let a := s.reg ra.reg
  let b := s.reg rb.reg
  [ sumRow (.tAddImm3 i3 ra rd) a (i3.zeroExtend 32) false,
    sumRow (.tAddImm8 rd i8) d (i8.zeroExtend 32) false,
    sumRow (.tAddReg rb ra rd) a b false,
    differenceRow (.tSubImm3 i3 ra rd) a (i3.zeroExtend 32) false,
    differenceRow (.tSubImm8 rd i8) d (i8.zeroExtend 32) false,
    differenceRow (.tSubReg rb ra rd) a b false,
    sumRow (.tAdc ra rd) d a s.flagC,
    differenceRow (.tSbc ra rd) d a (!s.flagC),
    differenceRow (.tNeg ra rd) 0 a false ]

/-- The Thumb moves, logical instructions and MUL, which keep C and V, and the shifts, which keep V (46_thumb.md R590-R596,
R611, R612, R615, R621-R624). -/
def thumbLogicRows (s : State) (rd ra : LowReg) (i5 : BitVec 5) (i8 : Byte) : List AluRow :=
  let d := s.reg rd.reg
  let a := s.reg ra.reg
  let n : Byte := field a 0 8
  let plain (i : Instr) (v : Word) : AluRow := { instr := i, value := v, c := s.flagC, v := s.flagV }
  let shift (i : Instr) (r : Word × Bool) : AluRow := { instr := i, value := r.1, c := r.2, v := s.flagV }
  [ plain (.tMovImm rd i8) (i8.zeroExtend 32),
    plain (.tMvn ra rd) (~~~a),
    plain (.tAnd ra rd) (d &&& a),
    plain (.tEor ra rd) (d ^^^ a),
    plain (.tOrr ra rd) (d ||| a),
    plain (.tBic ra rd) (d &&& ~~~a),
    plain (.tMul ra rd) (a * d),
    shift (.tLslImm i5 ra rd) (immShift .lsl a i5 s.flagC),
    shift (.tLsrImm i5 ra rd) (immShift .lsr a i5 s.flagC),
    shift (.tAsrImm i5 ra rd) (immShift .asr a i5 s.flagC),
    shift (.tLslReg ra rd) (regShift .lsl d n s.flagC),
    shift (.tLsrReg ra rd) (regShift .lsr d n s.flagC),
    shift (.tAsrReg ra rd) (regShift .asr d n s.flagC),
    shift (.tRor ra rd) (regShift .ror d n s.flagC) ]

/-- The Thumb compares and TST (46_thumb.md R616-R620). -/
def thumbTestRows (s : State) (ra rb : LowReg) (i8 : Byte) (h1 h2 : Bool) : List AluRow :=
  let a := s.reg ra.reg
  let b := s.reg rb.reg
  [ differenceRow (.tCmpImm ra i8) a (i8.zeroExtend 32) false,
    differenceRow (.tCmpReg rb ra) a b false,
    differenceRow (.tCmpHigh h1 h2 rb ra) (s.reg (highReg h1 ra)) (s.reg (highReg h2 rb)) false,
    sumRow (.tCmn rb ra) a b false,
    { instr := .tTst rb ra, value := a &&& b, c := s.flagC, v := s.flagV } ]

/-- The Thumb additions and moves without flags, with the register they write (46_thumb.md R600-R603, R607, R614). -/
def thumbMoveRows (s : State) (rd rm : LowReg) (h1 h2 : Bool) (i7 : BitVec 7) (i8 : Byte) : List (Instr × Reg × Word) :=
  [ (.tAddHigh h1 h2 rm rd, highReg h1 rd, s.reg (highReg h1 rd) + s.reg (highReg h2 rm)),
    (.tMovHigh h1 h2 rm rd, highReg h1 rd, s.reg (highReg h2 rm)),
    (.tAddPc rd i8, rd.reg, ((s.core.pc + 4) &&& 0xFFFFFFFC) + i8.zeroExtend 32 * 4),
    (.tAddSp rd i8, rd.reg, s.reg 13 + i8.zeroExtend 32 * 4),
    (.tIncSp i7, 13, s.reg 13 + i7.zeroExtend 32 * 4),
    (.tDecSp i7, 13, s.reg 13 - i7.zeroExtend 32 * 4) ]

/-- A load of one register: the address, the width, and the value of the register from what is read. -/
structure LoadRow where
  instr : Instr
  va : Word
  width : Width
  value : Word → Word

/-- A word that is read from an address is rotated by its two low bits (20_memory.md R157). -/
def rotated (va v : Word) : Word := v.rotateRight (8 * (va.toNat % 4))

/-- The Thumb loads (46_thumb.md R625-R634). -/
def thumbLoadRows (s : State) (rd ra rb : LowReg) (i5 : BitVec 5) (i8 : Byte) : List LoadRow :=
  let a := s.reg ra.reg
  let ab := a + s.reg rb.reg
  let word (i : Instr) (va : Word) : LoadRow := { instr := i, va := va, width := .word, value := rotated va }
  [ word (.tLdrImm i5 ra rd) (a + i5.zeroExtend 32 * 4),
    word (.tLdrReg rb ra rd) ab,
    word (.tLdrPc rd i8) (((s.core.pc + 4) &&& 0xFFFFFFFC) + i8.zeroExtend 32 * 4),
    word (.tLdrSp rd i8) (s.reg 13 + i8.zeroExtend 32 * 4),
    { instr := .tLdrbImm i5 ra rd, va := a + i5.zeroExtend 32, width := .byte, value := fun v => v },
    { instr := .tLdrbReg rb ra rd, va := ab, width := .byte, value := fun v => v },
    { instr := .tLdrhImm i5 ra rd, va := a + i5.zeroExtend 32 * 2, width := .half, value := fun v => v },
    { instr := .tLdrhReg rb ra rd, va := ab, width := .half, value := fun v => v },
    { instr := .tLdrsb rb ra rd, va := ab, width := .byte, value := fun v => (v.truncate 8).signExtend 32 },
    { instr := .tLdrsh rb ra rd, va := ab, width := .half, value := fun v => (v.truncate 16).signExtend 32 } ]

/-- A store of one register: the address and the width. -/
structure StoreRow where
  instr : Instr
  va : Word
  width : Width

/-- The Thumb stores of register `rd` (46_thumb.md R635-R641). -/
def thumbStoreRows (s : State) (rd ra rb : LowReg) (i5 : BitVec 5) (i8 : Byte) : List StoreRow :=
  let a := s.reg ra.reg
  let ab := a + s.reg rb.reg
  [ { instr := .tStrImm i5 ra rd, va := a + i5.zeroExtend 32 * 4, width := .word },
    { instr := .tStrReg rb ra rd, va := ab, width := .word },
    { instr := .tStrSp rd i8, va := s.reg 13 + i8.zeroExtend 32 * 4, width := .word },
    { instr := .tStrbImm i5 ra rd, va := a + i5.zeroExtend 32, width := .byte },
    { instr := .tStrbReg rb ra rd, va := ab, width := .byte },
    { instr := .tStrhImm i5 ra rd, va := a + i5.zeroExtend 32 * 2, width := .half },
    { instr := .tStrhReg rb ra rd, va := ab, width := .half } ]

/-- The offset address of modes 2 and 3 (44_arm_load_store.md R490, R492). -/
def addedOffset (u : Bool) (base offset : Word) : Word := if u then base + offset else base - offset

/-- The address of an access (44_arm_load_store.md R491): the base itself for the post-indexed forms. -/
def accessAddress (ix : Indexing) (u : Bool) (base offset : Word) : Word :=
  match ix with
  | .offset => addedOffset u base offset
  | .preIndexed => addedOffset u base offset
  | .postIndexed => base
  | .postW => base

/-- The base register that a form writes (44_arm_load_store.md R491). -/
def baseAfter (ix : Indexing) (u : Bool) (rn : Reg) (base offset : Word) : List (Reg × Word) :=
  match ix with
  | .offset => []
  | .preIndexed => [(rn, addedOffset u base offset)]
  | .postIndexed => [(rn, addedOffset u base offset)]
  | .postW => [(rn, addedOffset u base offset)]

/-- The ARM loads of addressing mode 2, with their indexing (44_arm_load_store.md R495, R496, R499). -/
def loadRows2 (s : State) (c : Cond) (ix : Indexing) (u : Bool) (rn rd : Reg) (off : Offset2) : List LoadRow :=
  let a := accessAddress ix u (s.reg rn) (s.offset2 off)
  let word (i : Instr) : LoadRow := { instr := i, va := a, width := .word, value := rotated a }
  let byte (i : Instr) : LoadRow := { instr := i, va := a, width := .byte, value := fun v => v }
  if ix = .postIndexed then
    [word (.ldr c ix u rn rd off), byte (.ldrb c ix u rn rd off), word (.ldrt c u rn rd off), byte (.ldrbt c u rn rd off)]
  else [word (.ldr c ix u rn rd off), byte (.ldrb c ix u rn rd off)]

/-- The ARM loads of addressing mode 3 (44_arm_load_store.md R503-R505). -/
def loadRows3 (s : State) (c : Cond) (ix : Indexing) (u : Bool) (rn rd : Reg) (off : Offset3) : List LoadRow :=
  let a := accessAddress ix u (s.reg rn) (s.offset3 off)
  [ { instr := .ldrh c ix u rn rd off, va := a, width := .half, value := fun v => v },
    { instr := .ldrsb c ix u rn rd off, va := a, width := .byte, value := fun v => (v.truncate 8).signExtend 32 },
    { instr := .ldrsh c ix u rn rd off, va := a, width := .half, value := fun v => (v.truncate 16).signExtend 32 } ]

/-- The ARM stores of addressing mode 2 (44_arm_load_store.md R497-R499). -/
def storeRows2 (s : State) (c : Cond) (ix : Indexing) (u : Bool) (rn rd : Reg) (off : Offset2) : List StoreRow :=
  let a := accessAddress ix u (s.reg rn) (s.offset2 off)
  if ix = .postIndexed then
    [ { instr := .str c ix u rn rd off, va := a, width := .word }, { instr := .strb c ix u rn rd off, va := a, width := .byte },
      { instr := .strt c u rn rd off, va := a, width := .word }, { instr := .strbt c u rn rd off, va := a, width := .byte } ]
  else
    [ { instr := .str c ix u rn rd off, va := a, width := .word },
      { instr := .strb c ix u rn rd off, va := a, width := .byte } ]

/-- The loads and stores of one register, with the access of each (44_arm_load_store.md R495-R499, R503-R506); R15 is moved by LDR
and STR only. -/
def accessRows (s : State) (c : Cond) (ix : Indexing) (u : Bool) (rn rd : Reg) (off : Offset2) (off3 : Offset3) :
    List AccessRow :=
  let a := accessAddress ix u (s.reg rn) (s.offset2 off)
  let a3 := accessAddress ix u (s.reg rn) (s.offset3 off3)
  let own := s.mode != .usr
  [⟨.ldr c ix u rn rd off, a, .word, own, false⟩, ⟨.str c ix u rn rd off, a, .word, own, true⟩] ++
    (if rd = 15 then []
     else
      [ ⟨.ldrb c ix u rn rd off, a, .byte, own, false⟩, ⟨.strb c ix u rn rd off, a, .byte, own, true⟩,
        ⟨.ldrh c ix u rn rd off3, a3, .half, own, false⟩, ⟨.ldrsh c ix u rn rd off3, a3, .half, own, false⟩,
        ⟨.ldrsb c ix u rn rd off3, a3, .byte, own, false⟩, ⟨.strh c ix u rn rd off3, a3, .half, own, true⟩ ]) ++
    (if rd = 15 ∨ ix ≠ .postIndexed then []
     else
      [ ⟨.ldrt c u rn rd off, a, .word, false, false⟩, ⟨.ldrbt c u rn rd off, a, .byte, false, false⟩,
        ⟨.strt c u rn rd off, a, .word, false, true⟩, ⟨.strbt c u rn rd off, a, .byte, false, true⟩ ])

/-- SWP and SWPB, checked as stores (44_arm_load_store.md R530, R531). -/
def swapRows (s : State) (c : Cond) (rn rd rm : Reg) : List AccessRow :=
  [ ⟨.swp c rn rd rm, s.reg rn, .word, s.mode != .usr, true⟩, ⟨.swpb c rn rd rm, s.reg rn, .byte, s.mode != .usr, true⟩ ]

/-- LDC and STC of CP14 (41_coprocessor_access.md R368, R369). -/
def coprocessorRows (s : State) (c : Cond) (p u w : Bool) (rn : Reg) (crd : BitVec 4) (off : Byte) : List AccessRow :=
  let va := if p then addedOffset u (s.reg rn) (off.zeroExtend 32 * 4) else s.reg rn
  [⟨.ldc c p u false w rn crd 14 off, va, .word, true, false⟩, ⟨.stc c p u false w rn crd 14 off, va, .word, true, true⟩]

/-- The start address of each mode of a block of `n` words, and the base after write-back, by the table of 44_arm_load_store.md
R520. -/
def blockRows (b : Word) (n : Nat) : List (BlockMode × Word × Word) :=
  let size : Word := 4 * BitVec.ofNat 32 n
  [(.ia, b, b + size), (.ib, b + 4, b + size), (.da, b - size + 4, b - size), (.db, b - size, b - size)]

/-- A write of a register of CP15: CRn, CRm, opcode_2, and the registers afterwards (10_state.md R60-R99). -/
def cp15Writes (k : Cp15) (v : Word) : List (BitVec 4 × BitVec 4 × BitVec 3 × Cp15) :=
  [ (0, 0, 0, k), (0, 0, 1, k),
    (1, 0, 1, { k with aux := v &&& 0x33 }),
    (2, 0, 0, { k with ttbr := v &&& 0xFFFFC000 }),
    (3, 0, 0, { k with dacr := v }),
    (5, 0, 0, { k with fsr := v &&& 0x6FF }),
    (6, 0, 0, { k with far := v }),
    (15, 1, 0, { k with cpar := v &&& 0x3FFF }) ]

/-- A write of a breakpoint register of CP15 (10_state.md R96-R98). -/
def bkptWrites (k : Cp15) (v : Word) : List (BitVec 4 × BitVec 3 × Cp15) :=
  [ (8, 0, { k with ibcr0 := v }), (9, 0, { k with ibcr1 := v }), (0, 0, { k with dbr0 := v }), (3, 0, { k with dbr1 := v }),
    (4, 0, { k with dbcon := v &&& 0x10F }) ]

/-- A read of a register of CP15: CRn, CRm, opcode_2, the bits that the spec gives, and the value (10_state.md R62-R99). -/
def cp15Reads (k : Cp15) : List (BitVec 4 × BitVec 4 × BitVec 3 × Word × Word) :=
  [ (0, 0, 0, 0xFFFFE3F0, 0x69052100), (0, 0, 1, 0xFFFFFFFF, 0x0B1AA1AA), (1, 0, 0, 0x3FFF, k.control),
    (1, 0, 1, 0x33, k.aux), (2, 0, 0, 0xFFFFC000, k.ttbr), (3, 0, 0, 0xFFFFFFFF, k.dacr), (5, 0, 0, 0x7FF, k.fsr &&& 0x6FF),
    (6, 0, 0, 0xFFFFFFFF, k.far), (13, 0, 0, 0xFFFFFFFF, k.pid), (14, 8, 0, 0xFFFFFFFF, k.ibcr0),
    (14, 9, 0, 0xFFFFFFFF, k.ibcr1), (14, 0, 0, 0xFFFFFFFF, k.dbr0), (14, 3, 0, 0xFFFFFFFF, k.dbr1),
    (14, 4, 0, 0xFFFFFFFF, k.dbcon), (15, 1, 0, 0xFFFF, k.cpar) ]

/-- A write of a register of CP14 while the trace buffer is off: the number and the registers afterwards (10_state.md
R101-R113). -/
def cp14Writes (k : Cp14) (v : Word) : List (BitVec 4 × Cp14) :=
  [ (1, { k with ccnt := v }), (2, { k with pmn0 := v }), (3, { k with pmn1 := v }), (6, { k with cclkcfg := field v 0 4 }),
    (8, { k with tx := v, txrxctrl := k.txrxctrl ||| 0x10000000 }), (9, k),
    (12, { k with chkpt0 := v }), (13, { k with chkpt1 := v }),
    (14, { k with txrxctrl := (k.txrxctrl &&& 0xBFFFFFFF) ||| (v &&& 0x40000000) }) ]

/-- A read of a register of CP14 that changes nothing: the number, the bits that the spec gives, and the value
(10_state.md R101-R113). -/
def cp14Reads (k : Cp14) : List (BitVec 4 × Word × Word) :=
  [ (0, 0x0FFFF779, k.pmnc), (1, 0xFFFFFFFF, k.ccnt), (2, 0xFFFFFFFF, k.pmn0), (3, 0xFFFFFFFF, k.pmn1),
    (6, 0xF, k.cclkcfg.zeroExtend 32), (7, 0x3, 0), (8, 0xFFFFFFFF, k.tx), (10, 0xC0DF003F, k.dcsr),
    (12, 0xFFFFFFFF, k.chkpt0), (13, 0xFFFFFFFF, k.chkpt1), (14, 0xFFFFFFFF, k.txrxctrl) ]

/-- The cache, BTB and TLB functions that never abort, and the state they leave; the outstanding fills return first where the
data caches are concerned (41_coprocessor_access.md R371-R375; log entry 69). -/
def functionRows (s : State) (c : Cond) (rd : Reg) : List (Instr × State) :=
  let v := s.reg rd
  let itlb (t : Tlb) : State := { s.noteMaps (s.itlb.dropped t) with itlb := t }
  [ (.invIDCacheBtb c rd, s.settleFills.invalidateIcache.invalidateDcache), (.invICacheBtb c rd, s.invalidateIcache),
    (.invICacheLine c rd, s.invalidateIcacheLine (lineOf v)), (.invDCache c rd, s.settleFills.invalidateDcache),
    (.invDCacheLine c rd, s.settleFills.invalidateDcacheLine (lineOf v)),
    (.cleanDCacheLine c rd, s.settleFills.cleanDcacheLine (lineOf v)), (.drainWriteBuffer c rd, s.drainCommand),
    (.invBtb c rd, { s with btb := [] }), (.invIDTlb c rd, { itlb s.itlb.invalidate with dtlb := s.dtlb.invalidate }),
    (.invITlb c rd, itlb s.itlb.invalidate), (.invDTlb c rd, { s with dtlb := s.dtlb.invalidate }),
    (.invITlbEntry c rd, itlb (s.itlb.invalidateEntry v)), (.invDTlbEntry c rd, { s with dtlb := s.dtlb.invalidateEntry v }) ]

/-- Every function of CP15 that has a row of its own (41_coprocessor_access.md R370-R377). -/
def functionInstrs (c : Cond) (rd : Reg) : List Instr :=
  [ .invIDCacheBtb c rd, .invICacheBtb c rd, .invICacheLine c rd, .invDCache c rd, .invDCacheLine c rd,
    .cleanDCacheLine c rd, .drainWriteBuffer c rd, .invBtb c rd, .allocDCacheLine c rd, .invIDTlb c rd, .invITlb c rd,
    .invITlbEntry c rd, .invDTlb c rd, .invDTlbEntry c rd, .lockICacheLine c rd, .unlockICache c rd, .readDCacheLock c rd,
    .writeDCacheLock c rd, .unlockDCache c rd, .lockITlbEntry c rd, .lockDTlbEntry c rd, .unlockITlb c rd,
    .unlockDTlb c rd ]

end Sys2Proof.Machine
end

