-- ==== Sys2Proof/Certificates/Slice0/Obligations.lean ====
section
/-! DEFINITION. The statements for the provers: what spec/ says the machine does, over the model. -/

open Sys2Proof Sys2Proof.Machine

/-! Encoding (30_encoding.md). -/

/-- Decoding the word of a well-formed ARM instruction gives the instruction back, with every operand (R280-R297). -/
def Obligations.DecodeOfEncodeArm : Prop :=
  ∀ (i : Instr) (w : Word), wellFormed i = true → encode i = .arm w → decode (.arm w) = i

/-- Decoding the halfword of a well-formed Thumb instruction gives the instruction back (R280, R300-R303). -/
def Obligations.DecodeOfEncodeThumb : Prop :=
  ∀ (i : Instr) (h : Half), wellFormed i = true → encode i = .thumb h → decode (.thumb h) = i

/-- Every ARM word and every Thumb halfword decodes to a well-formed instruction whose code is that word: no bit is
dropped and no two words mean the same term (R297, R301). -/
def Obligations.EncodeOfDecode : Prop :=
  ∀ k : Code, wellFormed (decode k) = true ∧ encode (decode k) = k

/-- Words that the rules of the spec print decode to the instructions that the rules print them for. -/
def Obligations.PrintedWordsDecode : Prop :=
  decode (.arm 0xE0110002) = .and .al true 1 0 (.shiftImm 0 .lsl 2) ∧
  decode (.arm 0xE24FF004) = .sub .al false 15 15 (.imm 0 4) ∧
  decode (.arm 0xE0203291) = .mla .al false 0 3 2 1 ∧
  decode (.arm 0xE1420051) = .qdadd .al 2 0 1 ∧
  decode (.arm 0xEE202011) = .mia .al 2 1 ∧
  decode (.arm 0xEC510000) = .mra .al 1 0 ∧
  decode (.arm 0xE52D6004) = .str .al .preIndexed false 13 6 (.imm 4) ∧
  decode (.arm 0xE1C300D0) = .ldrd .al .offset true 3 0 (.imm 0) ∧
  decode (.arm 0xE8BD800F) = .ldm .al .ia true 13 0x800F ∧
  decode (.arm 0xFB00003E) = .blxImm true 0x3E ∧
  decode (.arm 0xEE1EFE10) = .mrc .al 0 14 15 14 0 0 ∧
  decode (.arm 0xE321F0D3) = .msrImm .al false 1 0 0xD3 ∧
  decode (.thumb 0x081A) = .tLsrImm 0 3 2 ∧
  decode (.thumb 0xB5F0) = .tPush true 0xF0 ∧
  decode (.thumb 0xF7FF) = .tBlHead 0x7FF ∧
  decode (.thumb 0xBEAB) = .tBkpt 0xAB

/-! The step (10_state.md, 20_memory.md R151, 60_exceptions.md R663). -/

/-- A step that takes no exception at the boundary and whose fetch gives a word runs the instruction that the word
decodes to: it is `exec` of that instruction on the state after the fetch, with the end of an instruction
(`retire`, `endStep`) after it. What is refused before it is an old BTB entry (93 U11, log entry 44) and a use of
R13 in DEBUG mode (10_state.md R43, log entry 65). -/
def Obligations.StepRunsDecodedInstruction : Prop :=
  (∀ (s s1 : State) (w : Word) (i : Instr),
    s.quiet = true → s.fetchWord = .ok w s1 → decode (s1.codeOf w) = i → wellFormed i = true →
    s1.staleBtb i = false → s1.badStackUse i = false → s1.sdsShadow = 0 →
    step s = mapNext State.endStep (mapNext State.retire (exec i s1))) ∧
  (∀ (s s1 : State) (w : Word),
    s.quiet = true → s.fetchWord = .ok w s1 → s1.staleBtb (decode (s1.codeOf w)) = false →
    s1.badStackUse (decode (s1.codeOf w)) = true → step s = .refused .debugStackRegister)

/-- With the MMU off, the word in no instruction cache and no fetch buffer, and nothing known that it was or is about
to be, the fetch gives the four bytes of memory at the word of the PC, whatever clean lines a data cache holds, and
changes no register, no status and no memory (20_memory.md R151, R155, R174, R188, R256). That a fetch is one line
from memory at once, and that a fetch of changed code may give older content or a store that is on its way to
memory, is the model's choice (log entry 44). -/
def Obligations.FetchReadsMemory : Prop :=
  ∀ s : State, s.mmuOn = false → s.instrHit s.fetchMva = none → s.pendBuf = [] → s.writeBuf = [] → s.stale = Stale.none →
    (∀ e ∈ s.dcache.lines ++ s.miniDCache.lines, e.2.dirtyLow = false ∧ e.2.dirtyHigh = false) →
    s.Answers .fetch (lineOf s.fetchMva ++ 0#5) 32 →
    ∃ s1, s.fetchWord = .ok (s.memWord (s.fetchMva &&& 0xFFFFFFFC)) s1 ∧ s1.core = s.core ∧ s1.cp15 = s.cp15 ∧
      SameMemory s s1

/-! Invariants. -/

/-- The state right after reset meets every invariant that the next statements say a step keeps, and holds what
10_state.md R140 gives: the mode, the interrupt masks, the PC, the Control register with everything disabled, the
registers that reset to zero, the caches empty, the pointers of caches and TLBs, and the buffers empty. That the
TLBs are invalid and unlocked is the spec's own decision (92_eei_decisions.md D37, log entry 37); Special Debug
State is clear by R127. -/
def Obligations.ResetState : Prop :=
  State.reset.memCanonical = true ∧ State.reset.legalMode = true ∧ State.reset.controlLegal = true ∧
    State.reset.pcAligned = true ∧ State.reset.buffersBounded = true ∧
  field State.reset.core.cpsr 0 8 = 0xD3 ∧ State.reset.core.pc = 0 ∧ State.reset.cp15.control = 0x78 ∧
    State.reset.cp15.aux = 0 ∧ State.reset.cp15.dlock = false ∧ State.reset.cp15.pid = 0 ∧
    bitAt State.reset.cp15.ibcr0 0 = false ∧ bitAt State.reset.cp15.ibcr1 0 = false ∧ State.reset.cp15.dbcon = 0 ∧
    State.reset.cp15.cpar = 0 ∧ bitAt State.reset.cp14.pmnc 0 = false ∧ field State.reset.cp14.pmnc 4 3 = 0 ∧
    bitAt State.reset.cp14.dcsr 31 = false ∧ field State.reset.cp14.dcsr 0 6 = 0 ∧ State.reset.cp14.txrxctrl = 0 ∧ State.reset.sds = false ∧
    State.reset.power = .active ∧ State.reset.btb = [] ∧
    (∀ i : Fin 32, State.reset.itlb.entries[i].valid = false ∧ State.reset.dtlb.entries[i].valid = false ∧
      State.reset.itlb.entries[i].locked = false ∧ State.reset.dtlb.entries[i].locked = false) ∧
    State.reset.itlb.rr = 31 ∧ State.reset.dtlb.rr = 31 ∧ State.reset.itlb.lk = 0 ∧ State.reset.dtlb.lk = 0 ∧
    State.reset.icache.lines = [] ∧ State.reset.miniICache.lines = [] ∧ State.reset.dcache.lines = [] ∧
    State.reset.miniDCache.lines = [] ∧
    (∀ i : Fin 32, State.reset.icache.rr[i] = 31 ∧ State.reset.icache.lk[i] = 0 ∧ State.reset.dcache.rr[i] = 31 ∧
      State.reset.dcache.lk[i] = 0) ∧
    State.reset.writeBuf = [] ∧ State.reset.fillBuf = [] ∧ State.reset.pendBuf = []

/-- A processor reset at any time leaves the same values, whatever the state before it (70_reset_and_hazards.md
R900-R903): the free values stand for what the spec calls unspecified, and memory stays. When the reset ends the
instruction caches are as the table of 61_debug_and_jtag.md R868 says. What becomes of the instruction that it cuts
short is the model's choice (log entries 50, 75), and so are the empty fetch buffers (log entry 67). That it leaves
both TLBs invalid and unlocked is the spec's own decision (92_eei_decisions.md D37, log entry 37). That an
instruction cache which the reset does not invalidate keeps its locks and pointers is the model's choice (log entry
82). -/
def Obligations.ProcessorResetValues : Prop :=
  (∀ s : State,
    let t := s.processorReset
    field t.core.cpsr 0 8 = 0xD3 ∧ t.core.pc = 0 ∧ t.cp15.control = 0x78 ∧ t.cp15.aux = 0 ∧ t.cp15.dlock = false ∧
    t.cp15.pid = 0 ∧ bitAt t.cp15.ibcr0 0 = false ∧ bitAt t.cp15.ibcr1 0 = false ∧ t.cp15.dbcon = 0 ∧ t.cp15.cpar = 0 ∧
    bitAt t.cp14.pmnc 0 = false ∧ field t.cp14.pmnc 4 3 = 0 ∧ field t.cp14.dcsr 0 6 = 0 ∧
    bitAt t.cp14.dcsr 31 = false ∧ (∀ i, 6 ≤ i → i < 31 → bitAt t.cp14.dcsr i = bitAt s.cp14.dcsr i) ∧
    t.cp14.txrxctrl = 0 ∧ t.sds = false ∧ t.power = .active ∧ t.btb = [] ∧
    (∀ i : Fin 32, t.itlb.entries[i].valid = false ∧ t.dtlb.entries[i].valid = false ∧ t.itlb.entries[i].locked = false ∧
      t.dtlb.entries[i].locked = false) ∧
    t.itlb.rr = 31 ∧ t.dtlb.rr = 31 ∧ t.itlb.lk = 0 ∧ t.dtlb.lk = 0 ∧ t.dcache.lines = [] ∧ t.miniDCache.lines = [] ∧
    (∀ i : Fin 32, t.dcache.rr[i] = 31 ∧ t.dcache.lk[i] = 0) ∧ t.writeBuf = [] ∧ t.fillBuf = [] ∧ t.pendBuf = [] ∧
    t.mem = s.mem ∧ t.icache = s.icache ∧ t.miniICache = s.miniICache ∧ t.trace = s.trace) ∧
  (∀ s : State, s.jtag.held = true → s.jtag.resetPin = false → s.jtag.holdRst = false →
    let t := s.updateHold
    t.jtag.held = false ∧ t.core = s.core ∧ t.mem = s.mem ∧
    (s.jtag.ir = 0b00111 → t.icache = s.icache ∧ t.miniICache = s.miniICache) ∧
    (s.jtag.ir ≠ 0b00111 → t.icache.lines = [] ∧ (∀ i : Fin 32, t.icache.rr[i] = 31 ∧ t.icache.lk[i] = 0) ∧
      (bitAt s.cp14.dcsr 30 = true → t.miniICache = s.miniICache) ∧
      (bitAt s.cp14.dcsr 30 = false → t.miniICache.lines = [])))

/-- Every step keeps the canonical form of memory: addresses strictly rising, no byte that an unlisted address reads
as. -/
def Obligations.StepKeepsMemoryCanonical : Prop :=
  ∀ s t : State, s.memCanonical = true → step s = .next t → t.memCanonical = true

/-- Every step keeps a legal mode in the CPSR (10_state.md R31) and the constant and reserved bits of the Control
register (10_state.md R64). -/
def Obligations.StepKeepsModeAndControl : Prop :=
  ∀ s t : State, s.legalMode = true → s.controlLegal = true → step s = .next t →
    t.legalMode = true ∧ t.controlLegal = true

/-- Every step keeps the PC aligned for the instruction set of the T bit (10_state.md R34). -/
def Obligations.StepKeepsPcAligned : Prop :=
  ∀ s t : State, s.pcAligned = true → step s = .next t → t.pcAligned = true

/-- Every step keeps at most eight write-buffer entries, four fills and four pended stores (20_memory.md R230, R232,
R233). -/
def Obligations.StepKeepsBufferBounds : Prop :=
  ∀ s t : State, s.buffersBounded = true → step s = .next t → t.buffersBounded = true

/-- An instruction that runs in User mode to a next state changes no register of CP15 but the fault registers, no lock
of a TLB or the instruction cache and not the power mode, and the mode afterwards is User mode or one that an
exception enters (Undefined, Supervisor, Abort, DEBUG). Where the mode is still User mode, no SPSR, no bit 23:6 of
the CPSR, no register of another bank and not Special Debug State has changed, and, outside Special Debug State, of
CP14 only the event counters with their flags and the checkpoint registers (10_state.md R33, R36,
41_coprocessor_access.md R360, 60_exceptions.md R695). -/
def Obligations.UserModeIsConfined : Prop :=
  ∀ (i : Instr) (s t : State), s.mode = .usr → exec i s = .next t →
    { t.cp15 with fsr := s.cp15.fsr, far := s.cp15.far } = s.cp15 ∧
    t.itlb.lk = s.itlb.lk ∧ t.dtlb.lk = s.dtlb.lk ∧ t.icache.lk = s.icache.lk ∧ t.power = s.power ∧
    (t.mode = .usr ∨ t.mode = .und ∨ t.mode = .svc ∨ t.mode = .abt ∨ t.mode = .dbg) ∧
    (t.mode = .usr → t.core.spsrs = s.core.spsrs ∧ field t.core.cpsr 6 18 = field s.core.cpsr 6 18 ∧ t.sds = s.sds ∧
      (∀ p : Fin 32, (∀ n : Reg, n ≠ 15 → p ≠ (physReg .usr n).toFin) → t.core.regs[p] = s.core.regs[p]) ∧
      (s.sds = false →
        t.cp14.pmnc ||| 0x700 = s.cp14.pmnc ||| 0x700 ∧
        { t.cp14 with
          pmnc := s.cp14.pmnc, pmn0 := s.cp14.pmn0, pmn1 := s.cp14.pmn1, chkpt0 := s.cp14.chkpt0,
          chkpt1 := s.cp14.chkpt1 } = s.cp14))

/-! The register file and conditions (10_state.md R30-R34, 30_encoding.md R281, R282). -/

/-- The banks (R32): R0 to R7 are one register in all modes, R8 to R12 in all but FIQ, R13 and R14 in User and System
mode only; two numbers are two registers; a register holds what was written, a write changes no other register of
any bank, and R15 reads as the PC with its offset. -/
def Obligations.RegistersAreBanked : Prop :=
  (∀ (m m' : Mode) (n : Reg), n.toNat < 8 → physReg m n = physReg m' n) ∧
  (∀ (m m' : Mode) (n : Reg), 8 ≤ n.toNat → n.toNat < 13 → (physReg m n = physReg m' n ↔ (m = .fiq ↔ m' = .fiq))) ∧
  (∀ (m m' : Mode) (n : Reg), n = 13 ∨ n = 14 →
    (physReg m n = physReg m' n ↔ (m = m' ∨ ((m = .usr ∨ m = .sys) ∧ (m' = .usr ∨ m' = .sys))))) ∧
  (∀ (m m' : Mode) (n n' : Reg), n ≠ 15 → n' ≠ 15 → n ≠ n' → physReg m n ≠ physReg m' n') ∧
  (∀ (s : State) (m m' : Mode) (n n' : Reg) (v : Word), n ≠ 15 → n' ≠ 15 →
    (s.setBankedReg m n v).bankedReg m' n' = (if physReg m n = physReg m' n' then v else s.bankedReg m' n')) ∧
  (∀ (s : State) (n : Reg) (v : Word) (p : Fin 32), n ≠ 15 → p ≠ (physReg s.mode n).toFin →
    (s.setReg n v).core = { s.core with regs := (s.setReg n v).core.regs } ∧
    (s.setReg n v).core.regs[p] = s.core.regs[p]) ∧
  (∀ (s : State) (n n' : Reg) (v : Word), n ≠ 15 →
    (s.setReg n v).reg n = v ∧ (n' ≠ n → (s.setReg n v).reg n' = s.reg n')) ∧
  (∀ s : State, s.reg 15 = s.core.pc + (if s.thumb then 4 else 8))

/-- An instruction whose condition fails does nothing except advance the PC, and the trace buffer counts it (R281,
R282); a B or BL, which the branch target buffer predicts, may touch its branch history and the event counters
besides, and a BX or BLX(2) is counted as an executed branch. That these count when they fail is the model's choice
(log entry 40). -/
def Obligations.FailedConditionDoesNothing : Prop :=
  ∀ (i : Instr) (c : Cond) (s : State), condOf i = some c → s.passed c = false → s.hasNext →
    ((∀ imm, i ≠ .b c imm) → (∀ imm, i ≠ .bl c imm) → (∀ imm, i ≠ .tBCond c imm) → (∀ rm, i ≠ .bx c rm) →
      (∀ rm, i ≠ .blxReg c rm) → CompletesAs (exec i s) s s) ∧
    (∀ rm, i = .bx c rm ∨ i = .blxReg c rm → CompletesAs (exec i s) s (s.count .branchExecuted)) ∧
    ∃ t, exec i s = .next t ∧ t.core = { s.core with pc := s.nextPc } ∧ SameWithoutAccess s t

/-! ARM data processing (42_arm_data_processing.md). -/

/-- The shifter operand and its carry-out, bit by bit, for the rotated immediate, the immediate shifts and the shifts
by a register (R401, R402, R403). -/
def Obligations.ShifterOperandValues : Prop :=
  ∀ (s : State) (rm rs : Reg) (n : BitVec 5) (rot : BitVec 4) (imm : Byte),
    let m := s.reg rm
    let k := (s.reg rs).toNat % 256
    let c := s.flagC
    (∀ i < 32, bitAt (s.shifter (.imm rot imm)).1 i = bitAt (imm.zeroExtend 32) ((i + 2 * rot.toNat) % 32)) ∧
    (s.shifter (.imm rot imm)).2 = (if rot = 0 then c else bitAt (s.shifter (.imm rot imm)).1 31) ∧
    (∀ i < 32, bitAt (s.shifter (.shiftImm n .lsl rm)).1 i = (decide (n.toNat ≤ i) && bitAt m (i - n.toNat))) ∧
    (s.shifter (.shiftImm n .lsl rm)).2 = (if n = 0 then c else bitAt m (32 - n.toNat)) ∧
    (∀ i < 32, bitAt (s.shifter (.shiftImm n .lsr rm)).1 i = (n != 0 && bitAt m (i + n.toNat))) ∧
    (s.shifter (.shiftImm n .lsr rm)).2 = (if n = 0 then bitAt m 31 else bitAt m (n.toNat - 1)) ∧
    (∀ i < 32, bitAt (s.shifter (.shiftImm n .asr rm)).1 i =
      (if n ≠ 0 ∧ i + n.toNat < 32 then bitAt m (i + n.toNat) else bitAt m 31)) ∧
    (s.shifter (.shiftImm n .asr rm)).2 = (if n = 0 then bitAt m 31 else bitAt m (n.toNat - 1)) ∧
    (∀ i < 32, bitAt (s.shifter (.shiftImm n .ror rm)).1 i =
      (if n = 0 then (if i = 31 then c else bitAt m (i + 1)) else bitAt m ((i + n.toNat) % 32))) ∧
    (s.shifter (.shiftImm n .ror rm)).2 = (if n = 0 then bitAt m 0 else bitAt m (n.toNat - 1)) ∧
    (∀ i < 32, bitAt (s.shifter (.shiftReg rs .lsl rm)).1 i = (decide (k ≤ i) && bitAt m (i - k))) ∧
    (s.shifter (.shiftReg rs .lsl rm)).2 = (if k = 0 then c else decide (k ≤ 32) && bitAt m (32 - k)) ∧
    (∀ i < 32, bitAt (s.shifter (.shiftReg rs .lsr rm)).1 i = bitAt m (i + k)) ∧
    (s.shifter (.shiftReg rs .lsr rm)).2 = (if k = 0 then c else bitAt m (k - 1)) ∧
    (∀ i < 32, bitAt (s.shifter (.shiftReg rs .asr rm)).1 i = (if i + k < 32 then bitAt m (i + k) else bitAt m 31)) ∧
    (s.shifter (.shiftReg rs .asr rm)).2 = (if k = 0 then c else if k < 32 then bitAt m (k - 1) else bitAt m 31) ∧
    (∀ i < 32, bitAt (s.shifter (.shiftReg rs .ror rm)).1 i = bitAt m ((i + k) % 32)) ∧
    (s.shifter (.shiftReg rs .ror rm)).2 = (if k = 0 then c else bitAt m ((k + 31) % 32))

/-- AND, EOR, ORR, BIC, MOV, MVN, ADD, ADC, SUB, SBC, RSB and RSC with a register other than R15 as Rd complete: Rd
holds the result, with S the four flags are the result's, and nothing else changes (R404, R406-R413, R418-R421);
MOV and MVN ignore the Rn field; a shift by a register with R15 as Rd, Rs, Rm or, but for MOV and MVN, Rn is
refused. That what R403 calls UNPREDICTABLE is refused is the model's choice (93 U2 (a), log entry 61). -/
def Obligations.DataProcessingResult : Prop :=
  (∀ (s : State) (c : Cond) (sf : Bool) (rn rd : Reg) (op2 : ShifterOp),
    s.passed c = true → rd ≠ 15 → op2.namesPc rn rd = false → s.hasNext →
    ∀ r ∈ dataRows s c sf rn rd op2,
      Completes (exec r.instr s) s [(rd, r.value)] (if sf then resultFlags r.value r.c r.v else s.nzcv) s.flagQ
        s.core.acc0) ∧
  (∀ (s : State) (c : Cond) (sf : Bool) (x rd : Reg) (op2 : ShifterOp),
    exec (.mov c sf x rd op2) s = exec (.mov c sf 0 rd op2) s ∧ exec (.mvn c sf x rd op2) s = exec (.mvn c sf 0 rd op2) s) ∧
  (∀ (s : State) (c : Cond) (sf : Bool) (rn rd : Reg) (op2 : ShifterOp),
    s.passed c = true →
    ∀ r ∈ dataRows s c sf rn rd op2,
      (op2.namesPc 0 rd = true → exec r.instr s = .refused .unpredictableOperands) ∧
      (op2.namesPc rn rd = true → r.instr ≠ .mov c sf rn rd op2 → r.instr ≠ .mvn c sf rn rd op2 →
        exec r.instr s = .refused .unpredictableOperands))

/-- TST, TEQ, CMP and CMN complete: the four flags are the result's, and nothing else changes (R404, R414-R417); the Rd
field 15 is refused, and so is a shift by a register that names R15. That what R405 and R403 call UNPREDICTABLE is
refused is the model's choice (93 U2 (a), (h), log entry 61). -/
def Obligations.CompareAndTestResult : Prop :=
  ∀ (s : State) (c : Cond) (rn rd : Reg) (op2 : ShifterOp), s.passed c = true →
    ∀ r ∈ testRows s c rn rd op2,
      (rd ≠ 15 → op2.namesPc rn 0 = false → s.hasNext →
        Completes (exec r.instr s) s [] (resultFlags r.value r.c r.v) s.flagQ s.core.acc0) ∧
      (rd = 15 ∨ op2.namesPc rn 0 = true → exec r.instr s = .refused .unpredictableOperands)

/-- A data-processing instruction with Rd = 15 in ARM state branches without S: to a word-aligned result, with no
change of state, and is refused for any other; with S it returns from the exception of the current mode: the CPSR
is the SPSR and the PC is aligned for its T bit, and Special Debug State ends; without an SPSR it is refused
(10_state.md R35 (d), (e), R405, 60_exceptions.md R690). That a target off a word boundary, which R35 (d) calls
UNPREDICTABLE, is refused is the model's choice (93 U2 (i), log entry 61). -/
def Obligations.DataProcessingToPc : Prop :=
  ∀ (s : State) (c : Cond) (rn : Reg) (op2 : ShifterOp), s.passed c = true → s.thumb = false →
    op2.namesPc rn 15 = false →
    (∀ r ∈ dataRows s c false rn 15 op2,
      if r.value.toNat % 4 = 0 then JumpsTo (exec r.instr s) s { s.core with pc := r.value }
      else exec r.instr s = .refused .unalignedTarget) ∧
    (∀ r ∈ dataRows s c true rn 15 op2,
      (∀ (w : Word) (m : Mode), s.spsrOf s.mode = some w → Mode.ofBits (field w 0 5) = some m → m ≠ .dbg →
        ∃ t, exec r.instr s = .next t ∧
          t.core = { s.core with cpsr := w, pc := r.value &&& (if bitAt w 5 then 0xFFFFFFFE else 0xFFFFFFFC) } ∧
          t.sds = false ∧ SameMemory s t ∧ t.btb = s.btb ∧ SameElsewhere { s with sds := false } t) ∧
      (s.spsrOf s.mode = none → exec r.instr s = .refused .noSpsr))

/-- CLZ: Rd holds the number of zeros above the highest one bit of Rm, 32 for zero, and no flag changes (R425). QADD,
QSUB, QDADD and QDSUB: the saturated sum or difference, with the doubled operand saturated first; Q is raised where
one of them saturates, and never cleared (R426-R430). R15 is refused in all of them. That what R425 and R426 call
UNPREDICTABLE is refused is the model's choice (93 U2 (a), log entry 61). -/
def Obligations.ClzAndSaturation : Prop :=
  ∀ (s : State) (c : Cond) (rn rd rm : Reg), s.passed c = true →
    (rd ≠ 15 → rm ≠ 15 → s.hasNext →
      ∃ n, n ≤ 32 ∧ (∀ i, 32 - n ≤ i → bitAt (s.reg rm) i = false) ∧ (n < 32 → bitAt (s.reg rm) (31 - n) = true) ∧
        Completes (exec (.clz c rd rm) s) s [(rd, BitVec.ofNat 32 n)] s.nzcv s.flagQ s.core.acc0) ∧
    (rd = 15 ∨ rm = 15 → exec (.clz c rd rm) s = .refused .unpredictableOperands) ∧
    (rn ≠ 15 → rd ≠ 15 → rm ≠ 15 → s.hasNext →
      let m := (s.reg rm).toInt
      let n := (s.reg rn).toInt
      let d := clamp32 (2 * n)
      let ends (i : Instr) (first : Bool) (x : Int) : Prop :=
        Completes (exec i s) s [(rd, BitVec.ofInt 32 (clamp32 x))] s.nzcv (s.flagQ || first || decide (clamp32 x ≠ x))
          s.core.acc0
      ends (.qadd c rn rd rm) false (m + n) ∧ ends (.qsub c rn rd rm) false (m - n) ∧
      ends (.qdadd c rn rd rm) (decide (d ≠ 2 * n)) (m + d) ∧ ends (.qdsub c rn rd rm) (decide (d ≠ 2 * n)) (m - d)) ∧
    (rn = 15 ∨ rd = 15 ∨ rm = 15 →
      exec (.qadd c rn rd rm) s = .refused .unpredictableOperands ∧
      exec (.qsub c rn rd rm) s = .refused .unpredictableOperands ∧
      exec (.qdadd c rn rd rm) s = .refused .unpredictableOperands ∧
      exec (.qdsub c rn rd rm) s = .refused .unpredictableOperands)

/-! Multiplies (43_arm_multiply.md). -/

/-- MUL and MLA: the low 32 bits of the product, with Rn added; N and Z with S, C and V unchanged (R450-R452). That C
and V are unchanged is the spec's own decision (92 D14, log entry 17). -/
def Obligations.MultiplyResult : Prop :=
  ∀ (s : State) (c : Cond) (sf : Bool) (rd rn rs rm : Reg) (sbz : BitVec 4),
    s.passed c = true → rd ≠ 15 → rs ≠ 15 → rm ≠ 15 → rd ≠ rm → s.hasNext →
    let p := s.reg rm * s.reg rs
    let a := p + s.reg rn
    Completes (exec (.mul c sf rd sbz rs rm) s) s [(rd, p)]
      (if sf then resultFlags p s.flagC s.flagV else s.nzcv) s.flagQ s.core.acc0 ∧
    (rn ≠ 15 → Completes (exec (.mla c sf rd rn rs rm) s) s [(rd, a)]
      (if sf then resultFlags a s.flagC s.flagV else s.nzcv) s.flagQ s.core.acc0)

/-- UMULL, UMLAL, SMULL and SMLAL: the 64 bits of the product, unsigned or signed, with RdHi:RdLo added; N and Z of the
64 bits with S, C and V unchanged (R450, R453-R456). That C and V are unchanged is the spec's own decision (92 D14,
log entry 17). -/
def Obligations.LongMultiplyResult : Prop :=
  ∀ (s : State) (c : Cond) (sf : Bool) (rdHi rdLo rs rm : Reg),
    s.passed c = true → rdHi ≠ 15 → rdLo ≠ 15 → rs ≠ 15 → rm ≠ 15 → rdHi ≠ rdLo → rdHi ≠ rm → rdLo ≠ rm → s.hasNext →
    let old : BitVec 64 := s.reg rdHi ++ s.reg rdLo
    let unsigned : BitVec 64 := (s.reg rm).zeroExtend 64 * (s.reg rs).zeroExtend 64
    let signed : BitVec 64 := (s.reg rm).signExtend 64 * (s.reg rs).signExtend 64
    let ends (i : Instr) (p : BitVec 64) : Prop :=
      Completes (exec i s) s [(rdLo, p.truncate 32), (rdHi, (p >>> 32).truncate 32)]
        (if sf then { n := p.msb, z := p == 0, c := s.flagC, v := s.flagV } else s.nzcv) s.flagQ s.core.acc0
    ends (.umull c sf rdHi rdLo rs rm) unsigned ∧ ends (.umlal c sf rdHi rdLo rs rm) (unsigned + old) ∧
    ends (.smull c sf rdHi rdLo rs rm) signed ∧ ends (.smlal c sf rdHi rdLo rs rm) (signed + old)

/-- SMULxy, SMLAxy, SMULWy, SMLAWy and SMLALxy: the signed products of the selected halves; SMLAxy and SMLAWy raise Q
where the accumulation overflows, and no other flag changes (R460-R465). -/
def Obligations.HalfMultiplyResult : Prop :=
  ∀ (s : State) (c : Cond) (rd rn rs rm : Reg) (x y : HalfSel) (sbz : BitVec 4),
    s.passed c = true → rd ≠ 15 → rs ≠ 15 → rm ≠ 15 → s.hasNext →
    let p : Word := (halfBits (s.reg rm) x).signExtend 32 * (halfBits (s.reg rs) y).signExtend 32
    let wide : BitVec 48 := (s.reg rm).signExtend 48 * (halfBits (s.reg rs) y).signExtend 48
    let w : Word := wide.extractLsb' 16 32
    let sum : BitVec 64 := (s.reg rd ++ s.reg rn : BitVec 64) + p.signExtend 64
    let q (v : Word) : Bool := s.flagQ || decide ((v + s.reg rn).toInt ≠ v.toInt + (s.reg rn).toInt)
    Completes (exec (.smulxy c rd sbz rs y x rm) s) s [(rd, p)] s.nzcv s.flagQ s.core.acc0 ∧
    Completes (exec (.smulwy c rd sbz rs y rm) s) s [(rd, w)] s.nzcv s.flagQ s.core.acc0 ∧
    (rn ≠ 15 →
      Completes (exec (.smlaxy c rd rn rs y x rm) s) s [(rd, p + s.reg rn)] s.nzcv (q p) s.core.acc0 ∧
      Completes (exec (.smlawy c rd rn rs y rm) s) s [(rd, w + s.reg rn)] s.nzcv (q w) s.core.acc0) ∧
    (rn ≠ 15 → rd ≠ rn → Completes (exec (.smlalxy c rd rn rs y x rm) s) s
      [(rn, sum.truncate 32), (rd, (sum >>> 32).truncate 32)] s.nzcv s.flagQ s.core.acc0)

/-! Coprocessor 0 (40_cp0_dsp.md). -/

/-- In every mode with CPAR bit 0 set: MIA, MIAPH, MIABB, MIABT, MIATB and MIATT add the signed products to the
accumulator modulo 2^40, and no register and no flag changes (R340-R347, R354); MAR writes all 40 bits from two
registers, MRA reads them with bits 39:32 sign-extended, and MRA after MAR gives RdLo and the sign-extended low
byte of RdHi (R348-R350, R353). -/
def Obligations.AccumulatorInstructions : Prop :=
  ∀ (s : State) (c : Cond) (rdHi rdLo : Reg), s.passed c = true → bitAt s.cp15.cpar 0 = true → s.hasNext →
    rdHi ≠ 15 → rdLo ≠ 15 →
    (∀ r ∈ accumulateRows s c rdHi rdLo, Completes (exec r.1 s) s [] s.nzcv s.flagQ r.2) ∧
    Completes (exec (.mar c rdHi rdLo) s) s [] s.nzcv s.flagQ ((s.reg rdHi).truncate 8 ++ s.reg rdLo) ∧
    (rdHi ≠ rdLo → Completes (exec (.mra c rdHi rdLo) s) s
      [(rdLo, s.core.acc0.truncate 32), (rdHi, ((s.core.acc0 >>> 32).truncate 8).signExtend 32)] s.nzcv s.flagQ
      s.core.acc0) ∧
    (∀ t u : State, rdHi ≠ rdLo → exec (.mar c rdHi rdLo) s = .next t → exec (.mra c rdHi rdLo) t = .next u →
      u.bankedReg s.mode rdLo = s.reg rdLo ∧ u.bankedReg s.mode rdHi = ((s.reg rdHi).truncate 8).signExtend 32)

/-! Instructions whose effect is an exception (60_exceptions.md R670, R672, R673). -/

/-- What the spec forbids in the operands of an instruction that passes its condition is refused, and nothing else of
the machine happens (93 U2, U8, U31, U34, U42): R15 and equal registers of the multiplies, of the accumulator
instructions and of SWP, a base that is written back and is R15 or the loaded register, a halfword at an odd
address with Control.A = 0, an empty register list, the User-bank forms outside the modes that have them, Rd = 15
of MCR, and in DEBUG mode LDM, SWP, and LDR of R15 or with an RRX offset. That the model stops there is its choice
(log entry 61). -/
def Obligations.ForbiddenOperandsAreRefused : Prop :=
  ∀ (s : State) (c : Cond) (sf u w b r : Bool) (rn rd rs rm : Reg) (sbz mask : BitVec 4) (x y : HalfSel) (ix : Indexing)
    (off : Offset2) (off3 : Offset3) (m : BlockMode) (list : BitVec 16) (low : BitVec 15) (op1 op2 : BitVec 3)
    (crn crm cp : BitVec 4),
    let stops (i : Instr) : Prop := exec i s = .refused .unpredictableOperands
    let noDebug (i : Instr) : Prop := exec i s = .refused .notInDebugMode
    let badBase : Prop := ix ≠ .offset ∧ (rn = 15 ∨ rn = rd)
    let mode3 : Prop := off3.namesPc = true ∨ ix = .postW ∨ badBase
    s.passed c = true →
    (rd = 15 ∨ rs = 15 ∨ rm = 15 ∨ rd = rm → stops (.mul c sf rd sbz rs rm) ∧ stops (.mla c sf rd rn rs rm)) ∧
    (rn = 15 → stops (.mla c sf rd rn rs rm)) ∧
    (rd = 15 ∨ rn = 15 ∨ rs = 15 ∨ rm = 15 ∨ rd = rn ∨ rd = rm ∨ rn = rm →
      stops (.umull c sf rd rn rs rm) ∧ stops (.umlal c sf rd rn rs rm) ∧ stops (.smull c sf rd rn rs rm) ∧
      stops (.smlal c sf rd rn rs rm)) ∧
    (rd = 15 ∨ rs = 15 ∨ rm = 15 → stops (.smulxy c rd sbz rs y x rm) ∧ stops (.smulwy c rd sbz rs y rm)) ∧
    (rd = 15 ∨ rn = 15 ∨ rs = 15 ∨ rm = 15 →
      stops (.smlaxy c rd rn rs y x rm) ∧ stops (.smlawy c rd rn rs y rm) ∧ stops (.smlalxy c rd rn rs y x rm)) ∧
    (rd = rn → stops (.smlalxy c rd rn rs y x rm)) ∧
    (bitAt s.cp15.cpar 0 = true →
      (rs = 15 ∨ rm = 15 → (∀ i ∈ accumulateRows s c rs rm, stops i.1) ∧ stops (.mar c rs rm) ∧ stops (.mra c rs rm)) ∧
      (rs = rm → stops (.mra c rs rm))) ∧
    (off.namesPc = true ∨ badBase →
      (s.mode ≠ .dbg → ∀ i ∈ loadRows2 s c ix u rn rd off, stops i.instr) ∧
      ∀ i ∈ storeRows2 s c ix u rn rd off, stops i.instr) ∧
    (rd = 15 → stops (.ldrb c ix u rn rd off) ∧ stops (.strb c ix u rn rd off) ∧ stops (.ldrt c u rn rd off) ∧
      stops (.ldrbt c u rn rd off) ∧ stops (.strbt c u rn rd off)) ∧
    (mode3 ∨ rd = 15 → stops (.ldrh c ix u rn rd off3) ∧ stops (.ldrsb c ix u rn rd off3) ∧
      stops (.ldrsh c ix u rn rd off3) ∧ stops (.strh c ix u rn rd off3)) ∧
    (¬ mode3 → rd ≠ 15 → s.alignChecked = false → (accessAddress ix u (s.reg rn) (s.offset3 off3)).toNat % 2 = 1 →
      exec (.ldrh c ix u rn rd off3) s = .refused .unpredictableAlignment ∧
      exec (.ldrsh c ix u rn rd off3) s = .refused .unpredictableAlignment ∧
      exec (.strh c ix u rn rd off3) s = .refused .unpredictableAlignment) ∧
    (rd.toNat % 2 = 0 →
      (rd = 14 ∨ mode3 → stops (.ldrd c ix u rn rd off3) ∧ stops (.strd c ix u rn rd off3)) ∧
      (off3.reg? = some rd ∨ off3.reg? = some (rd + 1) ∨ (ix ≠ .offset ∧ rn = rd + 1) → stops (.ldrd c ix u rn rd off3))) ∧
    (rd = 15 ∨ rm = 15 ∨ rn = 15 ∨ rn = rm ∨ rn = rd →
      (s.mode ≠ .dbg → stops (.swp c rn rd rm)) ∧ stops (.swpb c rn rd rm)) ∧
    (list = 0 ∨ rn = 15 → stops (.stm c m w rn list) ∧ stops (.stmUser c m w rn list)) ∧
    (w = true ∨ s.mode = .usr ∨ s.mode = .sys →
      stops (.stmUser c m w rn list) ∧ (s.mode ≠ .dbg → stops (.ldmUser c m w rn low))) ∧
    (s.mode ≠ .dbg →
      (list = 0 ∨ rn = 15 ∨ (w = true ∧ bitAt list rn.toNat = true) → stops (.ldm c m w rn list)) ∧
      (low = 0 ∨ rn = 15 → stops (.ldmUser c m w rn low)) ∧
      (s.spsrOf s.mode = none → exec (.ldmRet c m w rn low) s = .refused .noSpsr) ∧
      (s.spsrOf s.mode ≠ none → rn = 15 ∨ (w = true ∧ bitAt low rn.toNat = true) → stops (.ldmRet c m w rn low))) ∧
    (s.mode = .dbg →
      noDebug (.ldm c m w rn list) ∧ noDebug (.ldmUser c m w rn low) ∧ noDebug (.ldmRet c m w rn low) ∧
      noDebug (.swp c rn rd rm) ∧ (rd = 15 ∨ off.isRrx = true → noDebug (.ldr c ix u rn rd off))) ∧
    (off.namesPc = true → stops (.pld u rn off b)) ∧
    (rm = 15 → stops (.msrReg c r mask rm)) ∧
    (s.mode ≠ .usr → rd = 15 →
      (cp = 14 ∨ cp = 15 → stops (.mcr c op1 crn rd cp op2 crm)) ∧
      ∀ i ∈ functionInstrs c rd, i ≠ .readDCacheLock c rd → stops i)

/-- Every undefined encoding, ARM and Thumb, takes the Undefined Instruction exception, and SWI, ARM and Thumb, the
Software Interrupt exception: Undefined or Supervisor mode, the link is the next instruction, the vector is 0x04 or
0x08, F does not change, and neither memory nor a register of another bank changes (R670, R672, R673;
30_encoding.md R296, R301, 41_coprocessor_access.md R367, R385, 45_arm_branch_status.md R555, R557, 46_thumb.md
R651). That encodings no rule defines are Undefined is the spec's own decision (92 D25-D27, log entry 28); that
both exceptions are refused in Special Debug State is the model's choice (93 U32, log entry 65). -/
def Obligations.UndefinedAndSwiAreTaken : Prop :=
  ∀ (s : State) (c : Cond) (low28 : BitVec 28) (low20 : BitVec 20) (low16 : BitVec 16) (low12 : BitVec 12) (low10 : BitVec 10)
    (imm24 : BitVec 24) (b : Byte) (x4 y4 z4 w4 v4 : BitVec 4) (a3 b3 : BitVec 3) (l k : Bool),
    let takes (i : Instr) (m : Mode) (vector : Word) : Prop :=
      if s.sds then exec i s = .refused .exceptionInSds else TakesException (exec i s) s m vector s.nextPc
    let undefined (i : Instr) : Prop := takes i .und 0x04
    undefined (.undefUncond low28) ∧ undefined (.tUndefMisc low12) ∧ undefined (.tUndefDE b) ∧
    undefined (.tUndefBlx low10) ∧ undefined (.tUndefRest low16) ∧ takes (.tSwi b) .svc 0x08 ∧
    (s.passed c = true →
      undefined (.undefBkptCond c low12 x4) ∧ undefined (.undefMulSpace c low28) ∧ undefined (.undefArch c low28) ∧
      undefined (.cp0TransferOther c l x4 y4 b) ∧ undefined (.cp0Other c a3 l x4 y4 b3 k z4) ∧
      undefined (.mcrr c x4 y4 z4 w4 v4) ∧ undefined (.mrrc c x4 y4 z4 w4 v4) ∧ undefined (.undefLdcStc c l low20) ∧
      undefined (.cdp c x4 y4 z4 w4 a3 v4) ∧ undefined (.undefRest c low28) ∧ takes (.swi c imm24) .svc 0x08)

/-- What is not allowed takes the Undefined Instruction exception: coprocessor 0 with CPAR bit 0 clear, coprocessors 14
and 15 in User mode, LDC and STC to another coprocessor than 14, MCR and MRC to another than 14 and 15, and LDRD
and STRD of an odd register (10_state.md R46, 41_coprocessor_access.md R360, R368, 44_arm_load_store.md R507,
R508). -/
def Obligations.ForbiddenTraps : Prop :=
  ∀ (s : State) (c : Cond) (rs rm rn rd : Reg) (op1 op2 : BitVec 3) (crn crm cp : BitVec 4) (p u n w : Bool) (b : Byte)
    (ix : Indexing) (off : Offset3), s.passed c = true → s.sds = false →
    let traps (i : Instr) : Prop := TakesException (exec i s) s .und 0x04 s.nextPc
    (bitAt s.cp15.cpar 0 = false →
      (∀ r ∈ accumulateRows s c rs rm, traps r.1) ∧ traps (.mar c rs rm) ∧ traps (.mra c rs rm)) ∧
    (s.mode = .usr ∨ (cp ≠ 14 ∧ cp ≠ 15) →
      traps (.mcr c op1 crn rd cp op2 crm) ∧ traps (.mrc c op1 crn rd cp op2 crm)) ∧
    (s.mode = .usr ∨ cp ≠ 14 → traps (.ldc c p u n w rn crn cp b) ∧ traps (.stc c p u n w rn crn cp b)) ∧
    (s.mode = .usr → ∀ i ∈ functionInstrs c rd, traps i) ∧
    (rd.toNat % 2 = 1 → traps (.ldrd c ix u rn rd off) ∧ traps (.strd c ix u rn rd off))

/-- BKPT, ARM and Thumb: nothing while debug is off or in Special Debug State; in Halt mode DEBUG mode and Special
Debug State at the reset vector; in Monitor mode a prefetch abort with FSR[9] set; in both the link is the PC + 4,
MOE says software, and the trace buffer is disabled (45_arm_branch_status.md R556, 61_debug_and_jtag.md R766, R772,
R773). R13_dbg after the entry is a free value, so it is not named. -/
def Obligations.BreakpointIsTaken : Prop :=
  ∀ (s : State) (immHi : BitVec 12) (immLo : BitVec 4) (imm8 : Byte) (i : Instr),
    (i = .bkpt immHi immLo ∨ i = .tBkpt imm8) →
    let base : Word := if bitAt s.cp15.control 13 then 0xFFFF0000 else 0
    (bitAt s.cp14.dcsr 31 = false ∨ s.sds = true → s.hasNext →
      Completes (exec i s) s [] s.nzcv s.flagQ s.core.acc0) ∧
    (bitAt s.cp14.dcsr 31 = true → s.sds = false → bitAt s.cp14.dcsr 30 = true →
      ∃ t, exec i s = .next t ∧ t.core.pc = base ∧ t.bankedReg .dbg 14 = s.core.pc + 4 ∧ t.spsrOf .dbg = some s.core.cpsr ∧
        field t.core.cpsr 0 8 = 0xD5 ∧ field t.core.cpsr 8 24 = field s.core.cpsr 8 24 ∧ t.sds = true ∧
        field t.cp14.dcsr 2 3 = 3 ∧ bitAt t.cp14.dcsr 0 = false ∧ t.cp15 = s.cp15 ∧ t.core.acc0 = s.core.acc0 ∧
        (∀ p : Fin 32, p ≠ (physReg .dbg 13).toFin → p ≠ (physReg .dbg 14).toFin → t.core.regs[p] = s.core.regs[p]) ∧
        SameMemory s t) ∧
    (bitAt s.cp14.dcsr 31 = true → s.sds = false → bitAt s.cp14.dcsr 30 = false →
      ∃ t, exec i s = .next t ∧ ExceptionAfter s t .abt false 0x0C (s.core.pc + 4) ∧ bitAt t.cp15.fsr 9 = true ∧
        t.sds = false ∧ field t.cp14.dcsr 2 3 = 3 ∧ bitAt t.cp14.dcsr 0 = false ∧
        { t.cp15 with fsr := s.cp15.fsr, far := s.cp15.far } = s.cp15)

/-! Branches (45_arm_branch_status.md R540-R546, 46_thumb.md R646-R650). -/

/-- B, BL and BLX(1) in ARM state: the target is the address + 8 + four times the signed offset, BL and BLX write the
next address to R14, BLX enters Thumb state, with H two bytes further on; no flag, memory byte or other register
changes (R541-R544). -/
def Obligations.ArmBranches : Prop :=
  ∀ (s : State) (c : Cond) (imm24 : BitVec 24) (h : Bool), s.thumb = false →
    let target := s.core.pc + 8 + BitVec.ofInt 32 (4 * imm24.toInt)
    let linked : Core := { s.core with regs := s.core.regs.set (physReg s.mode 14).toFin (s.core.pc + 4) }
    (s.passed c = true →
      BranchesTo (exec (.b c imm24) s) s { s.core with pc := target } ∧
      BranchesTo (exec (.bl c imm24) s) s { linked with pc := target }) ∧
    JumpsTo (exec (.blxImm h imm24) s) s
      { linked with pc := target + (if h then 2 else 0), cpsr := s.core.cpsr ||| 0x20 }

/-- BX and BLX(2), ARM and Thumb: T is bit 0 of the register's value, which is read before R14 is written, and the PC
is the value without it; the BTB learns nothing (R545, R546, R649, R650). That an ARM target off a word boundary
and BLX of R15, which these rules call UNPREDICTABLE, are refused is the model's choice (93 U30, log entry 61). -/
def Obligations.ExchangeBranches : Prop :=
  ∀ (s : State) (c : Cond) (rm : Reg) (h2 : Bool) (r3 : LowReg),
    let linked (v : Word) : Core := { s.core with regs := s.core.regs.set (physReg s.mode 14).toFin v }
    (s.passed c = true → Exchanges (exec (.bx c rm) s) s s.core (s.reg rm)) ∧
    (s.passed c = true → s.thumb = false → rm ≠ 15 →
      Exchanges (exec (.blxReg c rm) s) s (linked (s.core.pc + 4)) (s.reg rm)) ∧
    (s.passed c = true → rm = 15 → exec (.blxReg c rm) s = .refused .unpredictableOperands) ∧
    Exchanges (exec (.tBx h2 r3) s) s s.core (s.reg (highReg h2 r3)) ∧
    (s.thumb = true → highReg h2 r3 ≠ 15 →
      Exchanges (exec (.tBlxReg h2 r3) s) s (linked ((s.core.pc + 2) ||| 1)) (s.reg (highReg h2 r3))) ∧
    (highReg h2 r3 = 15 → exec (.tBlxReg h2 r3) s = .refused .unpredictableOperands)

/-- The Thumb branches: the conditional and the unconditional B, and the two halves of BL and BLX(1), each an
instruction of its own (R646-R648). That the second half of BL clears bit 0 of its target is not printed in R648;
it follows from 10_state.md R34, by which bit 0 of the PC is 0. -/
def Obligations.ThumbBranches : Prop :=
  ∀ (s : State) (c : Cond) (imm8 : Byte) (imm11 : BitVec 11) (imm10 : BitVec 10), s.thumb = true →
    let linked : Core := { s.core with regs := s.core.regs.set (physReg s.mode 14).toFin ((s.core.pc + 2) ||| 1) }
    (s.passed c = true →
      BranchesTo (exec (.tBCond c imm8) s) s { s.core with pc := s.core.pc + 4 + BitVec.ofInt 32 (2 * imm8.toInt) }) ∧
    BranchesTo (exec (.tB imm11) s) s { s.core with pc := s.core.pc + 4 + BitVec.ofInt 32 (2 * imm11.toInt) } ∧
    (s.hasNext → Completes (exec (.tBlHead imm11) s) s [(14, s.core.pc + 4 + BitVec.ofInt 32 (4096 * imm11.toInt))] s.nzcv
      s.flagQ s.core.acc0) ∧
    BranchesTo (exec (.tBlSuffix imm11) s) s
      { linked with pc := (s.reg 14 + BitVec.ofNat 32 (2 * imm11.toNat)) &&& 0xFFFFFFFE } ∧
    JumpsTo (exec (.tBlxSuffix imm10) s) s
      { linked with pc := (s.reg 14 + BitVec.ofNat 32 (4 * imm10.toNat)) &&& 0xFFFFFFFC, cpsr := s.core.cpsr &&& 0xFFFFFFDF }

/-! Status registers (45_arm_branch_status.md R550, R551). -/

/-- MRS reads the CPSR in every mode and the SPSR of a mode that has one (R550). What bits 26:8 read as is the spec's
own decision (92 D13, log entry 16); that the SPSR of User or System mode and Rd = 15, which R550 calls
UNPREDICTABLE, are refused is the model's choice (93 U31, log entry 61). -/
def Obligations.StatusRead : Prop :=
  ∀ (s : State) (c : Cond) (rd : Reg), s.passed c = true → s.hasNext →
    (rd ≠ 15 → Completes (exec (.mrs c false rd) s) s [(rd, s.core.cpsr)] s.nzcv s.flagQ s.core.acc0) ∧
    (∀ w, rd ≠ 15 → s.spsrOf s.mode = some w →
      Completes (exec (.mrs c true rd) s) s [(rd, w)] s.nzcv s.flagQ s.core.acc0) ∧
    (rd = 15 ∨ s.mode = .usr ∨ s.mode = .sys → exec (.mrs c true rd) s = .refused .noSpsr) ∧
    (rd = 15 → exec (.mrs c false rd) s = .refused .noSpsr)

/-- MSR, immediate and register: the bytes of the mask are written, to the CPSR in User mode the highest only, in a
privileged mode all of them but T; or to the SPSR of the mode; no register changes (R551, R552). The mode that is
written must be one that MSR may write (93 U31, U33); that DEBUG mode is none but in DEBUG mode itself is the
model's choice (log entry 47). That T is kept is the spec's own decision (92 D30, log entry 31), and so are bits
26:8 (92 D13, log entry 16). -/
def Obligations.StatusWrite : Prop :=
  ∀ (s : State) (c : Cond) (mask rot : BitVec 4) (imm : Byte) (rm : Reg), s.passed c = true → s.hasNext →
    let ends (i : State → Result) (v : Word) (r : Bool) : Prop :=
      (r = false →
        (s.mode ≠ .usr → bitAt mask 0 = true →
          ∃ m, Mode.ofBits (field v 0 5) = some m ∧ (m = .dbg → s.mode = .dbg) ∧ (m = .usr → s.sds = false)) →
        ∃ t, i s = .next t ∧ t.core = { s.core with pc := s.nextPc, cpsr := t.core.cpsr } ∧ SystemIs s t ∧
          ∀ k, k < 32 → bitAt t.core.cpsr k =
            (if bitAt mask (k / 8) = true ∧ (s.mode = .usr → 24 ≤ k) ∧ k ≠ 5 then bitAt v k else bitAt s.core.cpsr k)) ∧
      (r = true → ∀ w, s.spsrOf s.mode = some w →
        ∃ t x, i s = .next t ∧ t.core = { s.core with pc := s.nextPc, spsrs := t.core.spsrs } ∧ SystemIs s t ∧
          t.spsrOf s.mode = some x ∧ (∀ m, m.spsrIndex ≠ s.mode.spsrIndex → t.spsrOf m = s.spsrOf m) ∧
          ∀ k, k < 32 → bitAt x k = (if bitAt mask (k / 8) = true then bitAt v k else bitAt w k)) ∧
      (r = true → s.spsrOf s.mode = none → i s = .refused .noSpsr)
    ∀ r : Bool, ends (exec (.msrImm c r mask rot imm)) ((imm.zeroExtend 32).rotateRight (2 * rot.toNat)) r ∧
      (rm ≠ 15 → ends (exec (.msrReg c r mask rm)) (s.reg rm) r)

/-! Loads and stores of one register (44_arm_load_store.md R490-R508). -/

/-- LDR, LDRB, LDRT, LDRBT, LDRH, LDRSB and LDRSH from memory, in every indexing form: Rd gets the value read, rotated,
zero-extended or sign-extended, the base is written back where the form says so, and nothing else changes
(R490-R496, R499, R503-R505; 20_memory.md R150, R157). The rotation of an unaligned word is the spec's own decision
(92 D10, log entry 13). -/
def Obligations.ArmLoads : Prop :=
  ∀ (s : State) (c : Cond) (ix : Indexing) (u : Bool) (rn rd : Reg),
    s.passed c = true → rd ≠ 15 → ix ≠ .postW → (ix = .offset ∨ (rn ≠ 15 ∧ rn ≠ rd)) → s.mode ≠ .dbg → s.hasNext →
    (∀ off : Offset2, off.namesPc = false → ∀ r ∈ loadRows2 s c ix u rn rd off, s.Direct r.va r.width →
      Loads (exec r.instr s) s s.mode
        ((rd, r.value (s.directValue r.va r.width)) :: baseAfter ix u rn (s.reg rn) (s.offset2 off))) ∧
    (∀ off : Offset3, off.namesPc = false → ∀ r ∈ loadRows3 s c ix u rn rd off, s.Direct r.va r.width →
      (r.width = .half → r.va.toNat % 2 = 0) →
      Loads (exec r.instr s) s s.mode
        ((rd, r.value (s.directValue r.va r.width)) :: baseAfter ix u rn (s.reg rn) (s.offset3 off)))

/-- STR, STRB, STRT, STRBT and STRH to memory, in every indexing form: the bytes at the address, aligned to the width,
hold the register, no other byte changes, and the base is written back where the form says so (R490-R493,
R497-R499, R506; 20_memory.md R157). That an unaligned word is stored aligned is the spec's own decision (92 D10,
log entry 13). -/
def Obligations.ArmStores : Prop :=
  ∀ (s : State) (c : Cond) (ix : Indexing) (u : Bool) (rn rd : Reg),
    s.passed c = true → rd ≠ 15 → ix ≠ .postW → (ix = .offset ∨ (rn ≠ 15 ∧ rn ≠ rd)) → s.hasNext →
    s.memCanonical = true →
    (∀ off : Offset2, off.namesPc = false → ∀ r ∈ storeRows2 s c ix u rn rd off, s.Direct r.va r.width →
      Stores (exec r.instr s) s r.va r.width (s.reg rd) (baseAfter ix u rn (s.reg rn) (s.offset2 off))) ∧
    (∀ off : Offset3, off.namesPc = false →
      let va := accessAddress ix u (s.reg rn) (s.offset3 off)
      s.Direct va .half → va.toNat % 2 = 0 →
      Stores (exec (.strh c ix u rn rd off) s) s va .half (s.reg rd) (baseAfter ix u rn (s.reg rn) (s.offset3 off)))

/-- A store of R15 by STR or STRT, in every indexing form, stores the instruction's address + 8 or + 12, one choice for
all of them (R494, R497; 92 D12); LDR of R15 branches with the T bit from bit 0, after the base is written back
(R494, R495). What is stored for R15 is a parameter (log entry 15). That LDR of R15 from an unaligned address with
Control.A = 0 (93 U8) and to an ARM target off a word boundary (93 U30), which R35 (c) calls UNPREDICTABLE, is
refused is the model's choice (log entry 61). -/
def Obligations.LoadAndStoreOfPc : Prop :=
  ∃ k : Word, (k = 8 ∨ k = 12) ∧ k = storePcOffset ∧
    ∀ (s : State) (c : Cond) (ix : Indexing) (u : Bool) (rn : Reg) (off : Offset2),
      s.passed c = true → off.namesPc = false → ix ≠ .postW → (ix = .offset ∨ rn ≠ 15) →
      let va := accessAddress ix u (s.reg rn) (s.offset2 off)
      let base := baseAfter ix u rn (s.reg rn) (s.offset2 off)
      s.Direct va .word →
      (s.hasNext → s.memCanonical = true →
        Stores (exec (.str c ix u rn 15 off) s) s va .word (s.core.pc + k) base ∧
        (ix = .postIndexed → Stores (exec (.strt c u rn 15 off) s) s va .word (s.core.pc + k) base)) ∧
      (s.mode ≠ .dbg → va.toNat % 4 = 0 →
        Exchanges (exec (.ldr c ix u rn 15 off) s) s (s.core.wrote s.mode base) (s.directValue va .word)) ∧
      (s.mode ≠ .dbg → va.toNat % 4 ≠ 0 → s.alignChecked = false →
        exec (.ldr c ix u rn 15 off) s = .refused .unpredictableAlignment)

/-- LDRD and STRD of an even register at a multiple of 8: the even register is at the lower address, the odd one at the
higher (R507, R508; 20_memory.md R154), and the base is written back where the form says so. -/
def Obligations.DoublewordTransfers : Prop :=
  ∀ (s : State) (c : Cond) (ix : Indexing) (u : Bool) (rn rd : Reg) (off : Offset3),
    let va := accessAddress ix u (s.reg rn) (s.offset3 off)
    s.passed c = true → rd.toNat % 2 = 0 → rd ≠ 14 → ix ≠ .postW → (ix = .offset ∨ (rn ≠ 15 ∧ rn ≠ rd)) →
    off.namesPc = false → s.midBus = [] → va.toNat % 8 = 0 → s.Direct va .word → s.Direct (va + 4) .word → s.hasNext →
    ((ix = .offset ∨ rn ≠ rd + 1) → off.reg? ≠ some rd → off.reg? ≠ some (rd + 1) →
      Loads (exec (.ldrd c ix u rn rd off) s) s s.mode
        ([(rd, s.directValue va .word), (rd + 1, s.directValue (va + 4) .word)] ++
          baseAfter ix u rn (s.reg rn) (s.offset3 off))) ∧
    (s.memCanonical = true →
      ∃ t, exec (.strd c ix u rn rd off) s = .next t ∧
        WritesBank s t s.mode (baseAfter ix u rn (s.reg rn) (s.offset3 off)) ∧ t.core.pc = s.nextPc ∧
        t.core.cpsr = s.core.cpsr ∧ t.core.spsrs = s.core.spsrs ∧ t.core.acc0 = s.core.acc0 ∧
        t.directValue va .word = s.reg rd ∧ t.directValue (va + 4) .word = s.reg (rd + 1) ∧
        (∀ pa, ¬ s.storedAt va .word pa → ¬ s.storedAt (va + 4) .word pa → t.memByte pa = s.memByte pa) ∧
        t.btb = s.btb ∧ SameElsewhere s t)

/-- PLD changes no register and no flag, and nothing at all where R515 and 20_memory.md R172 have it do nothing: with the
MMU or the data cache off, without a TLB entry, where the access would take a domain or permission fault, for a page
with C = 0, for a line that is resident or on its way, and where a load would be unpredictable (log entry 79). For
any other line it starts one line fill, into the data cache or the mini-data cache, of the bytes that the data side
sees (20_memory.md R209, R246): nothing else changes where the fill buffer has room and no buffered write must go out
first; and where it is full, or coalescing is disabled, or such a write is there, with clean caches and memory
everywhere, the oldest request or all of them return first and the data side sees every byte as before (R232, R247).
That the line is read when it is requested and becomes resident later is log entry 43. -/
def Obligations.PreloadIsAHint : Prop :=
  ∀ (s : State) (u : Bool) (rn : Reg) (off : Offset2) (b : Bool), off.namesPc = false → s.hasNext →
    let mva := s.mva (addedOffset u (s.reg rn) (s.offset2 off))
    let nothing : Prop := CompletesAs (exec (.pld u rn off b) s) s s
    (s.mmuOn = false ∨ s.dcacheOn = false ∨ s.dtlb.lookup mva = none → nothing) ∧
    ((s.dataHit (lineOf mva)).isSome = true ∨ (s.pendingFill (lineOf mva)).isSome = true → nothing) ∧
    (∀ e : TlbEntry, s.mmuOn = true → s.dcacheOn = true → s.dtlb.lookup mva = some e →
      let mini := e.x && !e.b
      let fill : FillEntry := { alloc := true, line := lineOf mva, paLine := lineOf (e.pa mva), mini := mini
                                data := s.readLine (lineOf (e.pa mva)), aborts := false }
      (s.checkAccess e mva s.privileged false ≠ .ok none ∨ e.c = false → nothing) ∧
      (mini = true → s.miniPolicy = 3 ∨ s.cp15.dlock = true → nothing) ∧
      (s.checkAccess e mva s.privileged false = .ok none → e.c = true →
        (mini = true → s.miniPolicy ≠ 3 ∧ s.cp15.dlock = false) →
        s.dataHit (lineOf mva) = none → s.pendingFill (lineOf mva) = none →
        (s.fillBuf.length < 4 →
          (bitAt s.cp15.aux 0 = false ∧ ∀ x ∈ s.writeBuf, x.coalesces = true) ∨ (s.fillBuf = [] ∧ s.writeBuf = []) →
          s.Answers .read (lineOf (e.pa mva) ++ 0#5) 32 →
          CompletesAs (exec (.pld u rn off b) s) s { s with fillBuf := s.fillBuf ++ [fill] }) ∧
        (s.platform = [] → s.extAborts = none → s.memCanonical = true → s.pendBuf = [] →
          (∀ d ∈ s.dcache.lines ++ s.miniDCache.lines, d.2.dirtyLow = false ∧ d.2.dirtyHigh = false) →
          ∃ t, exec (.pld u rn off b) s = .next t ∧ t.core = { s.core with pc := s.nextPc } ∧
            (∀ pa, t.dataByte pa = s.dataByte pa) ∧
            t.fillBuf = (if bitAt s.cp15.aux 0 then [] else if s.fillBuf.length < 4 then s.fillBuf else s.fillBuf.drop 1) ++
              [fill]))) ∧
    (∀ t, exec (.pld u rn off b) s = .next t → t.core = { s.core with pc := s.nextPc })

/-! Loads and stores of several registers, swaps (44_arm_load_store.md R520-R531). -/

/-- LDM(1), LDM(2) and LDM(3) from memory: the registers in ascending order get the words in ascending order from the
start address of the mode, LDM(2) into the User bank, the base is written back; R15 in the list branches with the T
bit from bit 0, and in LDM(3) the CPSR is the SPSR (R520-R523). The start address and the new base of IA, IB, DA and
DB are those of the table of R520. That LDM(1) refuses a word for R15 whose bits 1:0
are 10, which R35 (c) calls UNPREDICTABLE, is the model's choice (93 U30, log entry 61). -/
def Obligations.LoadMultiple : Prop :=
  ∀ (s : State) (c : Cond) (m : BlockMode) (w : Bool) (rn : Reg) (list : BitVec 16) (low : BitVec 15),
    s.passed c = true → s.mode ≠ .dbg → rn ≠ 15 →
    (∀ n, ∀ r ∈ blockRows (s.reg rn) n, blockAddress r.1 (s.reg rn) n = r.2) ∧
    let start (l : BitVec 16) : Word := (blockAddress m (s.reg rn) (listRegs l).length).1
    let wrote (l : BitVec 16) : List (Reg × Word) :=
      s.directBlock (start l) (listRegs (l &&& 0x7FFF)) ++
        (if w then [(rn, (blockAddress m (s.reg rn) (listRegs l).length).2)] else [])
    let pcWord (l : BitVec 16) : Word := s.directValue (start l + BitVec.ofNat 32 (4 * (listRegs (l &&& 0x7FFF)).length)) .word
    (list ≠ 0 → (w = true → bitAt list rn.toNat = false) → s.DirectBlock (start list) (listRegs list).length →
      (bitAt list 15 = false → s.hasNext → Loads (exec (.ldm c m w rn list) s) s s.mode (wrote list)) ∧
      (bitAt list 15 = true →
        if bitAt (pcWord list) 0 = false ∧ bitAt (pcWord list) 1 = true then
          exec (.ldm c m w rn list) s = .refused .unalignedTarget
        else ∃ t, exec (.ldm c m w rn list) s = .next t ∧ WritesBank s t s.mode (wrote list) ∧
          t.core = { exchangeCore s.core (pcWord list) with regs := t.core.regs } ∧ SameMemory s t ∧ t.btb = s.btb ∧
          SameElsewhere s t)) ∧
    (low ≠ 0 → s.mode ≠ .usr → s.mode ≠ .sys → s.DirectBlock (start (0#1 ++ low)) (listRegs (0#1 ++ low)).length →
      s.hasNext →
      Loads (exec (.ldmUser c m false rn low) s) s .usr (s.directBlock (start (0#1 ++ low)) (listRegs (0#1 ++ low)))) ∧
    (∀ (x : Word) (m' : Mode), s.spsrOf s.mode = some x → Mode.ofBits (field x 0 5) = some m' → m' ≠ .dbg →
      (w = true → bitAt low rn.toNat = false) → s.DirectBlock (start (1#1 ++ low)) (listRegs (1#1 ++ low)).length →
      ∃ t, exec (.ldmRet c m w rn low) s = .next t ∧ WritesBank s t s.mode (wrote (1#1 ++ low)) ∧
        t.core = { s.core with
          regs := t.core.regs, cpsr := x, pc := pcWord (1#1 ++ low) &&& (if bitAt x 5 then 0xFFFFFFFE else 0xFFFFFFFC) } ∧
        SameMemory s t ∧ t.btb = s.btb ∧ SameElsewhere { s with sds := false } t)

/-- STM(1) and STM(2) to memory complete: the registers in ascending order are at the words in ascending order from the
start address of the mode, STM(2) from the User bank; R15 is stored as by every other store, no other byte changes,
and the base is written back (R520, R524). The start address and the new base of IA, IB, DA and DB are those of the
table of R520. What is stored for R15 is a parameter (92 D12, log entry 15); for a base
that is written back and is not the lowest register it is a free value, of which nothing is said (93 U16, log entry
45). -/
def Obligations.StoreMultiple : Prop :=
  ∀ (s : State) (c : Cond) (m : BlockMode) (w : Bool) (rn : Reg) (list : BitVec 16),
    let n := (listRegs list).length
    let start := (blockAddress m (s.reg rn) n).1
    let lane (k : Nat) : Word := s.directLane (start + BitVec.ofNat 32 (4 * k)) .word
    s.passed c = true → rn ≠ 15 → list ≠ 0 → s.DirectBlock start n → s.memCanonical = true → s.hasNext →
    (∀ j k, j < k → k < n → lane j ≠ lane k) →
    (∀ r ∈ blockRows (s.reg rn) n, blockAddress r.1 (s.reg rn) n = r.2) ∧
    (∃ t, exec (.stm c m w rn list) s = .next t ∧
      BlockStored s t start s.mode w rn list (if w then [(rn, (blockAddress m (s.reg rn) n).2)] else [])) ∧
    (s.mode ≠ .usr → s.mode ≠ .sys →
      ∃ t, exec (.stmUser c m false rn list) s = .next t ∧ BlockStored s t start .usr false rn list [])

/-- SWP and SWPB on memory: Rd gets the old value, rotated for an unaligned word and zero-extended for a byte, the
bytes at the address get Rm as it was before, and nothing else changes (R530, R531). The unaligned word is the
spec's own decision (92 D10, log entry 13). -/
def Obligations.SwapResult : Prop :=
  ∀ (s : State) (c : Cond) (rn rd rm : Reg), s.passed c = true → s.hasNext → s.memCanonical = true →
    rn ≠ 15 → rd ≠ 15 → rm ≠ 15 → rn ≠ rm → rn ≠ rd →
    let va := s.reg rn
    (s.mode ≠ .dbg → s.Direct va .word →
      Stores (exec (.swp c rn rd rm) s) s va .word (s.reg rm) [(rd, rotated va (s.directValue va .word))]) ∧
    (s.Direct va .byte →
      Stores (exec (.swpb c rn rd rm) s) s va .byte (s.reg rm) [(rd, s.directValue va .byte)])

/-! Thumb (46_thumb.md). -/

/-- The Thumb instructions that compute: those that write a low register and the flags, the compares and TST, and those
without flags, with R15 as the destination of ADD(4) and MOV(3) a branch that stays in Thumb state (R590-R624).
That MUL leaves C and V unchanged is the spec's own decision (92 D14, log entry 17). -/
def Obligations.ThumbResults : Prop :=
  ∀ (s : State) (rd ra rb : LowReg) (i3 : BitVec 3) (i5 : BitVec 5) (i7 : BitVec 7) (i8 : Byte) (h1 h2 : Bool),
    s.thumb = true → s.hasNext →
    (∀ r ∈ thumbSumRows s rd ra rb i3 i8, Completes (exec r.instr s) s [(rd.reg, r.value)] (resultFlags r.value r.c r.v)
      s.flagQ s.core.acc0) ∧
    (∀ r ∈ thumbLogicRows s rd ra i5 i8, Completes (exec r.instr s) s [(rd.reg, r.value)] (resultFlags r.value r.c r.v)
      s.flagQ s.core.acc0) ∧
    (∀ r ∈ thumbTestRows s ra rb i8 h1 h2, Completes (exec r.instr s) s [] (resultFlags r.value r.c r.v) s.flagQ
      s.core.acc0) ∧
    (∀ r ∈ thumbMoveRows s rd ra h1 h2 i7 i8,
      if r.2.1 = 15 then JumpsTo (exec r.1 s) s { s.core with pc := r.2.2 &&& 0xFFFFFFFE }
      else Completes (exec r.1 s) s [r.2] s.nzcv s.flagQ s.core.acc0)

/-- The Thumb loads and stores of one register (R625-R641). An unaligned word is as in ARM state (92 D10, log entry
13). -/
def Obligations.ThumbLoadsAndStores : Prop :=
  ∀ (s : State) (rd ra rb : LowReg) (i5 : BitVec 5) (i8 : Byte), s.thumb = true → s.hasNext →
    (∀ r ∈ thumbLoadRows s rd ra rb i5 i8, s.Direct r.va r.width → (r.width = .half → r.va.toNat % 2 = 0) →
      Loads (exec r.instr s) s s.mode [(rd.reg, r.value (s.directValue r.va r.width))]) ∧
    (∀ r ∈ thumbStoreRows s rd ra rb i5 i8, s.Direct r.va r.width → (r.width = .half → r.va.toNat % 2 = 0) →
      s.memCanonical = true → Stores (exec r.instr s) s r.va r.width (s.reg rd.reg) [])

/-- LDMIA, STMIA, PUSH and POP are the ARM load and store multiples they expand to (R582, R642-R645): LDMIA and STMIA
with write-back, LDMIA without it where the base is in the list, PUSH a decrement before and POP an increment after
on R13, with R14 or R15; and on memory, for a list that is not empty, they complete, with the base moved by four
bytes a register, or loaded where LDMIA loads it. -/
def Obligations.ThumbMultiples : Prop :=
  ∀ (s : State) (rn : LowReg) (list : Byte) (r : Bool), s.thumb = true →
    let wide (high : BitVec 8) : BitVec 16 := high ++ list
    let regs := listRegs (wide 0)
    let size := BitVec.ofNat 32 (4 * regs.length)
    (bitAt list rn.toNat = false → exec (.tLdmia rn list) s = exec (.ldm .al .ia true rn.reg (wide 0)) s) ∧
    (bitAt list rn.toNat = true → exec (.tLdmia rn list) s = exec (.ldm .al .ia false rn.reg (wide 0)) s) ∧
    exec (.tStmia rn list) s = exec (.stm .al .ia true rn.reg (wide 0)) s ∧
    exec (.tPush r list) s = exec (.stm .al .db true 13 (wide (if r then 0x40 else 0))) s ∧
    exec (.tPop r list) s = exec (.ldm .al .ia true 13 (wide (if r then 0x80 else 0))) s ∧
    (list ≠ 0 → s.hasNext →
      (s.mode ≠ .dbg → s.DirectBlock (s.reg rn.reg) regs.length →
        Loads (exec (.tLdmia rn list) s) s s.mode
          (s.directBlock (s.reg rn.reg) regs ++ (if bitAt list rn.toNat then [] else [(rn.reg, s.reg rn.reg + size)]))) ∧
      (s.mode ≠ .dbg → s.DirectBlock (s.reg 13) regs.length →
        Loads (exec (.tPop false list) s) s s.mode (s.directBlock (s.reg 13) regs ++ [(13, s.reg 13 + size)])) ∧
      (s.DirectBlock (s.reg rn.reg) regs.length →
        ∃ t, exec (.tStmia rn list) s = .next t ∧ WritesBank s t s.mode [(rn.reg, s.reg rn.reg + size)] ∧
          t.core.pc = s.nextPc) ∧
      (s.DirectBlock (s.reg 13 - size) regs.length →
        ∃ t, exec (.tPush false list) s = .next t ∧ WritesBank s t s.mode [(13, s.reg 13 - size)] ∧ t.core.pc = s.nextPc))

/-! Coprocessors 15 and 14 (10_state.md R60-R114, 41_coprocessor_access.md). -/

/-- MCR to a register of CP15 in a privileged mode writes the register's writable bits and nothing else (10_state.md
R62-R99; 41_coprocessor_access.md R363, R378): ID and Cache Type ignore the write, Control keeps its constant bits,
a write of the PID empties the BTB, and the breakpoint registers are not written in Halt mode outside Special Debug
State. Only the model's record of old code may change with Control or the PID (log entry 44). The lock of the
breakpoint registers and the refusals (93 U10, U40) are log entries 21, 61 and 63, that bits 13:1 of CPAR are
stored is the spec's own decision (92 D15, log entry 18), and that a write acts at once is log entry 38. -/
def Obligations.Cp15RegisterWrites : Prop :=
  ∀ (s : State) (c : Cond) (rd : Reg), s.passed c = true → s.mode ≠ .usr → rd ≠ 15 → s.hasNext →
    let v := s.reg rd
    let write (crn crm : BitVec 4) (op2 : BitVec 3) : Result := exec (.mcr c 0 crn rd 15 op2 crm) s
    (∀ r ∈ cp15Writes s.cp15 v, CompletesAs (write r.1 r.2.1 r.2.2.1) s { s with cp15 := r.2.2.2 }) ∧
    (bitAt v 2 = false ∨ bitAt v 0 = true →
      ∃ old, (bitAt v 0 = s.mmuOn → old = s.stale.maps) ∧
        CompletesAs (write 1 0 0) s
          { s with cp15 := { s.cp15 with control := (v &&& 0x3B87) ||| 0x78 }, stale := { s.stale with maps := old } }) ∧
    (bitAt v 2 = true → bitAt v 0 = false → write 1 0 0 = .refused .invalidCacheEnable) ∧
    (∃ old, (v &&& 0xFE000000 = s.cp15.pid → old = s.stale.pids) ∧
      CompletesAs (write 13 0 0) s
        { s with cp15 := { s.cp15 with pid := v &&& 0xFE000000 }, btb := [], stale := { s.stale with pids := old } }) ∧
    (s.haltMode = false ∨ s.sds = true → (bitAt v 0 = true → s.debugOn = true) →
      ∀ r ∈ bkptWrites s.cp15 v, CompletesAs (write 14 r.1 r.2.1) s { s with cp15 := r.2.2 }) ∧
    (s.haltMode = true → s.sds = false → ∀ r ∈ bkptWrites s.cp15 v, CompletesAs (write 14 r.1 r.2.1) s s) ∧
    (s.haltMode = false ∨ s.sds = true → bitAt v 0 = true → s.debugOn = false →
      write 14 8 0 = .refused .breakpointWithDebugOff ∧ write 14 9 0 = .refused .breakpointWithDebugOff)

/-- MRC of a register of CP15 in a privileged mode: Rd holds the register on the bits that the spec gives, the other
bits are free values, and nothing else changes (10_state.md R62-R99; 41_coprocessor_access.md R364). Bits 12:10 and
3:0 of the ID are parameters (92 D7, log entry 57), and that bits 13:1 of CPAR read back is the spec's own decision
(92 D15, log entry 18), and so is that the breakpoint registers are read in Halt mode outside Special Debug State
as elsewhere (92 D18, log entry 21). The write-only registers are refused (93 U5, log entry 61). -/
def Obligations.Cp15RegisterReads : Prop :=
  ∀ (s : State) (c : Cond) (rd : Reg), s.passed c = true → s.mode ≠ .usr →
    (rd ≠ 15 → s.hasNext →
      ∀ r ∈ cp15Reads s.cp15, ReadsSpecial (exec (.mrc c 0 r.1 rd 15 r.2.2.1 r.2.1) s) s rd r.2.2.2.1 r.2.2.2.2) ∧
    (∀ (crm : BitVec 4) (op2 : BitVec 3), exec (.mrc c 0 7 rd 15 op2 crm) s = .refused .writeOnlyRegister ∧
      exec (.mrc c 0 8 rd 15 op2 crm) s = .refused .writeOnlyRegister ∧
      exec (.mrc c 0 10 rd 15 op2 crm) s = .refused .writeOnlyRegister)

/-- MCR and MRC of the registers of CP14 in a privileged mode with the trace buffer off (10_state.md R101-R113): a
write of TX sets TR, a read of RX clears RR, a write of PMNC clears the flags it writes as one and resets the
counters it names, and MRC of TXRXCTRL with Rd = 15 sets N, Z, C and V from its bits 31 to 28
(41_coprocessor_access.md R366). The writes of CCLKCFG and RX are the spec's own decisions (92 D16, D17, log
entries 19 and 20), and so is that DCSR is read in Halt mode outside Special Debug State as elsewhere (92 D18, log
entry 21). -/
def Obligations.Cp14Registers : Prop :=
  ∀ (s : State) (c : Cond) (rd : Reg), s.passed c = true → s.mode ≠ .usr → s.hasNext → s.traceOn = false →
    (rd ≠ 15 →
      (∀ r ∈ cp14Writes s.cp14 (s.reg rd),
        CompletesAs (exec (.mcr c 0 r.1 rd 14 0 0) s) s { s with cp14 := r.2 }) ∧
      (∀ r ∈ cp14Reads s.cp14, ReadsSpecial (exec (.mrc c 0 r.1 rd 14 0 0) s) s rd r.2.1 r.2.2) ∧
      (∃ t, exec (.mcr c 0 0 rd 14 0 0) s = .next t ∧ t.core = { s.core with pc := s.nextPc } ∧
        field t.cp14.pmnc 12 16 = field (s.reg rd) 12 16 ∧ field t.cp14.pmnc 3 4 = field (s.reg rd &&& 0x78) 3 4 ∧
        bitAt t.cp14.pmnc 0 = bitAt (s.reg rd) 0 ∧
        (∀ k, k = 8 ∨ k = 9 ∨ k = 10 → bitAt t.cp14.pmnc k = (bitAt s.cp14.pmnc k && !bitAt (s.reg rd) k)) ∧
        t.cp14.ccnt = (if bitAt (s.reg rd) 2 then 0 else s.cp14.ccnt) ∧
        t.cp14.pmn0 = (if bitAt (s.reg rd) 1 then 0 else s.cp14.pmn0) ∧
        t.cp14.pmn1 = (if bitAt (s.reg rd) 1 then 0 else s.cp14.pmn1) ∧
        t = { s with
          core := t.core
          cp14 := { s.cp14 with
            pmnc := t.cp14.pmnc, ccnt := t.cp14.ccnt, pmn0 := t.cp14.pmn0, pmn1 := t.cp14.pmn1 } }) ∧
      (∃ t, exec (.mrc c 0 9 rd 14 0 0) s = .next t ∧ WritesBank s t s.mode [(rd, s.cp14.rx)] ∧
        t.core = { s.core with pc := s.nextPc, regs := t.core.regs } ∧
        t = { s with core := t.core, cp14 := { s.cp14 with txrxctrl := s.cp14.txrxctrl &&& 0x7FFFFFFF } })) ∧
    Completes (exec (.mrc c 0 14 15 14 0 0) s) s []
      { n := bitAt s.cp14.txrxctrl 31, z := bitAt s.cp14.txrxctrl 30, c := bitAt s.cp14.txrxctrl 29,
        v := bitAt s.cp14.txrxctrl 28 } s.flagQ s.core.acc0

/-- MCR to PWRMODE in a privileged mode enters Idle or Sleep, or does nothing for 0, and is refused for 2
(60_exceptions.md R720, 93 U35); MCR to DCSR writes bit 31 and bits 5 to 0 and keeps the rest, and does nothing in
Halt mode outside Special Debug State (61_debug_and_jtag.md R769, 92 D18); MRC of TBREG with the trace buffer off
gives its oldest byte and clears it (R805). The debugger's side, TCK by TCK: the TAP controller, DBG_SR captured
from DCSR, TX with TR and RR, shifted, and at Update-DR its effect on DCSR, the hold of reset, the external break
and RX; what a new instruction, Test-Logic-Reset and TRST leave (R831-R847). That the capture clears TR, and how RX
is written, are the spec's own decisions (92 D33, D36, log entries 34, 36). The power modes, the lock of DCSR, the
JTAG side in Sleep and the refusals are log entries 33, 21, 74 and 61. That an MCR to DCSR which enables the trace
buffer starts its count at 0 and its checkpoints anew, and is itself the first instruction counted, is log entry 35. -/
def Obligations.PowerAndDebugRegisters : Prop :=
  (∀ (s : State) (c : Cond) (rd : Reg), s.passed c = true → s.mode ≠ .usr → rd ≠ 15 → s.hasNext →
    let v := s.reg rd
    let write (n : BitVec 4) : Result := exec (.mcr c 0 n rd 14 0 0) s
    let moves (t : State) : Prop := t.core = { s.core with pc := s.nextPc }
    (field v 0 2 = 0 → CompletesAs (write 7) s s) ∧
    (field v 0 2 = 1 → ∃ t, write 7 = .next t ∧ moves t ∧
      SystemIs { s with
        power := .idle
        cp14 := { s.cp14 with pmnc := t.cp14.pmnc, ccnt := t.cp14.ccnt, pmn0 := t.cp14.pmn0, pmn1 := t.cp14.pmn1 }
        freeCtr := t.freeCtr } t) ∧
    (field v 0 2 = 2 → write 7 = .refused .reservedPowerMode) ∧
    (field v 0 2 = 3 → ∃ u, CompletesAs (write 7) s u ∧
      u = { s with
        power := .sleep
        cp14 := { s.cp14 with
          pmnc := u.cp14.pmnc, ccnt := u.cp14.ccnt, pmn0 := u.cp14.pmn0, pmn1 := u.cp14.pmn1, chkpt0 := u.cp14.chkpt0,
          chkpt1 := u.cp14.chkpt1, dcsr := s.cp14.dcsr &&& 0xBF20FFFF }
        trace := u.trace
        jtag := u.jtag
        pending := { s.pending with extBreak := false }
        freeCtr := u.freeCtr } ∧
      u.jtag.tap = .testLogicReset ∧ u.jtag.ir = 0b11110 ∧ u.jtag.holdRst = false ∧ u.jtag.held = s.jtag.held) ∧
    (s.haltMode = false ∨ s.sds = true →
      ∃ t n k, write 10 = .next t ∧ moves t ∧ field t.cp14.dcsr 0 6 = field v 0 6 ∧ bitAt t.cp14.dcsr 31 = bitAt v 31 ∧
        (∀ k, 6 ≤ k → k < 31 → bitAt t.cp14.dcsr k = bitAt s.cp14.dcsr k) ∧
        (if s.traceOn = false ∧ t.traceOn = true then n = none ∧ k = 0 else n = s.trace.sinceCkpt ∧ k = s.trace.cnt) ∧
        SystemIs { s with cp14 := { s.cp14 with dcsr := t.cp14.dcsr }, trace := { s.trace with sinceCkpt := n, cnt := k } } t) ∧
    (s.haltMode = true → s.sds = false → CompletesAs (write 10) s s) ∧
    (s.traceOn = false →
      ∃ t, exec (.mrc c 0 11 rd 14 0 0) s = .next t ∧
        WritesBank s t s.mode [(rd, s.trace.buf[s.trace.p.toFin].zeroExtend 32)] ∧
        t.core = { s.core with pc := s.nextPc, regs := t.core.regs } ∧ t.trace.p = s.trace.p + 1 ∧
        t.trace.buf = s.trace.buf.set s.trace.p.toFin 0 ∧ t = { s with core := t.core, trace := t.trace })) ∧
  (∀ x : TapState, ((((x.next true).next true).next true).next true).next true = .testLogicReset) ∧
  (∀ (s : State) (tms tdi : Bool), s.jtag.trst = true ∨ s.power = .sleep → s.tck tms tdi = .ok s) ∧
  (∀ (s : State) (tms tdi : Bool), s.jtag.trst = false → s.power ≠ .sleep →
    let ir := s.jtag.ir
    let sr := s.jtag.dbgSr
    let old := s.cp14.txrxctrl
    (s.jtag.tap = .captureDr →
      ∃ t, s.tck tms tdi = .ok t ∧ t.core = s.core ∧ t.jtag.tap = (if tms then .exit1Dr else .shiftDr) ∧
        (ir = 0b01001 → field t.jtag.dbgSr 3 32 &&& 0xC0DF003F = s.cp14.dcsr &&& 0xC0DF003F ∧
          field t.jtag.dbgSr 1 2 = 1 ∧ t.cp14 = s.cp14) ∧
        (ir = 0b10000 → field t.jtag.dbgSr 3 32 = s.cp14.tx ∧ bitAt t.jtag.dbgSr 0 = bitAt old 28 ∧
          t.cp14 = { s.cp14 with txrxctrl := old &&& 0xEFFFFFFF }) ∧
        (ir = 0b00010 → bitAt t.jtag.dbgSr 0 = bitAt old 31 ∧ t.cp14 = s.cp14) ∧
        (ir = 0b11111 → t.jtag.bypass = 0)) ∧
    (s.jtag.tap = .shiftDr → ir = 0b01001 ∨ ir = 0b10000 ∨ ir = 0b00010 →
      ∃ t, s.tck tms tdi = .ok t ∧ t.core = s.core ∧ t.cp14 = s.cp14 ∧
        t.jtag.tdo = (if tms then none else some (bitAt t.jtag.dbgSr 0)) ∧
        ∀ k < 36, bitAt t.jtag.dbgSr k = (if k = 35 then tdi else bitAt sr (k + 1))) ∧
    (s.jtag.tap = .exit1Dr →
      (ir = 0b01001 → bitAt sr 1 = false ∨ s.jtag.resetPin = true ∨ s.jtag.holdRst = true →
        ∃ t, s.tck true tdi = .ok t ∧ t.core = s.core ∧ t.jtag.holdRst = bitAt sr 1 ∧
          t.pending = { s.pending with extBreak := s.pending.extBreak || bitAt sr 2 } ∧
          t.cp14 = { s.cp14 with dcsr := (s.cp14.dcsr &&& 0xBF20FFFF) ||| (field sr 3 32 &&& 0x40DF0000) }) ∧
      (ir = 0b01001 → bitAt sr 1 = true → s.jtag.resetPin = false → s.jtag.holdRst = false →
        s.tck true tdi = .error .holdWithoutReset) ∧
      (ir = 0b10000 → ∃ t, s.tck true tdi = .ok t ∧ t.core = s.core ∧ t.cp14 = s.cp14) ∧
      (ir = 0b00010 → ∃ t, s.tck true tdi = .ok t ∧ t.core = s.core ∧
        t.cp14 = { s.cp14 with rx := t.cp14.rx, txrxctrl := t.cp14.txrxctrl } ∧
        t.cp14.rx = (if bitAt sr 35 then field sr 3 32 else s.cp14.rx) ∧
        bitAt t.cp14.txrxctrl 31 = (bitAt sr 35 || (bitAt old 31 && !bitAt sr 1)) ∧
        bitAt t.cp14.txrxctrl 30 = (bitAt old 30 || (bitAt sr 35 && bitAt old 31 && !bitAt sr 1)) ∧
        bitAt t.cp14.txrxctrl 29 = bitAt sr 2)) ∧
    (ir ≠ 0b00111 →
      (s.jtag.tap = .exit1Ir → ∃ t, s.tck true tdi = .ok t ∧ t.core = s.core ∧ t.jtag.ir = s.jtag.irShift) ∧
      (s.jtag.tap = .selectIr → ∃ t, s.tck true tdi = .ok t ∧ t.core = s.core ∧ t.jtag.ir = 0b11110) ∧
      ∃ t, s.setTrst true = .ok t ∧ t.core = s.core ∧ t.jtag.tap = .testLogicReset ∧ t.jtag.ir = 0b11110 ∧
        t.jtag.holdRst = false ∧ t.pending.extBreak = false ∧ bitAt t.jtag.dbgReg 0 = false ∧
        bitAt t.jtag.dbgReg 1 = false ∧ bitAt t.jtag.dbgReg 34 = false ∧
        t.cp14 = { s.cp14 with dcsr := s.cp14.dcsr &&& 0xBF20FFFF }))

/-- LDC and STC to CP14 in a privileged mode on memory: LDC writes TX or CCNT with the word read, STC stores TX, CCNT
or TXRXCTRL, and the base is written back where W is set (41_coprocessor_access.md R368, R369). An unaligned
address is log entry 13. -/
def Obligations.CoprocessorLoadStore : Prop :=
  ∀ (s : State) (c : Cond) (p u w : Bool) (rn : Reg) (off : Byte), s.passed c = true → s.mode ≠ .usr → s.mode ≠ .dbg →
    s.hasNext → (w = true → rn ≠ 15) →
    let moved := addedOffset u (s.reg rn) (off.zeroExtend 32 * 4)
    let va := if p then moved else s.reg rn
    let base : List (Reg × Word) := if w then [(rn, moved)] else []
    s.Direct va .word →
    let word := s.directValue va .word
    let loads (i : Instr) (k : Cp14) : Prop :=
      ∃ t, exec i s = .next t ∧ WritesBank s t s.mode base ∧
        t.core = { s.core with pc := s.nextPc, regs := t.core.regs } ∧ SameMemory s t ∧ t.btb = s.btb ∧
        SameElsewhere { s with cp14 := k } t
    loads (.ldc c p u false w rn 8 14 off) { s.cp14 with tx := word, txrxctrl := s.cp14.txrxctrl ||| 0x10000000 } ∧
    loads (.ldc c p u false w rn 1 14 off) { s.cp14 with ccnt := word } ∧
    (s.memCanonical = true →
      Stores (exec (.stc c p u false w rn 8 14 off) s) s va .word s.cp14.tx base ∧
      Stores (exec (.stc c p u false w rn 1 14 off) s) s va .word s.cp14.ccnt base ∧
      Stores (exec (.stc c p u false w rn 14 14 off) s) s va .word s.cp14.txrxctrl base)

/-- The functions of CP15 in a privileged mode complete, with no register changed (41_coprocessor_access.md R370-R375):
the invalidations, the clean and the drain always, and with the MMU off the allocation of a line that lock mode
need not refuse. What each leaves: an invalidation of a cache leaves its locked lines only, one of a line leaves no
line for that address and every other as it was, a clean leaves the line and gives its dirty halves to the write
buffer, a drain leaves it empty and memory as the data side saw it (20_memory.md R191, R217, R218, R234). That
outstanding fills return first is log entry 69, what is allocated log entry 29, what lock mode refuses log entry
56, that the functions act at once log entry 38. That the invalidation of one instruction-cache line leaves the
fetch buffers is the spec's own decision (92_eei_decisions.md D21, log entry 24); that it leaves a locked line
locked is log entry 76; the record of old code, which it leaves and the global one clears, is log entry 44. -/
def Obligations.CacheAndTlbFunctions : Prop :=
  ∀ (s : State) (c : Cond) (rd : Reg), s.passed c = true → s.mode ≠ .usr → rd ≠ 15 → s.hasNext →
    let l := lineOf (s.reg rd)
    let moves (t : State) : Prop :=
      t.core = { s.core with pc := s.nextPc } ∧ t.cp15 = s.cp15 ∧ t.itlb = s.itlb ∧ t.dtlb = s.dtlb ∧ t.icache = s.icache ∧
        t.btb = s.btb
    (∀ r ∈ functionRows s c rd, CompletesAs (exec r.1 s) s r.2) ∧ (s.fillBuf = [] → s.settleFills = s) ∧
    (let t := s.invalidateIcache;
      t = { s with icache := { s.icache with lines := t.icache.lines }, fetchBufs := t.fetchBufs, btb := [], stale := .none } ∧
      (∀ e, e ∈ t.icache.lines ↔ (e ∈ s.icache.lines ∧ e.2.locked = true)) ∧ t.fetchBufs.first.valid = 0 ∧
      t.fetchBufs.second.valid = 0) ∧
    (let t := s.invalidateIcacheLine l;
      t = { s with
        icache := { s.icache with lines := t.icache.lines }
        miniICache := { s.miniICache with lines := t.miniICache.lines } } ∧
      findIline 32 l t.icache.lines = none ∧ findIline 2 l t.miniICache.lines = none ∧
      ∀ l', l' ≠ l → findIline 32 l' t.icache.lines = findIline 32 l' s.icache.lines ∧
        findIline 2 l' t.miniICache.lines = findIline 2 l' s.miniICache.lines) ∧
    (let t := s.invalidateDcache;
      t = { s with
        dcache := { s.dcache with lines := t.dcache.lines }
        miniDCache := { s.miniDCache with lines := [] } } ∧
      (∀ e, e ∈ t.dcache.lines ↔ (e ∈ s.dcache.lines ∧ e.2.locked = true))) ∧
    (let t := s.invalidateDcacheLine l;
      t = { s with
        dcache := { s.dcache with lines := t.dcache.lines }
        miniDCache := { s.miniDCache with lines := t.miniDCache.lines } } ∧
      t.dataHit l = none ∧ ∀ l', l' ≠ l → t.dataHit l' = s.dataHit l') ∧
    (s.dataHit l = none → s.cleanDcacheLine l = s) ∧
    (∀ h, s.dataHit l = some h →
      let t := s.cleanDcacheLine l
      t.dataHit l = some { h with line := { h.line with dirtyLow := false, dirtyHigh := false } } ∧ t.core = s.core ∧
      (∀ i : Fin 32, (if i.val < 16 then h.line.dirtyLow else h.line.dirtyHigh) = true →
        t.dataByte (h.line.paLine ++ BitVec.ofNat 5 i.val) = h.line.data[i])) ∧
    (s.fillBuf = [] → s.platform = [] → s.extAborts = none →
      ∃ t, exec (.drainWriteBuffer c rd) s = .next t ∧ moves t ∧ t.writeBuf = [] ∧
        (s.memCanonical = true → ∀ pa, t.memByte pa = s.dataByte pa)) ∧
    (s.fillBuf = [] → s.mmuOn = false → s.cp15.dlock = false ∨ s.dataHit l = none →
      ∃ t, exec (.allocDCacheLine c rd) s = .next t ∧ moves t ∧ (t.dataHit l).isSome = true)

/-- The lock functions of CP15 in a privileged mode (41_coprocessor_access.md R376, R377; 20_memory.md R178, R193,
R194, R216): the data cache lock register is read and written; unlocking needs the unit enabled, keeps every valid
line and its data and leaves no lock; locking a TLB entry, with interrupts masked or not, puts the entry of the walk
at the lock pointer, locked while the pointer is below 31; fetching and locking an instruction cache line puts its bytes in the cache, locked
while the lock pointer of the set is below 28. The requirements and the refusals are log entry 56, the way that a
line takes log entry 25, and that the permissions are those of a read log entry 83. -/
def Obligations.LockFunctions : Prop :=
  ∀ (s : State) (c : Cond) (rd : Reg), s.passed c = true → s.mode ≠ .usr → rd ≠ 15 → s.hasNext →
    let v := s.reg rd
    ReadsSpecial (exec (.readDCacheLock c rd) s) s rd 1 (if s.cp15.dlock then 1 else 0) ∧
    (bitAt v 0 = false ∨ s.miniOutstanding = false →
      CompletesAs (exec (.writeDCacheLock c rd) s) s { s with cp15 := { s.cp15 with dlock := bitAt v 0 } }) ∧
    (bitAt v 0 = true → s.miniOutstanding = true → exec (.writeDCacheLock c rd) s = .refused .lockPrecondition) ∧
    (s.icacheOn = true → CompletesAs (exec (.unlockICache c rd) s) s s.unlockIcache) ∧
    (s.dcacheOn = true → CompletesAs (exec (.unlockDCache c rd) s) s s.unlockDcache) ∧
    (let t := s.unlockIcache;
      t = { s with icache := t.icache } ∧ (∀ i : Fin 32, t.icache.lk[i] = 0 ∧ t.icache.rr[i] = s.icache.rr[i]) ∧
      (∀ e ∈ t.icache.lines, e.2.locked = false) ∧
      ∀ l, (findIline 32 l t.icache.lines).map (fun e => (e.1, e.2.data)) =
        (findIline 32 l s.icache.lines).map (fun e => (e.1, e.2.data))) ∧
    (let t := s.unlockDcache;
      t = { s with dcache := t.dcache } ∧ (∀ i : Fin 32, t.dcache.lk[i] = 0 ∧ t.dcache.rr[i] = s.dcache.rr[i]) ∧
      (∀ e ∈ t.dcache.lines, e.2.locked = false) ∧
      ∀ l, (findDline 32 l t.dcache.lines).map (fun e => (e.1, { e.2 with locked := false })) =
        (findDline 32 l s.dcache.lines).map (fun e => (e.1, { e.2 with locked := false }))) ∧
    (s.mmuOn = true → CompletesAs (exec (.unlockITlb c rd) s) s { s with itlb := s.itlb.unlock } ∧
      CompletesAs (exec (.unlockDTlb c rd) s) s { s with dtlb := s.dtlb.unlock }) ∧
    (s.icacheOn = false → exec (.unlockICache c rd) s = .refused .lockOnDisabledUnit) ∧
    (∀ (e : TlbEntry) (s1 : State), s.mmuOn = true → s.walk v = .ok e s1 → s.checkAccess e v true false = .ok none →
      (s.itlb.lookup v = none → ∃ t, exec (.lockITlbEntry c rd) s = .next t ∧ t.itlb = s.itlb.lock e ∧
        t.core = { s.core with pc := s.nextPc } ∧ SameMemory s t ∧ t.cp15 = s.cp15 ∧ t.dtlb = s.dtlb) ∧
      (s.dtlb.lookup v = none → ∃ t, exec (.lockDTlbEntry c rd) s = .next t ∧ t.dtlb = s.dtlb.lock e ∧
        t.core = { s.core with pc := s.nextPc } ∧ SameMemory s t ∧ t.cp15 = s.cp15 ∧ t.itlb = s.itlb)) ∧
    (∀ e : TlbEntry, bitAt s.core.cpsr 7 = true → bitAt s.core.cpsr 6 = true →
      s.icacheOn = true → s.routinePlaced = true → s.icacheReady = true →
      findIline 32 (lineOf v) s.icache.lines = none → s.itlb.lookup v = some e →
      s.checkAccess e v true false = .ok none → e.c = true → s.Answers .fetch (lineOf (e.pa v) ++ 0#5) 32 →
      ∃ t k d, exec (.lockICacheLine c rd) s = .next t ∧ findIline 32 (lineOf v) t.icache.lines = some (k, d) ∧
        (s.icache.lk[(lineSet (lineOf v)).toFin].toNat < 28 → d.locked = true) ∧
        (28 ≤ s.icache.lk[(lineSet (lineOf v)).toFin].toNat → d.locked = false ∧ t.icache.lk = s.icache.lk) ∧
        t.icacheReady = true ∧
        (∀ i : Fin 32, d.data[i] = s.memByte (lineOf (e.pa v) ++ BitVec.ofNat 5 i.val)) ∧
        t.core = { s.core with pc := s.nextPc } ∧ SameMemory s t)

/-! Exceptions (60_exceptions.md). -/

/-- A precise data abort outside Special Debug State: Abort mode at vector 0x10, the link is the instruction's address + 8,
FSR holds the status and, where the table calls it valid, the domain of the fault, FAR the address, and the base, the
destination and memory are as before (R675, R681, R682; 44_arm_load_store.md R491, R493). It is taken by the loads and
stores of one register, SWP, SWPB, LDC and STC where alignment is checked and the address is not a multiple of the
size, and where the translation faults (44_arm_load_store.md R530, R531; 41_coprocessor_access.md R368, R369); by LDRD
and STRD off a multiple of 8, and where the translation of their first word faults (R507, R508); and by LDM and STM,
for an unaligned start where alignment is checked, and at any word that a TLB entry does not allow after words that
uncached pages hold: the base is as before, registers below that word hold their old value or the word loaded, and
memory outside the words below it is as before (R525). The status 0b0001 of an alignment fault is the spec's own
decision (92 D31, log entry 32), and so are that LDRD and STRD off a multiple of 8 abort whatever Control.A holds (92
D11, log entry 14) and that FAR is the address of the word that faulted (92 D29, log entry 30). -/
def Obligations.PreciseDataAbort : Prop :=
  (∀ (s : State) (c : Cond) (ix : Indexing) (u : Bool) (rn rd : Reg) (off : Offset2) (off3 : Offset3),
    let pair := accessAddress ix u (s.reg rn) (s.offset3 off3)
    s.passed c = true → s.sds = false → s.mode ≠ .dbg → ix ≠ .postW → (ix = .offset ∨ (rn ≠ 15 ∧ rn ≠ rd)) →
    off.namesPc = false → off3.namesPc = false →
    (∀ r ∈ accessRows s c ix u rn rd off off3, AbortsPrecisely s (rd != 15) r) ∧
    (rd.toNat % 2 = 0 → rd ≠ 14 →
      let aborts (code : BitVec 4) (domain : Option (BitVec 4)) (i : Instr) : Prop :=
        TakesDataAbort (exec i s) s code domain (s.mva pair)
      let loads : Prop := (ix = .offset ∨ rn ≠ rd + 1) ∧ off3.reg? ≠ some rd ∧ off3.reg? ≠ some (rd + 1)
      (pair.toNat % 8 ≠ 0 →
        (loads → aborts 0b0001 none (.ldrd c ix u rn rd off3)) ∧ aborts 0b0001 none (.strd c ix u rn rd off3)) ∧
      (∀ d cause code domain s1 write, (cause, code, domain) ∈ faultRows d → s.mmuOn = true → pair.toNat % 8 = 0 →
        (s.noteAccess .word (s.mva pair) write).translateChecked .data (s.mva pair) (s.mode != .usr) write = .fault cause s1 →
        if write then aborts code domain (.strd c ix u rn rd off3)
        else loads → aborts code domain (.ldrd c ix u rn rd off3)))) ∧
  (∀ (s : State) (c : Cond) (rn rd rm : Reg), s.passed c = true → s.sds = false → s.mode ≠ .dbg →
    rn ≠ 15 → rd ≠ 15 → rm ≠ 15 → rn ≠ rm → rn ≠ rd → ∀ r ∈ swapRows s c rn rd rm, AbortsPrecisely s true r) ∧
  (∀ (s : State) (c : Cond) (p u w : Bool) (rn : Reg) (crd : BitVec 4) (off : Byte), s.passed c = true → s.sds = false →
    s.mode ≠ .usr → s.mode ≠ .dbg → (w = true → rn ≠ 15) →
    ∀ r ∈ coprocessorRows s c p u w rn crd off, AbortsPrecisely s true r) ∧
  (∀ (s : State) (c : Cond) (m : BlockMode) (w : Bool) (rn : Reg) (list : BitVec 16) (low : BitVec 15) (k : Nat)
    (e : Nat → TlbEntry) (d code : BitVec 4) (cause : AbortCause) (domain : Option (BitVec 4)),
    let word (l : BitVec 16) (j : Nat) : Word := (blockAddress m (s.reg rn) (listRegs l).length).1 + BitVec.ofNat 32 (4 * j)
    let pa (l : BitVec 16) (j : Nat) : Word := (e j).pa (s.mva (word l j))
    let stops (l : BitVec 16) (write : Bool) : Prop :=
      s.mmuOn = true ∧ k < (listRegs l).length ∧ (word l 0).toNat % 4 = 0 ∧ (∀ j < k, s.Paged (word l j) (e j) write) ∧
      s.dtlb.lookup (s.mva (word l k)) = some (e k) ∧
      s.checkAccess (e k) (s.mva (word l k)) s.privileged write = .ok (some cause) ∧ (cause, code, domain) ∈ faultRows d
    let misaligned (i : Instr) (l : BitVec 16) : Prop :=
      s.alignChecked = true → (word l 0).toNat % 4 ≠ 0 → TakesDataAbort (exec i s) s 0b0001 none (s.mva (word l 0))
    let loads (i : Instr) (bank : Mode) (l : BitVec 16) : Prop :=
      misaligned i l ∧
      (stops l false → ∃ regs : Vector Word 32,
        (∀ p : Fin 32, regs[p] = s.core.regs[p] ∨
          ∃ j < k, ∃ r, (listRegs l)[j]? = some r ∧ r ≠ 15 ∧ p = (physReg bank r).toFin ∧
            p ≠ (physReg s.mode rn).toFin ∧ regs[p] = gather .word (fun i => s.memByte (pa l j + BitVec.ofNat 32 i))) ∧
        TakesDataAbort (exec i s) { s with core := { s.core with regs := regs } } code domain (s.mva (word l k)))
    let stores (i : Instr) (l : BitVec 16) : Prop :=
      misaligned i l ∧
      (stops l true → ∃ mem : List Host.Cell,
        (∀ a : Word, (∀ j < k, ∀ i < 4, a ≠ pa l j + BitVec.ofNat 32 i) → memGet mem a = s.memByte a) ∧
        TakesDataAbort (exec i s) { s with mem := mem } code domain (s.mva (word l k)))
    s.passed c = true → s.sds = false → s.mode ≠ .dbg → rn ≠ 15 → s.midBus = [] →
    (list ≠ 0 → (w = true → bitAt list rn.toNat = false) → loads (.ldm c m w rn list) s.mode list) ∧
    (low ≠ 0 → s.mode ≠ .usr → s.mode ≠ .sys → loads (.ldmUser c m false rn low) .usr (0#1 ++ low)) ∧
    ((s.spsrOf s.mode).isSome = true → (w = true → bitAt low rn.toNat = false) →
      loads (.ldmRet c m w rn low) s.mode (1#1 ++ low)) ∧
    (list ≠ 0 → stores (.stm c m w rn list) list) ∧
    (list ≠ 0 → s.mode ≠ .usr → s.mode ≠ .sys → stores (.stmUser c m false rn list) list))

/-- What a step takes instead of an instruction (R663). With nothing of higher priority pending, FIQ where F is clear,
and IRQ where I is clear and no FIQ is taken: the link is the next instruction + 4, the vectors are 0x1C and 0x18,
FIQ masks FIQ (R676, R677, R700). An imprecise data abort that must be taken: vector 0x10, the link is the next
instruction + 4, FSR says external or parity (R686). A fetch that aborts: a prefetch abort at vector 0x0C, the link
is the instruction + 4, and FSR says MMU, external or parity (R674, R680). An instruction breakpoint that matches,
a data breakpoint of the access before: the debug exception (61_debug_and_jtag.md R772, R773, R775, R777). That an
entry is a step of its own is log entry 48, when an imprecise abort must be taken log entry 41, and that an
external abort on the table walk of a fetch is reported as an external abort is the spec's own decision (92 D24,
log entry 27). A data breakpoint is reported also where GE has been cleared since its access (log entry 84). -/
def Obligations.InterruptsAreTaken : Prop :=
  (∀ s : State, s.inputs = [] → s.midBus = [] → s.executes = true → s.legalMode = true → s.vectorTrap = false →
    (s.dataBkptDue = true → ∃ t, step s = .next t ∧ DebugEntry s t 2 0x10) ∧
    (s.dataBkptDue = false → s.sds = false → ∀ a : ImpreciseAbort, s.pending.imprecise = some a → a.boundaries = some 0 →
      ∃ t, step s = .next t ∧ ExceptionAfter s t .abt false 0x10 (s.core.pc + 4) ∧ t.pending.imprecise = none ∧
        bitAt t.cp15.fsr 9 = false ∧ bitAt t.cp15.fsr 10 = true ∧
        field t.cp15.fsr 0 4 = (if a.parity then 0b1000 else 0b0110)) ∧
    (s.dataBkptDue = false → s.pending.imprecise = none →
      (s.breaksTaken && (s.pending.extBreak || s.pending.traceFull)) = false → s.sds = false →
      (s.pending.fiqLine = true → bitAt s.core.cpsr 6 = false →
        ∃ t, step s = .next t ∧ ExceptionAfter s t .fiq true 0x1C (s.core.pc + 4)) ∧
      (s.pending.irqLine = true → bitAt s.core.cpsr 7 = false →
        (s.pending.fiqLine = false ∨ bitAt s.core.cpsr 6 = true) →
        ∃ t, step s = .next t ∧ ExceptionAfter s t .irq false 0x18 (s.core.pc + 4)) ∧
      (s.fiqDue = false → s.irqDue = false → bitAt s.cp14.dcsr 31 = true →
        ∀ r : Word, r = s.cp15.ibcr0 ∨ r = s.cp15.ibcr1 → bitAt r 0 = true →
          (s.mva s.core.pc).toNat / (if s.thumb then 2 else 4) = r.toNat / (if s.thumb then 2 else 4) →
          ∃ t, step s = .next t ∧ DebugEntry s t 1 0x0C))) ∧
  (∀ (s s1 : State) (c : PrefetchCause), s.quiet = true → s.sds = false → s.fetchWord = .abort c s1 →
    ∃ t, step s = .next t ∧ ExceptionAfter s t .abt false 0x0C (s.core.pc + 4) ∧ bitAt t.cp15.fsr 9 = false ∧
      bitAt t.cp15.fsr 10 = true ∧
      field t.cp15.fsr 0 4 = (match c with | .mmu => 0b0000 | .external => 0b0110 | .parity => 0b1000)) ∧
  (∀ (s s1 : State) (cause : AbortCause), s.mmuOn = true → s.sds = false →
    s.translateChecked .instr (s.mva s.core.pc) (s.mode != .usr) false = .fault cause s1 →
    s.fetchWord = .abort
      (if cause = .walkFirst ∨ cause = .walkSecond (cause.domain?.getD 0) then .external else .mmu) s1) ∧
  (∀ (s : State) (c : Cond) (u : Bool) (rn rd : Reg) (off : BitVec 12),
    let va := addedOffset u (s.reg rn) (off.zeroExtend 32)
    let near (r : Word) : Prop := r.toNat / 4 = (s.mva va).toNat / 4
    s.passed c = true → rd ≠ 15 → s.mode ≠ .dbg → s.hasNext → va.toNat % 4 = 0 → s.Direct va .word →
    bitAt s.cp14.dcsr 31 = true → s.sds = false → bitAt s.cp15.dbcon 8 = false →
    (near s.cp15.dbr0 → field s.cp15.dbcon 0 2 = 2 ∨ field s.cp15.dbcon 0 2 = 3 →
      ∃ t, exec (.ldr c .offset u rn rd (.imm off)) s = .next t ∧ t.pending.dataBkpt = true) ∧
    (¬ near s.cp15.dbr0 ∨ field s.cp15.dbcon 0 2 = 0 ∨ field s.cp15.dbcon 0 2 = 1 →
      ¬ near s.cp15.dbr1 ∨ field s.cp15.dbcon 2 2 = 0 ∨ field s.cp15.dbcon 2 2 = 1 →
      ∃ t, exec (.ldr c .offset u rn rd (.imm off)) s = .next t ∧ t.pending.dataBkpt = s.pending.dataBkpt))

/-- `SUBS PC, R14, #4` right after an IRQ or FIQ was taken resumes at the instruction that was about to run, with the
CPSR it had; `MOVS PC, R14` right after SWI resumes at the instruction after it (R690). -/
def Obligations.ReturnUndoesEntry : Prop :=
  ∀ (s : State) (imm24 : BitVec 24), s.legalMode = true → s.mode ≠ .dbg → s.pcAligned = true → s.sds = false →
    (∃ t, exec (.sub .al true 14 15 (.imm 0 4)) s.takeIrq = .next t ∧ t.core.pc = s.core.pc ∧
      t.core.cpsr = s.core.cpsr ∧ t.mem = s.mem) ∧
    (∃ t, exec (.sub .al true 14 15 (.imm 0 4)) s.takeFiq = .next t ∧ t.core.pc = s.core.pc ∧
      t.core.cpsr = s.core.cpsr ∧ t.mem = s.mem) ∧
    (∃ t u, exec (.swi .al imm24) s = .next t ∧ exec (.mov .al true 0 15 (.shiftImm 0 .lsl 14)) t = .next u ∧
      u.core.pc = s.nextPc ∧ u.core.cpsr = s.core.cpsr ∧ u.mem = s.mem)

/-! The memory system (20_memory.md). -/

/-- The permission table for client domains, the manager's rights, and the domain fault (R169, R170): AP 3 allows all,
AP 2 lets User mode read, AP 1 shuts User mode out, AP 0 follows S and R, and its reserved row is refused (93 U3,
log entry 61); LDRT and STRT in a privileged mode are checked with the rights of User mode: on a page of a client
domain with AP 1 they take a permission abort, where a privileged read is allowed (44_arm_load_store.md R499); and
LDR and STR of an aligned word that a TLB entry allows, on a page that is neither cached nor buffered, complete at
the physical address of the entry, and change no other byte and no other register (R150, R162, R168). -/
def Obligations.AccessRights : Prop :=
  (∀ (s : State) (e : TlbEntry) (mva : Word) (privileged write : Bool),
    let d := s.domainField e.domain
    let sBit := bitAt s.cp15.control 8
    let rBit := bitAt s.cp15.control 9
    let allowed (b : Bool) : Prop :=
      s.checkAccess e mva privileged write = .ok (if b then none else some e.permissionFault)
    (d = 3 → s.checkAccess e mva privileged write = .ok none) ∧
    (d = 0 ∨ d = 2 → s.checkAccess e mva privileged write = .ok (some e.domainFault)) ∧
    (d = 1 →
      (e.ap mva = 3 → allowed true) ∧ (e.ap mva = 2 → allowed (privileged || !write)) ∧ (e.ap mva = 1 → allowed privileged) ∧
      (e.ap mva = 0 →
        (sBit = false → rBit = false → allowed false) ∧ (sBit = true → rBit = false → allowed (privileged && !write)) ∧
        (sBit = false → rBit = true → allowed (!write)) ∧
        (sBit = true → rBit = true → s.checkAccess e mva privileged write = .error .reservedPermission)))) ∧
  (∀ (s : State) (c : Cond) (u : Bool) (rn rd : Reg) (off : Offset2) (e : TlbEntry),
    s.passed c = true → s.sds = false → s.mode ≠ .usr → rd ≠ 15 → rn ≠ 15 → rn ≠ rd → off.namesPc = false →
    s.mmuOn = true → s.alignChecked = false → s.dtlb.lookup (s.mva (s.reg rn)) = some e → s.domainField e.domain = 1 →
    e.ap (s.mva (s.reg rn)) = 1 →
    (∃ t, exec (.ldrt c u rn rd off) s = .next t ∧ ExceptionAfter s t .abt false 0x10 (s.core.pc + 8)) ∧
    (∃ t, exec (.strt c u rn rd off) s = .next t ∧ ExceptionAfter s t .abt false 0x10 (s.core.pc + 8)) ∧
    s.checkAccess e (s.mva (s.reg rn)) s.privileged false = .ok none) ∧
  (∀ (s : State) (c : Cond) (u : Bool) (rn rd : Reg) (off : Offset2) (e : TlbEntry),
    let va := addedOffset u (s.reg rn) (s.offset2 off)
    let pa := e.pa (s.mva va)
    s.passed c = true → s.mode ≠ .dbg → rd ≠ 15 → off.namesPc = false → s.hasNext →
    (s.Paged va e false →
      Loads (exec (.ldr c .offset u rn rd off) s) s s.mode
        [(rd, gather .word (fun i => s.memByte (pa + BitVec.ofNat 32 i)))]) ∧
    (s.Paged va e true → s.memCanonical = true →
      ∃ t, exec (.str c .offset u rn rd off) s = .next t ∧ t.core = { s.core with pc := s.nextPc } ∧
        (∀ i < 4, t.memByte (pa + BitVec.ofNat 32 i) = byteOf (s.reg rd) i) ∧
        (∀ a, (∀ i < 4, a ≠ pa + BitVec.ofNat 32 i) → t.memByte a = s.memByte a) ∧ t.btb = s.btb ∧ SameElsewhere s t))

/-- The table walk (R163-R168): the first-level word of the MVA, from memory that answers, is a fault, a section or the
table of the second-level word, which is a fault, a large, a small or an extended small page, or in a fine table a
tiny page; the entry maps exactly that region to the base of the descriptor with its rights, domain and attributes;
a read that an error answers is an external abort of its level. The TLBs (R162, R177-R179): a fill goes to the
entry of the round-robin pointer, which is kept at or above the lock pointer and goes on from 31 to it; a lock goes
to the entry of the lock pointer and moves it, and to entry 31, without the lock, where it is 31; global
invalidation leaves exactly the locked entries valid, entry invalidation leaves no entry for the address, unlocking
keeps every entry valid. That descriptors are read from memory is the spec's own decision (92 D8, log entry 39),
and so is that SBZ bits are ignored (92 D19, log entry 22). -/
def Obligations.TlbRules : Prop :=
  (∀ (s : State) (mva : Word),
    let a1 : Word := field s.cp15.ttbr 14 18 ++ field mva 20 12 ++ 0#2
    let d1 := s.memWord a1
    let domain : BitVec 4 := field d1 5 4
    let a2 : Word := if field d1 0 2 = 1 then field d1 10 22 ++ field mva 12 8 ++ 0#2 else field d1 12 20 ++ field mva 10 10 ++ 0#2
    let d2 := s.memWord a2
    let gives (n : Nat) (d : Word) (ap : Word → BitVec 2) (x : Bool) : Prop :=
      ∃ e, s.walk mva = .ok e s ∧ e.Maps n mva d ap domain x (bitAt d 3) (bitAt d 2)
    (s.anyError .walk a1 4 = true → ∃ s1, s.walk mva = .fault .walkFirst s1) ∧
    (s.Answers .walk a1 4 →
      (field d1 0 2 = 0 → s.walk mva = .fault .translationSection s) ∧
      (field d1 0 2 = 2 → gives 20 d1 (fun _ => field d1 10 2) (bitAt d1 12)) ∧
      (field d1 0 2 = 1 ∨ field d1 0 2 = 3 →
        (s.anyError .walk a2 4 = true → ∃ s1, s.walk mva = .fault (.walkSecond domain) s1) ∧
        (s.Answers .walk a2 4 →
          (field d2 0 2 = 0 → s.walk mva = .fault (.translationPage domain) s) ∧
          (field d2 0 2 = 1 → gives 16 d2 (fun m => field d2 (4 + 2 * (m.toNat / 2 ^ 14 % 4)) 2) (bitAt d2 12)) ∧
          (field d2 0 2 = 2 → gives 12 d2 (fun m => field d2 (4 + 2 * (m.toNat / 2 ^ 10 % 4)) 2) false) ∧
          (field d2 0 2 = 3 →
            gives (if field d1 0 2 = 1 then 12 else 10) d2 (fun _ => field d2 4 2) (bitAt d2 6)))))) ∧
  (∀ (t : Tlb) (e : TlbEntry) (mva : Word),
    (t.fill e).entries[t.rr.toFin] = e ∧ (t.fill e).rr = (if t.rr = 31 then t.lk else t.rr + 1) ∧
    (∀ i : Fin 32, i ≠ t.rr.toFin → (t.fill e).entries[i] = t.entries[i]) ∧
    (t.lk.toNat < 31 → (t.lock e).entries[t.lk.toFin] = { e with locked := true } ∧ (t.lock e).lk = t.lk + 1) ∧
    (t.lk = 31 → (t.lock e).entries[(31 : Fin 32)] = e ∧ (t.lock e).lk = 31) ∧ (t.lock e).rr = 31 ∧
    (∀ i : Fin 32, i ≠ t.lk.toFin → (t.lock e).entries[i] = t.entries[i]) ∧
    (t.lk.toNat ≤ t.rr.toNat →
      ∀ t' ∈ [t.fill e, t.lock e, t.unlock, t.invalidate, t.invalidateEntry mva], t'.lk.toNat ≤ t'.rr.toNat) ∧
    (∀ i : Fin 32, t.invalidate.entries[i].valid = (t.entries[i].valid && t.entries[i].locked)) ∧
    (t.invalidateEntry mva).lookup mva = none ∧
    ((t.lookup mva).isSome = true ↔ ∃ i : Fin 32, t.entries[i].valid = true ∧ t.entries[i].covers mva = true) ∧
    (∀ x, t.lookup mva = some x → ∃ i : Fin 32, t.entries[i] = x ∧ x.valid = true ∧ x.covers mva = true) ∧
    (∀ i : Fin 32, t.unlock.entries[i].valid = t.entries[i].valid ∧ t.unlock.entries[i].locked = false) ∧
    t.unlock.lk = 0)

/-- A load whose line is in a data cache reads the line and not memory, and a store of any width to a write-back page
whose line is there writes its bytes into the line, marks their half dirty, and leaves the other bytes, the address
and the lock of the line, every other line, memory and the write buffer as they are (R207-R209). A store whose line
is there to a page that is not write-back (write-through, or not cacheable) writes its bytes into the line, whose
dirty bits and the rest stay, and to external memory: at once where X = C = B = 0, else through the write buffer (R207,
R208, R230, R235). That the page's attributes at the store decide the policy is the spec's own decision (92_eei_decisions.md D23, log entry 26); that
a store clears the parity marks of its bytes and raises no abort is the model's choice (log entry 77). What lock
mode refuses, a load that could lock the line if it were not there, is log entry 56. -/
def Obligations.DataCacheHits : Prop :=
  ∀ (s : State) (t : Target) (w : Width) (h : Hit) (v : Word),
    s.attributeError t = none → s.fillBuf = [] → s.writeBuf = [] → s.pendBuf = [] →
    s.dataHit (lineOf t.mva) = some h →
    let lane := t.lane s.bigEndian w
    let pa := t.lanePa s.bigEndian w
    (h.line.badParity &&& laneMask lane w.bytes = 0 → s.lockingLoad t h = false →
      ∃ s1, s.loadAt t w = .ok (gather w (fun i => h.line.data[(lane + BitVec.ofNat 5 i).toFin]), s1) ∧
        s1.core = s.core ∧ SameMemory s s1 ∧ s1.dcache = s.dcache ∧ s1.miniDCache = s.miniDCache) ∧
    (s.writesBack t = true →
      ∃ s1 d, s.storeAt t w v = .ok s1 ∧ s1 = ({ s with cp14 := s1.cp14, storing := s1.storing } : State).putDline h d ∧
        s1.dataHit (lineOf t.mva) = some { h with line := d } ∧
        (∀ i : Fin 32, d.data[i] =
          (if lane.toNat ≤ i.val ∧ i.val < lane.toNat + w.bytes then byteOf v (i.val - lane.toNat) else h.line.data[i])) ∧
        d = { h.line with
          data := d.data, dirtyLow := h.line.dirtyLow || !bitAt lane 4, dirtyHigh := h.line.dirtyHigh || bitAt lane 4,
          badParity := h.line.badParity &&& ~~~laneMask lane w.bytes } ∧
        SameMemory s s1 ∧ s1.writeBuf = s.writeBuf) ∧
    (s.writesBack t = false → s.memCanonical = true → s.Answers .write pa w.bytes →
      ∃ s1 d, s.storeAt t w v = .ok s1 ∧ s1.core = s.core ∧ s1.dataHit (lineOf t.mva) = some { h with line := d } ∧
        s1.dcache = (s.putDline h d).dcache ∧ s1.miniDCache = (s.putDline h d).miniDCache ∧
        (∀ i : Fin 32, d.data[i] =
          (if lane.toNat ≤ i.val ∧ i.val < lane.toNat + w.bytes then byteOf v (i.val - lane.toNat) else h.line.data[i])) ∧
        d = { h.line with data := d.data, badParity := h.line.badParity &&& ~~~laneMask lane w.bytes } ∧
        (∀ i < w.bytes, s1.dataByte (pa + BitVec.ofNat 32 i) = byteOf v i) ∧
        (∀ a, (∀ i < w.bytes, a ≠ pa + BitVec.ofNat 32 i) → s1.dataByte a = s.dataByte a) ∧
        (t.stalls = true → s1.writeBuf = []) ∧ (t.stalls = false → SameMemory s s1 ∧ s1.writeBuf ≠ []))

/-- Reads by the data side see the stores before them (R246): after a store enters the write buffer, whatever the
buffer holds, its bytes read back as stored and every other byte reads as before; draining the buffer leaves it
empty with memory as the data side saw it (R230, R231, R234). Every address is memory that answers. When an entry
reaches memory is log entry 42. -/
def Obligations.WriteBufferIsSeen : Prop :=
  ∀ (s : State) (pa v : Word) (n : Nat) (coalesces : Bool), s.platform = [] → s.extAborts = none →
    s.memCanonical = true →
    (n = 1 ∨ (n = 2 ∧ pa.toNat % 2 = 0) ∨ (n = 4 ∧ pa.toNat % 4 = 0)) →
    let t := s.bufferStore pa v n coalesces
    (∀ i < n, t.dataByte (pa + BitVec.ofNat 32 i) = byteOf v i) ∧
    (∀ a, (∀ i < n, a ≠ pa + BitVec.ofNat 32 i) → t.dataByte a = s.dataByte a) ∧
    t.drainWrites.writeBuf = [] ∧ (∀ a, t.drainWrites.memByte a = t.dataByte a)

/-! Performance monitor, trace buffer, JTAG (60_exceptions.md R730-R733, 61_debug_and_jtag.md). -/

/-- The event counters (60_exceptions.md R731, R732): while the monitor is enabled a counter that is set to an event
counts each occurrence modulo 2^32 and raises its overflow flag where it passes its maximum, a counter set to
another event does not move and its flag does not change, and while it is disabled nothing moves; the interrupt
request is an overflow flag with its enable. What counts as one event is log entry 40. -/
def Obligations.EventCounters : Prop :=
  ∀ (e : Event) (n : Nat) (k : Cp14) (s : State), n < 2 ^ 32 →
    let t := countCp14 e n k
    (bitAt k.pmnc 0 = false → t = k) ∧
    (bitAt k.pmnc 0 = true → field k.pmnc 12 8 = e.number →
      t.pmn0.toNat = (k.pmn0.toNat + n) % 2 ^ 32 ∧
      bitAt t.pmnc 8 = (bitAt k.pmnc 8 || decide (2 ^ 32 ≤ k.pmn0.toNat + n))) ∧
    (field k.pmnc 12 8 ≠ e.number → t.pmn0 = k.pmn0 ∧ bitAt t.pmnc 8 = bitAt k.pmnc 8) ∧
    (bitAt k.pmnc 0 = true → field k.pmnc 20 8 = e.number →
      t.pmn1.toNat = (k.pmn1.toNat + n) % 2 ^ 32 ∧
      bitAt t.pmnc 9 = (bitAt k.pmnc 9 || decide (2 ^ 32 ≤ k.pmn1.toNat + n))) ∧
    (field k.pmnc 20 8 ≠ e.number → t.pmn1 = k.pmn1 ∧ bitAt t.pmnc 9 = bitAt k.pmnc 9) ∧
    t = { k with pmnc := t.pmnc, pmn0 := t.pmn0, pmn1 := t.pmn1 } ∧
    (∀ i < 32, i ≠ 8 → i ≠ 9 → bitAt t.pmnc i = bitAt k.pmnc i) ∧
    s.pmuInt = ((bitAt s.cp14.pmnc 10 && bitAt s.cp14.pmnc 6) || (bitAt s.cp14.pmnc 9 && bitAt s.cp14.pmnc 5) ||
      (bitAt s.cp14.pmnc 8 && bitAt s.cp14.pmnc 4))

/-- While the trace buffer records, an instruction without a message is counted, the sixteenth writes a roll-over byte,
and a taken direct branch writes a message with the count of the instructions before it, marked as a checkpoint
where one is due, and the count starts again (61_debug_and_jtag.md R801-R803, R806). When a checkpoint is due by
the default schedule, at the first message and then at the first that is at least 128 entries later, is the spec's
own decision (92 D34, log entry 35). -/
def Obligations.TraceMessages : Prop :=
  ∀ (s : State) (target : Word), s.traceOn = true →
    (s.trace.cnt ≠ 15 → s.traceInstr.trace = { s.trace with cnt := s.trace.cnt + 1 }) ∧
    (s.trace.cnt = 15 → s.traceInstr.trace.buf[s.trace.p.toFin] = 0xFF ∧ s.traceInstr.trace.cnt = 0 ∧
      s.traceInstr.trace.p = s.trace.p + 1) ∧
    (s.checkpointDue = false →
      (s.traceDirect target).trace.buf[s.trace.p.toFin] = 8#4 ++ s.trace.cnt ∧ (s.traceDirect target).trace.cnt = 0 ∧
      (s.traceDirect target).cp14 = s.cp14) ∧
    (s.checkpointDue = true →
      (s.traceDirect target).trace.buf[s.trace.p.toFin] = 12#4 ++ s.trace.cnt ∧
      (s.traceDirect target).cp14.chkpt0 = target ∧ (s.traceDirect target).cp14.chkpt1 = s.cp14.chkpt0) ∧
    (s.trace.schedule = none →
      (s.checkpointDue = true ↔ ∀ n, s.trace.sinceCkpt = some n → 127 ≤ n) ∧
      (s.checkpointDue = true → (s.traceDirect target).trace.sinceCkpt = some 0) ∧
      (∀ n, s.trace.sinceCkpt = some n → n < 127 → (s.traceDirect target).trace.sinceCkpt = some (n + 1)))
end

