-- ==== Sys2Proof/Laws/State.lean ====
section
/-! SUPPORT. One lemma for each field and each update of the state, so that no proof unfolds a record update. -/

namespace Sys2Proof.Machine

/-! `setPc` -/

@[simp] theorem State.setPc_regs (s : State) (v : Word) : (s.setPc v).core.regs = s.core.regs := rfl
@[simp] theorem State.setPc_pc (s : State) (v : Word) : (s.setPc v).core.pc = v := rfl
@[simp] theorem State.setPc_cpsr (s : State) (v : Word) : (s.setPc v).core.cpsr = s.core.cpsr := rfl
@[simp] theorem State.setPc_spsrs (s : State) (v : Word) : (s.setPc v).core.spsrs = s.core.spsrs := rfl
@[simp] theorem State.setPc_acc0 (s : State) (v : Word) : (s.setPc v).core.acc0 = s.core.acc0 := rfl
@[simp] theorem State.setPc_cp15 (s : State) (v : Word) : (s.setPc v).cp15 = s.cp15 := rfl
@[simp] theorem State.setPc_cp14 (s : State) (v : Word) : (s.setPc v).cp14 = s.cp14 := rfl
@[simp] theorem State.setPc_itlb (s : State) (v : Word) : (s.setPc v).itlb = s.itlb := rfl
@[simp] theorem State.setPc_dtlb (s : State) (v : Word) : (s.setPc v).dtlb = s.dtlb := rfl
@[simp] theorem State.setPc_icache (s : State) (v : Word) : (s.setPc v).icache = s.icache := rfl
@[simp] theorem State.setPc_miniICache (s : State) (v : Word) : (s.setPc v).miniICache = s.miniICache := rfl
@[simp] theorem State.setPc_fetchBufs (s : State) (v : Word) : (s.setPc v).fetchBufs = s.fetchBufs := rfl
@[simp] theorem State.setPc_btb (s : State) (v : Word) : (s.setPc v).btb = s.btb := rfl
@[simp] theorem State.setPc_dcache (s : State) (v : Word) : (s.setPc v).dcache = s.dcache := rfl
@[simp] theorem State.setPc_miniDCache (s : State) (v : Word) : (s.setPc v).miniDCache = s.miniDCache := rfl
@[simp] theorem State.setPc_writeBuf (s : State) (v : Word) : (s.setPc v).writeBuf = s.writeBuf := rfl
@[simp] theorem State.setPc_fillBuf (s : State) (v : Word) : (s.setPc v).fillBuf = s.fillBuf := rfl
@[simp] theorem State.setPc_pendBuf (s : State) (v : Word) : (s.setPc v).pendBuf = s.pendBuf := rfl
@[simp] theorem State.setPc_mem (s : State) (v : Word) : (s.setPc v).mem = s.mem := rfl
@[simp] theorem State.setPc_platform (s : State) (v : Word) : (s.setPc v).platform = s.platform := rfl
@[simp] theorem State.setPc_extAborts (s : State) (v : Word) : (s.setPc v).extAborts = s.extAborts := rfl
@[simp] theorem State.setPc_deviceOps (s : State) (v : Word) : (s.setPc v).deviceOps = s.deviceOps := rfl
@[simp] theorem State.setPc_pending (s : State) (v : Word) : (s.setPc v).pending = s.pending := rfl
@[simp] theorem State.setPc_sds (s : State) (v : Word) : (s.setPc v).sds = s.sds := rfl
@[simp] theorem State.setPc_power (s : State) (v : Word) : (s.setPc v).power = s.power := rfl
@[simp] theorem State.setPc_trace (s : State) (v : Word) : (s.setPc v).trace = s.trace := rfl
@[simp] theorem State.setPc_jtag (s : State) (v : Word) : (s.setPc v).jtag = s.jtag := rfl
@[simp] theorem State.setPc_freeCtr (s : State) (v : Word) : (s.setPc v).freeCtr = s.freeCtr := rfl
@[simp] theorem State.setPc_inputs (s : State) (v : Word) : (s.setPc v).inputs = s.inputs := rfl
@[simp] theorem State.setPc_sdsShadow (s : State) (v : Word) : (s.setPc v).sdsShadow = s.sdsShadow := rfl
@[simp] theorem State.setPc_stale (s : State) (v : Word) : (s.setPc v).stale = s.stale := rfl
@[simp] theorem State.setPc_midBus (s : State) (v : Word) : (s.setPc v).midBus = s.midBus := rfl
@[simp] theorem State.setPc_storing (s : State) (v : Word) : (s.setPc v).storing = s.storing := rfl

/-! `setCpsr` -/

@[simp] theorem State.setCpsr_regs (s : State) (v : Word) : (s.setCpsr v).core.regs = s.core.regs := rfl
@[simp] theorem State.setCpsr_pc (s : State) (v : Word) : (s.setCpsr v).core.pc = s.core.pc := rfl
@[simp] theorem State.setCpsr_cpsr (s : State) (v : Word) : (s.setCpsr v).core.cpsr = v := rfl
@[simp] theorem State.setCpsr_spsrs (s : State) (v : Word) : (s.setCpsr v).core.spsrs = s.core.spsrs := rfl
@[simp] theorem State.setCpsr_acc0 (s : State) (v : Word) : (s.setCpsr v).core.acc0 = s.core.acc0 := rfl
@[simp] theorem State.setCpsr_cp15 (s : State) (v : Word) : (s.setCpsr v).cp15 = s.cp15 := rfl
@[simp] theorem State.setCpsr_cp14 (s : State) (v : Word) : (s.setCpsr v).cp14 = s.cp14 := rfl
@[simp] theorem State.setCpsr_itlb (s : State) (v : Word) : (s.setCpsr v).itlb = s.itlb := rfl
@[simp] theorem State.setCpsr_dtlb (s : State) (v : Word) : (s.setCpsr v).dtlb = s.dtlb := rfl
@[simp] theorem State.setCpsr_icache (s : State) (v : Word) : (s.setCpsr v).icache = s.icache := rfl
@[simp] theorem State.setCpsr_miniICache (s : State) (v : Word) : (s.setCpsr v).miniICache = s.miniICache := rfl
@[simp] theorem State.setCpsr_fetchBufs (s : State) (v : Word) : (s.setCpsr v).fetchBufs = s.fetchBufs := rfl
@[simp] theorem State.setCpsr_btb (s : State) (v : Word) : (s.setCpsr v).btb = s.btb := rfl
@[simp] theorem State.setCpsr_dcache (s : State) (v : Word) : (s.setCpsr v).dcache = s.dcache := rfl
@[simp] theorem State.setCpsr_miniDCache (s : State) (v : Word) : (s.setCpsr v).miniDCache = s.miniDCache := rfl
@[simp] theorem State.setCpsr_writeBuf (s : State) (v : Word) : (s.setCpsr v).writeBuf = s.writeBuf := rfl
@[simp] theorem State.setCpsr_fillBuf (s : State) (v : Word) : (s.setCpsr v).fillBuf = s.fillBuf := rfl
@[simp] theorem State.setCpsr_pendBuf (s : State) (v : Word) : (s.setCpsr v).pendBuf = s.pendBuf := rfl
@[simp] theorem State.setCpsr_mem (s : State) (v : Word) : (s.setCpsr v).mem = s.mem := rfl
@[simp] theorem State.setCpsr_platform (s : State) (v : Word) : (s.setCpsr v).platform = s.platform := rfl
@[simp] theorem State.setCpsr_extAborts (s : State) (v : Word) : (s.setCpsr v).extAborts = s.extAborts := rfl
@[simp] theorem State.setCpsr_deviceOps (s : State) (v : Word) : (s.setCpsr v).deviceOps = s.deviceOps := rfl
@[simp] theorem State.setCpsr_pending (s : State) (v : Word) : (s.setCpsr v).pending = s.pending := rfl
@[simp] theorem State.setCpsr_sds (s : State) (v : Word) : (s.setCpsr v).sds = s.sds := rfl
@[simp] theorem State.setCpsr_power (s : State) (v : Word) : (s.setCpsr v).power = s.power := rfl
@[simp] theorem State.setCpsr_trace (s : State) (v : Word) : (s.setCpsr v).trace = s.trace := rfl
@[simp] theorem State.setCpsr_jtag (s : State) (v : Word) : (s.setCpsr v).jtag = s.jtag := rfl
@[simp] theorem State.setCpsr_freeCtr (s : State) (v : Word) : (s.setCpsr v).freeCtr = s.freeCtr := rfl
@[simp] theorem State.setCpsr_inputs (s : State) (v : Word) : (s.setCpsr v).inputs = s.inputs := rfl
@[simp] theorem State.setCpsr_sdsShadow (s : State) (v : Word) : (s.setCpsr v).sdsShadow = s.sdsShadow := rfl
@[simp] theorem State.setCpsr_stale (s : State) (v : Word) : (s.setCpsr v).stale = s.stale := rfl
@[simp] theorem State.setCpsr_midBus (s : State) (v : Word) : (s.setCpsr v).midBus = s.midBus := rfl
@[simp] theorem State.setCpsr_storing (s : State) (v : Word) : (s.setCpsr v).storing = s.storing := rfl

/-! `setAcc` -/

@[simp] theorem State.setAcc_regs (s : State) (v : Acc) : (s.setAcc v).core.regs = s.core.regs := rfl
@[simp] theorem State.setAcc_pc (s : State) (v : Acc) : (s.setAcc v).core.pc = s.core.pc := rfl
@[simp] theorem State.setAcc_cpsr (s : State) (v : Acc) : (s.setAcc v).core.cpsr = s.core.cpsr := rfl
@[simp] theorem State.setAcc_spsrs (s : State) (v : Acc) : (s.setAcc v).core.spsrs = s.core.spsrs := rfl
@[simp] theorem State.setAcc_acc0 (s : State) (v : Acc) : (s.setAcc v).core.acc0 = v := rfl
@[simp] theorem State.setAcc_cp15 (s : State) (v : Acc) : (s.setAcc v).cp15 = s.cp15 := rfl
@[simp] theorem State.setAcc_cp14 (s : State) (v : Acc) : (s.setAcc v).cp14 = s.cp14 := rfl
@[simp] theorem State.setAcc_itlb (s : State) (v : Acc) : (s.setAcc v).itlb = s.itlb := rfl
@[simp] theorem State.setAcc_dtlb (s : State) (v : Acc) : (s.setAcc v).dtlb = s.dtlb := rfl
@[simp] theorem State.setAcc_icache (s : State) (v : Acc) : (s.setAcc v).icache = s.icache := rfl
@[simp] theorem State.setAcc_miniICache (s : State) (v : Acc) : (s.setAcc v).miniICache = s.miniICache := rfl
@[simp] theorem State.setAcc_fetchBufs (s : State) (v : Acc) : (s.setAcc v).fetchBufs = s.fetchBufs := rfl
@[simp] theorem State.setAcc_btb (s : State) (v : Acc) : (s.setAcc v).btb = s.btb := rfl
@[simp] theorem State.setAcc_dcache (s : State) (v : Acc) : (s.setAcc v).dcache = s.dcache := rfl
@[simp] theorem State.setAcc_miniDCache (s : State) (v : Acc) : (s.setAcc v).miniDCache = s.miniDCache := rfl
@[simp] theorem State.setAcc_writeBuf (s : State) (v : Acc) : (s.setAcc v).writeBuf = s.writeBuf := rfl
@[simp] theorem State.setAcc_fillBuf (s : State) (v : Acc) : (s.setAcc v).fillBuf = s.fillBuf := rfl
@[simp] theorem State.setAcc_pendBuf (s : State) (v : Acc) : (s.setAcc v).pendBuf = s.pendBuf := rfl
@[simp] theorem State.setAcc_mem (s : State) (v : Acc) : (s.setAcc v).mem = s.mem := rfl
@[simp] theorem State.setAcc_platform (s : State) (v : Acc) : (s.setAcc v).platform = s.platform := rfl
@[simp] theorem State.setAcc_extAborts (s : State) (v : Acc) : (s.setAcc v).extAborts = s.extAborts := rfl
@[simp] theorem State.setAcc_deviceOps (s : State) (v : Acc) : (s.setAcc v).deviceOps = s.deviceOps := rfl
@[simp] theorem State.setAcc_pending (s : State) (v : Acc) : (s.setAcc v).pending = s.pending := rfl
@[simp] theorem State.setAcc_sds (s : State) (v : Acc) : (s.setAcc v).sds = s.sds := rfl
@[simp] theorem State.setAcc_power (s : State) (v : Acc) : (s.setAcc v).power = s.power := rfl
@[simp] theorem State.setAcc_trace (s : State) (v : Acc) : (s.setAcc v).trace = s.trace := rfl
@[simp] theorem State.setAcc_jtag (s : State) (v : Acc) : (s.setAcc v).jtag = s.jtag := rfl
@[simp] theorem State.setAcc_freeCtr (s : State) (v : Acc) : (s.setAcc v).freeCtr = s.freeCtr := rfl
@[simp] theorem State.setAcc_inputs (s : State) (v : Acc) : (s.setAcc v).inputs = s.inputs := rfl
@[simp] theorem State.setAcc_sdsShadow (s : State) (v : Acc) : (s.setAcc v).sdsShadow = s.sdsShadow := rfl
@[simp] theorem State.setAcc_stale (s : State) (v : Acc) : (s.setAcc v).stale = s.stale := rfl
@[simp] theorem State.setAcc_midBus (s : State) (v : Acc) : (s.setAcc v).midBus = s.midBus := rfl
@[simp] theorem State.setAcc_storing (s : State) (v : Acc) : (s.setAcc v).storing = s.storing := rfl

/-! `setBankedReg` -/

@[simp] theorem State.setBankedReg_regs (s : State) (m : Mode) (n : Reg) (v : Word) : (s.setBankedReg m n v).core.regs = s.core.regs.set (physReg m n).toFin v := rfl
@[simp] theorem State.setBankedReg_pc (s : State) (m : Mode) (n : Reg) (v : Word) : (s.setBankedReg m n v).core.pc = s.core.pc := rfl
@[simp] theorem State.setBankedReg_cpsr (s : State) (m : Mode) (n : Reg) (v : Word) : (s.setBankedReg m n v).core.cpsr = s.core.cpsr := rfl
@[simp] theorem State.setBankedReg_spsrs (s : State) (m : Mode) (n : Reg) (v : Word) : (s.setBankedReg m n v).core.spsrs = s.core.spsrs := rfl
@[simp] theorem State.setBankedReg_acc0 (s : State) (m : Mode) (n : Reg) (v : Word) : (s.setBankedReg m n v).core.acc0 = s.core.acc0 := rfl
@[simp] theorem State.setBankedReg_cp15 (s : State) (m : Mode) (n : Reg) (v : Word) : (s.setBankedReg m n v).cp15 = s.cp15 := rfl
@[simp] theorem State.setBankedReg_cp14 (s : State) (m : Mode) (n : Reg) (v : Word) : (s.setBankedReg m n v).cp14 = s.cp14 := rfl
@[simp] theorem State.setBankedReg_itlb (s : State) (m : Mode) (n : Reg) (v : Word) : (s.setBankedReg m n v).itlb = s.itlb := rfl
@[simp] theorem State.setBankedReg_dtlb (s : State) (m : Mode) (n : Reg) (v : Word) : (s.setBankedReg m n v).dtlb = s.dtlb := rfl
@[simp] theorem State.setBankedReg_icache (s : State) (m : Mode) (n : Reg) (v : Word) : (s.setBankedReg m n v).icache = s.icache := rfl
@[simp] theorem State.setBankedReg_miniICache (s : State) (m : Mode) (n : Reg) (v : Word) : (s.setBankedReg m n v).miniICache = s.miniICache := rfl
@[simp] theorem State.setBankedReg_fetchBufs (s : State) (m : Mode) (n : Reg) (v : Word) : (s.setBankedReg m n v).fetchBufs = s.fetchBufs := rfl
@[simp] theorem State.setBankedReg_btb (s : State) (m : Mode) (n : Reg) (v : Word) : (s.setBankedReg m n v).btb = s.btb := rfl
@[simp] theorem State.setBankedReg_dcache (s : State) (m : Mode) (n : Reg) (v : Word) : (s.setBankedReg m n v).dcache = s.dcache := rfl
@[simp] theorem State.setBankedReg_miniDCache (s : State) (m : Mode) (n : Reg) (v : Word) : (s.setBankedReg m n v).miniDCache = s.miniDCache := rfl
@[simp] theorem State.setBankedReg_writeBuf (s : State) (m : Mode) (n : Reg) (v : Word) : (s.setBankedReg m n v).writeBuf = s.writeBuf := rfl
@[simp] theorem State.setBankedReg_fillBuf (s : State) (m : Mode) (n : Reg) (v : Word) : (s.setBankedReg m n v).fillBuf = s.fillBuf := rfl
@[simp] theorem State.setBankedReg_pendBuf (s : State) (m : Mode) (n : Reg) (v : Word) : (s.setBankedReg m n v).pendBuf = s.pendBuf := rfl
@[simp] theorem State.setBankedReg_mem (s : State) (m : Mode) (n : Reg) (v : Word) : (s.setBankedReg m n v).mem = s.mem := rfl
@[simp] theorem State.setBankedReg_platform (s : State) (m : Mode) (n : Reg) (v : Word) : (s.setBankedReg m n v).platform = s.platform := rfl
@[simp] theorem State.setBankedReg_extAborts (s : State) (m : Mode) (n : Reg) (v : Word) : (s.setBankedReg m n v).extAborts = s.extAborts := rfl
@[simp] theorem State.setBankedReg_deviceOps (s : State) (m : Mode) (n : Reg) (v : Word) : (s.setBankedReg m n v).deviceOps = s.deviceOps := rfl
@[simp] theorem State.setBankedReg_pending (s : State) (m : Mode) (n : Reg) (v : Word) : (s.setBankedReg m n v).pending = s.pending := rfl
@[simp] theorem State.setBankedReg_sds (s : State) (m : Mode) (n : Reg) (v : Word) : (s.setBankedReg m n v).sds = s.sds := rfl
@[simp] theorem State.setBankedReg_power (s : State) (m : Mode) (n : Reg) (v : Word) : (s.setBankedReg m n v).power = s.power := rfl
@[simp] theorem State.setBankedReg_trace (s : State) (m : Mode) (n : Reg) (v : Word) : (s.setBankedReg m n v).trace = s.trace := rfl
@[simp] theorem State.setBankedReg_jtag (s : State) (m : Mode) (n : Reg) (v : Word) : (s.setBankedReg m n v).jtag = s.jtag := rfl
@[simp] theorem State.setBankedReg_freeCtr (s : State) (m : Mode) (n : Reg) (v : Word) : (s.setBankedReg m n v).freeCtr = s.freeCtr := rfl
@[simp] theorem State.setBankedReg_inputs (s : State) (m : Mode) (n : Reg) (v : Word) : (s.setBankedReg m n v).inputs = s.inputs := rfl
@[simp] theorem State.setBankedReg_sdsShadow (s : State) (m : Mode) (n : Reg) (v : Word) : (s.setBankedReg m n v).sdsShadow = s.sdsShadow := rfl
@[simp] theorem State.setBankedReg_stale (s : State) (m : Mode) (n : Reg) (v : Word) : (s.setBankedReg m n v).stale = s.stale := rfl
@[simp] theorem State.setBankedReg_midBus (s : State) (m : Mode) (n : Reg) (v : Word) : (s.setBankedReg m n v).midBus = s.midBus := rfl
@[simp] theorem State.setBankedReg_storing (s : State) (m : Mode) (n : Reg) (v : Word) : (s.setBankedReg m n v).storing = s.storing := rfl

/-! `setCp15` -/

@[simp] theorem State.setCp15_core (s : State) (c : Cp15) : (s.setCp15 c).core = s.core := rfl
@[simp] theorem State.setCp15_cp15 (s : State) (c : Cp15) : (s.setCp15 c).cp15 = c := rfl
@[simp] theorem State.setCp15_cp14 (s : State) (c : Cp15) : (s.setCp15 c).cp14 = s.cp14 := rfl
@[simp] theorem State.setCp15_itlb (s : State) (c : Cp15) : (s.setCp15 c).itlb = s.itlb := rfl
@[simp] theorem State.setCp15_dtlb (s : State) (c : Cp15) : (s.setCp15 c).dtlb = s.dtlb := rfl
@[simp] theorem State.setCp15_icache (s : State) (c : Cp15) : (s.setCp15 c).icache = s.icache := rfl
@[simp] theorem State.setCp15_miniICache (s : State) (c : Cp15) : (s.setCp15 c).miniICache = s.miniICache := rfl
@[simp] theorem State.setCp15_fetchBufs (s : State) (c : Cp15) : (s.setCp15 c).fetchBufs = s.fetchBufs := rfl
@[simp] theorem State.setCp15_btb (s : State) (c : Cp15) : (s.setCp15 c).btb = s.btb := rfl
@[simp] theorem State.setCp15_dcache (s : State) (c : Cp15) : (s.setCp15 c).dcache = s.dcache := rfl
@[simp] theorem State.setCp15_miniDCache (s : State) (c : Cp15) : (s.setCp15 c).miniDCache = s.miniDCache := rfl
@[simp] theorem State.setCp15_writeBuf (s : State) (c : Cp15) : (s.setCp15 c).writeBuf = s.writeBuf := rfl
@[simp] theorem State.setCp15_fillBuf (s : State) (c : Cp15) : (s.setCp15 c).fillBuf = s.fillBuf := rfl
@[simp] theorem State.setCp15_pendBuf (s : State) (c : Cp15) : (s.setCp15 c).pendBuf = s.pendBuf := rfl
@[simp] theorem State.setCp15_mem (s : State) (c : Cp15) : (s.setCp15 c).mem = s.mem := rfl
@[simp] theorem State.setCp15_platform (s : State) (c : Cp15) : (s.setCp15 c).platform = s.platform := rfl
@[simp] theorem State.setCp15_extAborts (s : State) (c : Cp15) : (s.setCp15 c).extAborts = s.extAborts := rfl
@[simp] theorem State.setCp15_deviceOps (s : State) (c : Cp15) : (s.setCp15 c).deviceOps = s.deviceOps := rfl
@[simp] theorem State.setCp15_pending (s : State) (c : Cp15) : (s.setCp15 c).pending = s.pending := rfl
@[simp] theorem State.setCp15_sds (s : State) (c : Cp15) : (s.setCp15 c).sds = s.sds := rfl
@[simp] theorem State.setCp15_power (s : State) (c : Cp15) : (s.setCp15 c).power = s.power := rfl
@[simp] theorem State.setCp15_trace (s : State) (c : Cp15) : (s.setCp15 c).trace = s.trace := rfl
@[simp] theorem State.setCp15_jtag (s : State) (c : Cp15) : (s.setCp15 c).jtag = s.jtag := rfl
@[simp] theorem State.setCp15_freeCtr (s : State) (c : Cp15) : (s.setCp15 c).freeCtr = s.freeCtr := rfl
@[simp] theorem State.setCp15_inputs (s : State) (c : Cp15) : (s.setCp15 c).inputs = s.inputs := rfl
@[simp] theorem State.setCp15_sdsShadow (s : State) (c : Cp15) : (s.setCp15 c).sdsShadow = s.sdsShadow := rfl
@[simp] theorem State.setCp15_stale (s : State) (c : Cp15) : (s.setCp15 c).stale = s.stale := rfl
@[simp] theorem State.setCp15_midBus (s : State) (c : Cp15) : (s.setCp15 c).midBus = s.midBus := rfl
@[simp] theorem State.setCp15_storing (s : State) (c : Cp15) : (s.setCp15 c).storing = s.storing := rfl

/-! `setCp14` -/

@[simp] theorem State.setCp14_core (s : State) (c : Cp14) : (s.setCp14 c).core = s.core := rfl
@[simp] theorem State.setCp14_cp15 (s : State) (c : Cp14) : (s.setCp14 c).cp15 = s.cp15 := rfl
@[simp] theorem State.setCp14_cp14 (s : State) (c : Cp14) : (s.setCp14 c).cp14 = c := rfl
@[simp] theorem State.setCp14_itlb (s : State) (c : Cp14) : (s.setCp14 c).itlb = s.itlb := rfl
@[simp] theorem State.setCp14_dtlb (s : State) (c : Cp14) : (s.setCp14 c).dtlb = s.dtlb := rfl
@[simp] theorem State.setCp14_icache (s : State) (c : Cp14) : (s.setCp14 c).icache = s.icache := rfl
@[simp] theorem State.setCp14_miniICache (s : State) (c : Cp14) : (s.setCp14 c).miniICache = s.miniICache := rfl
@[simp] theorem State.setCp14_fetchBufs (s : State) (c : Cp14) : (s.setCp14 c).fetchBufs = s.fetchBufs := rfl
@[simp] theorem State.setCp14_btb (s : State) (c : Cp14) : (s.setCp14 c).btb = s.btb := rfl
@[simp] theorem State.setCp14_dcache (s : State) (c : Cp14) : (s.setCp14 c).dcache = s.dcache := rfl
@[simp] theorem State.setCp14_miniDCache (s : State) (c : Cp14) : (s.setCp14 c).miniDCache = s.miniDCache := rfl
@[simp] theorem State.setCp14_writeBuf (s : State) (c : Cp14) : (s.setCp14 c).writeBuf = s.writeBuf := rfl
@[simp] theorem State.setCp14_fillBuf (s : State) (c : Cp14) : (s.setCp14 c).fillBuf = s.fillBuf := rfl
@[simp] theorem State.setCp14_pendBuf (s : State) (c : Cp14) : (s.setCp14 c).pendBuf = s.pendBuf := rfl
@[simp] theorem State.setCp14_mem (s : State) (c : Cp14) : (s.setCp14 c).mem = s.mem := rfl
@[simp] theorem State.setCp14_platform (s : State) (c : Cp14) : (s.setCp14 c).platform = s.platform := rfl
@[simp] theorem State.setCp14_extAborts (s : State) (c : Cp14) : (s.setCp14 c).extAborts = s.extAborts := rfl
@[simp] theorem State.setCp14_deviceOps (s : State) (c : Cp14) : (s.setCp14 c).deviceOps = s.deviceOps := rfl
@[simp] theorem State.setCp14_pending (s : State) (c : Cp14) : (s.setCp14 c).pending = s.pending := rfl
@[simp] theorem State.setCp14_sds (s : State) (c : Cp14) : (s.setCp14 c).sds = s.sds := rfl
@[simp] theorem State.setCp14_power (s : State) (c : Cp14) : (s.setCp14 c).power = s.power := rfl
@[simp] theorem State.setCp14_trace (s : State) (c : Cp14) : (s.setCp14 c).trace = s.trace := rfl
@[simp] theorem State.setCp14_jtag (s : State) (c : Cp14) : (s.setCp14 c).jtag = s.jtag := rfl
@[simp] theorem State.setCp14_freeCtr (s : State) (c : Cp14) : (s.setCp14 c).freeCtr = s.freeCtr := rfl
@[simp] theorem State.setCp14_inputs (s : State) (c : Cp14) : (s.setCp14 c).inputs = s.inputs := rfl
@[simp] theorem State.setCp14_sdsShadow (s : State) (c : Cp14) : (s.setCp14 c).sdsShadow = s.sdsShadow := rfl
@[simp] theorem State.setCp14_stale (s : State) (c : Cp14) : (s.setCp14 c).stale = s.stale := rfl
@[simp] theorem State.setCp14_midBus (s : State) (c : Cp14) : (s.setCp14 c).midBus = s.midBus := rfl
@[simp] theorem State.setCp14_storing (s : State) (c : Cp14) : (s.setCp14 c).storing = s.storing := rfl

/-! `setFault` -/

@[simp] theorem State.setFault_core (s : State) (fsr far : Word) : (s.setFault fsr far).core = s.core := rfl
@[simp] theorem State.setFault_cp15 (s : State) (fsr far : Word) : (s.setFault fsr far).cp15 = { s.cp15 with fsr := fsr, far := far } := rfl
@[simp] theorem State.setFault_cp14 (s : State) (fsr far : Word) : (s.setFault fsr far).cp14 = s.cp14 := rfl
@[simp] theorem State.setFault_itlb (s : State) (fsr far : Word) : (s.setFault fsr far).itlb = s.itlb := rfl
@[simp] theorem State.setFault_dtlb (s : State) (fsr far : Word) : (s.setFault fsr far).dtlb = s.dtlb := rfl
@[simp] theorem State.setFault_icache (s : State) (fsr far : Word) : (s.setFault fsr far).icache = s.icache := rfl
@[simp] theorem State.setFault_miniICache (s : State) (fsr far : Word) : (s.setFault fsr far).miniICache = s.miniICache := rfl
@[simp] theorem State.setFault_fetchBufs (s : State) (fsr far : Word) : (s.setFault fsr far).fetchBufs = s.fetchBufs := rfl
@[simp] theorem State.setFault_btb (s : State) (fsr far : Word) : (s.setFault fsr far).btb = s.btb := rfl
@[simp] theorem State.setFault_dcache (s : State) (fsr far : Word) : (s.setFault fsr far).dcache = s.dcache := rfl
@[simp] theorem State.setFault_miniDCache (s : State) (fsr far : Word) : (s.setFault fsr far).miniDCache = s.miniDCache := rfl
@[simp] theorem State.setFault_writeBuf (s : State) (fsr far : Word) : (s.setFault fsr far).writeBuf = s.writeBuf := rfl
@[simp] theorem State.setFault_fillBuf (s : State) (fsr far : Word) : (s.setFault fsr far).fillBuf = s.fillBuf := rfl
@[simp] theorem State.setFault_pendBuf (s : State) (fsr far : Word) : (s.setFault fsr far).pendBuf = s.pendBuf := rfl
@[simp] theorem State.setFault_mem (s : State) (fsr far : Word) : (s.setFault fsr far).mem = s.mem := rfl
@[simp] theorem State.setFault_platform (s : State) (fsr far : Word) : (s.setFault fsr far).platform = s.platform := rfl
@[simp] theorem State.setFault_extAborts (s : State) (fsr far : Word) : (s.setFault fsr far).extAborts = s.extAborts := rfl
@[simp] theorem State.setFault_deviceOps (s : State) (fsr far : Word) : (s.setFault fsr far).deviceOps = s.deviceOps := rfl
@[simp] theorem State.setFault_pending (s : State) (fsr far : Word) : (s.setFault fsr far).pending = s.pending := rfl
@[simp] theorem State.setFault_sds (s : State) (fsr far : Word) : (s.setFault fsr far).sds = s.sds := rfl
@[simp] theorem State.setFault_power (s : State) (fsr far : Word) : (s.setFault fsr far).power = s.power := rfl
@[simp] theorem State.setFault_trace (s : State) (fsr far : Word) : (s.setFault fsr far).trace = s.trace := rfl
@[simp] theorem State.setFault_jtag (s : State) (fsr far : Word) : (s.setFault fsr far).jtag = s.jtag := rfl
@[simp] theorem State.setFault_freeCtr (s : State) (fsr far : Word) : (s.setFault fsr far).freeCtr = s.freeCtr := rfl
@[simp] theorem State.setFault_inputs (s : State) (fsr far : Word) : (s.setFault fsr far).inputs = s.inputs := rfl
@[simp] theorem State.setFault_sdsShadow (s : State) (fsr far : Word) : (s.setFault fsr far).sdsShadow = s.sdsShadow := rfl
@[simp] theorem State.setFault_stale (s : State) (fsr far : Word) : (s.setFault fsr far).stale = s.stale := rfl
@[simp] theorem State.setFault_midBus (s : State) (fsr far : Word) : (s.setFault fsr far).midBus = s.midBus := rfl
@[simp] theorem State.setFault_storing (s : State) (fsr far : Word) : (s.setFault fsr far).storing = s.storing := rfl

/-! `setStickyAbort` -/

@[simp] theorem State.setStickyAbort_core (s : State) : (s.setStickyAbort).core = s.core := rfl
@[simp] theorem State.setStickyAbort_cp15 (s : State) : (s.setStickyAbort).cp15 = s.cp15 := rfl
@[simp] theorem State.setStickyAbort_cp14 (s : State) : (s.setStickyAbort).cp14 = { s.cp14 with dcsr := setBit 5 true s.cp14.dcsr } := rfl
@[simp] theorem State.setStickyAbort_itlb (s : State) : (s.setStickyAbort).itlb = s.itlb := rfl
@[simp] theorem State.setStickyAbort_dtlb (s : State) : (s.setStickyAbort).dtlb = s.dtlb := rfl
@[simp] theorem State.setStickyAbort_icache (s : State) : (s.setStickyAbort).icache = s.icache := rfl
@[simp] theorem State.setStickyAbort_miniICache (s : State) : (s.setStickyAbort).miniICache = s.miniICache := rfl
@[simp] theorem State.setStickyAbort_fetchBufs (s : State) : (s.setStickyAbort).fetchBufs = s.fetchBufs := rfl
@[simp] theorem State.setStickyAbort_btb (s : State) : (s.setStickyAbort).btb = s.btb := rfl
@[simp] theorem State.setStickyAbort_dcache (s : State) : (s.setStickyAbort).dcache = s.dcache := rfl
@[simp] theorem State.setStickyAbort_miniDCache (s : State) : (s.setStickyAbort).miniDCache = s.miniDCache := rfl
@[simp] theorem State.setStickyAbort_writeBuf (s : State) : (s.setStickyAbort).writeBuf = s.writeBuf := rfl
@[simp] theorem State.setStickyAbort_fillBuf (s : State) : (s.setStickyAbort).fillBuf = s.fillBuf := rfl
@[simp] theorem State.setStickyAbort_pendBuf (s : State) : (s.setStickyAbort).pendBuf = s.pendBuf := rfl
@[simp] theorem State.setStickyAbort_mem (s : State) : (s.setStickyAbort).mem = s.mem := rfl
@[simp] theorem State.setStickyAbort_platform (s : State) : (s.setStickyAbort).platform = s.platform := rfl
@[simp] theorem State.setStickyAbort_extAborts (s : State) : (s.setStickyAbort).extAborts = s.extAborts := rfl
@[simp] theorem State.setStickyAbort_deviceOps (s : State) : (s.setStickyAbort).deviceOps = s.deviceOps := rfl
@[simp] theorem State.setStickyAbort_pending (s : State) : (s.setStickyAbort).pending = s.pending := rfl
@[simp] theorem State.setStickyAbort_sds (s : State) : (s.setStickyAbort).sds = s.sds := rfl
@[simp] theorem State.setStickyAbort_power (s : State) : (s.setStickyAbort).power = s.power := rfl
@[simp] theorem State.setStickyAbort_trace (s : State) : (s.setStickyAbort).trace = s.trace := rfl
@[simp] theorem State.setStickyAbort_jtag (s : State) : (s.setStickyAbort).jtag = s.jtag := rfl
@[simp] theorem State.setStickyAbort_freeCtr (s : State) : (s.setStickyAbort).freeCtr = s.freeCtr := rfl
@[simp] theorem State.setStickyAbort_inputs (s : State) : (s.setStickyAbort).inputs = s.inputs := rfl
@[simp] theorem State.setStickyAbort_sdsShadow (s : State) : (s.setStickyAbort).sdsShadow = s.sdsShadow := rfl
@[simp] theorem State.setStickyAbort_stale (s : State) : (s.setStickyAbort).stale = s.stale := rfl
@[simp] theorem State.setStickyAbort_midBus (s : State) : (s.setStickyAbort).midBus = s.midBus := rfl
@[simp] theorem State.setStickyAbort_storing (s : State) : (s.setStickyAbort).storing = s.storing := rfl

/-! `consume` -/

@[simp] theorem State.consume_core (s : State) (n : Nat) : (s.consume n).core = s.core := rfl
@[simp] theorem State.consume_cp15 (s : State) (n : Nat) : (s.consume n).cp15 = s.cp15 := rfl
@[simp] theorem State.consume_cp14 (s : State) (n : Nat) : (s.consume n).cp14 = s.cp14 := rfl
@[simp] theorem State.consume_itlb (s : State) (n : Nat) : (s.consume n).itlb = s.itlb := rfl
@[simp] theorem State.consume_dtlb (s : State) (n : Nat) : (s.consume n).dtlb = s.dtlb := rfl
@[simp] theorem State.consume_icache (s : State) (n : Nat) : (s.consume n).icache = s.icache := rfl
@[simp] theorem State.consume_miniICache (s : State) (n : Nat) : (s.consume n).miniICache = s.miniICache := rfl
@[simp] theorem State.consume_fetchBufs (s : State) (n : Nat) : (s.consume n).fetchBufs = s.fetchBufs := rfl
@[simp] theorem State.consume_btb (s : State) (n : Nat) : (s.consume n).btb = s.btb := rfl
@[simp] theorem State.consume_dcache (s : State) (n : Nat) : (s.consume n).dcache = s.dcache := rfl
@[simp] theorem State.consume_miniDCache (s : State) (n : Nat) : (s.consume n).miniDCache = s.miniDCache := rfl
@[simp] theorem State.consume_writeBuf (s : State) (n : Nat) : (s.consume n).writeBuf = s.writeBuf := rfl
@[simp] theorem State.consume_fillBuf (s : State) (n : Nat) : (s.consume n).fillBuf = s.fillBuf := rfl
@[simp] theorem State.consume_pendBuf (s : State) (n : Nat) : (s.consume n).pendBuf = s.pendBuf := rfl
@[simp] theorem State.consume_mem (s : State) (n : Nat) : (s.consume n).mem = s.mem := rfl
@[simp] theorem State.consume_platform (s : State) (n : Nat) : (s.consume n).platform = s.platform := rfl
@[simp] theorem State.consume_extAborts (s : State) (n : Nat) : (s.consume n).extAborts = s.extAborts := rfl
@[simp] theorem State.consume_deviceOps (s : State) (n : Nat) : (s.consume n).deviceOps = s.deviceOps := rfl
@[simp] theorem State.consume_pending (s : State) (n : Nat) : (s.consume n).pending = s.pending := rfl
@[simp] theorem State.consume_sds (s : State) (n : Nat) : (s.consume n).sds = s.sds := rfl
@[simp] theorem State.consume_power (s : State) (n : Nat) : (s.consume n).power = s.power := rfl
@[simp] theorem State.consume_trace (s : State) (n : Nat) : (s.consume n).trace = s.trace := rfl
@[simp] theorem State.consume_jtag (s : State) (n : Nat) : (s.consume n).jtag = s.jtag := rfl
@[simp] theorem State.consume_freeCtr (s : State) (n : Nat) : (s.consume n).freeCtr = s.freeCtr + n := rfl
@[simp] theorem State.consume_inputs (s : State) (n : Nat) : (s.consume n).inputs = s.inputs := rfl
@[simp] theorem State.consume_sdsShadow (s : State) (n : Nat) : (s.consume n).sdsShadow = s.sdsShadow := rfl
@[simp] theorem State.consume_stale (s : State) (n : Nat) : (s.consume n).stale = s.stale := rfl
@[simp] theorem State.consume_midBus (s : State) (n : Nat) : (s.consume n).midBus = s.midBus := rfl
@[simp] theorem State.consume_storing (s : State) (n : Nat) : (s.consume n).storing = s.storing := rfl

/-! `count` -/

@[simp] theorem State.count_core (s : State) (e : Event) : (s.count e).core = s.core := rfl
@[simp] theorem State.count_cp15 (s : State) (e : Event) : (s.count e).cp15 = s.cp15 := rfl
@[simp] theorem State.count_cp14 (s : State) (e : Event) : (s.count e).cp14 = countCp14 e 1 s.cp14 := rfl
@[simp] theorem State.count_itlb (s : State) (e : Event) : (s.count e).itlb = s.itlb := rfl
@[simp] theorem State.count_dtlb (s : State) (e : Event) : (s.count e).dtlb = s.dtlb := rfl
@[simp] theorem State.count_icache (s : State) (e : Event) : (s.count e).icache = s.icache := rfl
@[simp] theorem State.count_miniICache (s : State) (e : Event) : (s.count e).miniICache = s.miniICache := rfl
@[simp] theorem State.count_fetchBufs (s : State) (e : Event) : (s.count e).fetchBufs = s.fetchBufs := rfl
@[simp] theorem State.count_btb (s : State) (e : Event) : (s.count e).btb = s.btb := rfl
@[simp] theorem State.count_dcache (s : State) (e : Event) : (s.count e).dcache = s.dcache := rfl
@[simp] theorem State.count_miniDCache (s : State) (e : Event) : (s.count e).miniDCache = s.miniDCache := rfl
@[simp] theorem State.count_writeBuf (s : State) (e : Event) : (s.count e).writeBuf = s.writeBuf := rfl
@[simp] theorem State.count_fillBuf (s : State) (e : Event) : (s.count e).fillBuf = s.fillBuf := rfl
@[simp] theorem State.count_pendBuf (s : State) (e : Event) : (s.count e).pendBuf = s.pendBuf := rfl
@[simp] theorem State.count_mem (s : State) (e : Event) : (s.count e).mem = s.mem := rfl
@[simp] theorem State.count_platform (s : State) (e : Event) : (s.count e).platform = s.platform := rfl
@[simp] theorem State.count_extAborts (s : State) (e : Event) : (s.count e).extAborts = s.extAborts := rfl
@[simp] theorem State.count_deviceOps (s : State) (e : Event) : (s.count e).deviceOps = s.deviceOps := rfl
@[simp] theorem State.count_pending (s : State) (e : Event) : (s.count e).pending = s.pending := rfl
@[simp] theorem State.count_sds (s : State) (e : Event) : (s.count e).sds = s.sds := rfl
@[simp] theorem State.count_power (s : State) (e : Event) : (s.count e).power = s.power := rfl
@[simp] theorem State.count_trace (s : State) (e : Event) : (s.count e).trace = s.trace := rfl
@[simp] theorem State.count_jtag (s : State) (e : Event) : (s.count e).jtag = s.jtag := rfl
@[simp] theorem State.count_freeCtr (s : State) (e : Event) : (s.count e).freeCtr = s.freeCtr := rfl
@[simp] theorem State.count_inputs (s : State) (e : Event) : (s.count e).inputs = s.inputs := rfl
@[simp] theorem State.count_sdsShadow (s : State) (e : Event) : (s.count e).sdsShadow = s.sdsShadow := rfl
@[simp] theorem State.count_stale (s : State) (e : Event) : (s.count e).stale = s.stale := rfl
@[simp] theorem State.count_midBus (s : State) (e : Event) : (s.count e).midBus = s.midBus := rfl
@[simp] theorem State.count_storing (s : State) (e : Event) : (s.count e).storing = s.storing := rfl

/-! `putByte` -/

@[simp] theorem State.putByte_core (s : State) (pa : Word) (b : Byte) : (s.putByte pa b).core = s.core := rfl
@[simp] theorem State.putByte_cp15 (s : State) (pa : Word) (b : Byte) : (s.putByte pa b).cp15 = s.cp15 := rfl
@[simp] theorem State.putByte_cp14 (s : State) (pa : Word) (b : Byte) : (s.putByte pa b).cp14 = s.cp14 := rfl
@[simp] theorem State.putByte_itlb (s : State) (pa : Word) (b : Byte) : (s.putByte pa b).itlb = s.itlb := rfl
@[simp] theorem State.putByte_dtlb (s : State) (pa : Word) (b : Byte) : (s.putByte pa b).dtlb = s.dtlb := rfl
@[simp] theorem State.putByte_icache (s : State) (pa : Word) (b : Byte) : (s.putByte pa b).icache = s.icache := rfl
@[simp] theorem State.putByte_miniICache (s : State) (pa : Word) (b : Byte) : (s.putByte pa b).miniICache = s.miniICache := rfl
@[simp] theorem State.putByte_fetchBufs (s : State) (pa : Word) (b : Byte) : (s.putByte pa b).fetchBufs = s.fetchBufs := rfl
@[simp] theorem State.putByte_btb (s : State) (pa : Word) (b : Byte) : (s.putByte pa b).btb = s.btb := rfl
@[simp] theorem State.putByte_dcache (s : State) (pa : Word) (b : Byte) : (s.putByte pa b).dcache = s.dcache := rfl
@[simp] theorem State.putByte_miniDCache (s : State) (pa : Word) (b : Byte) : (s.putByte pa b).miniDCache = s.miniDCache := rfl
@[simp] theorem State.putByte_writeBuf (s : State) (pa : Word) (b : Byte) : (s.putByte pa b).writeBuf = s.writeBuf := rfl
@[simp] theorem State.putByte_fillBuf (s : State) (pa : Word) (b : Byte) : (s.putByte pa b).fillBuf = s.fillBuf := rfl
@[simp] theorem State.putByte_pendBuf (s : State) (pa : Word) (b : Byte) : (s.putByte pa b).pendBuf = s.pendBuf := rfl
@[simp] theorem State.putByte_mem (s : State) (pa : Word) (b : Byte) : (s.putByte pa b).mem = memPut s.mem pa b := rfl
@[simp] theorem State.putByte_platform (s : State) (pa : Word) (b : Byte) : (s.putByte pa b).platform = s.platform := rfl
@[simp] theorem State.putByte_extAborts (s : State) (pa : Word) (b : Byte) : (s.putByte pa b).extAborts = s.extAborts := rfl
@[simp] theorem State.putByte_deviceOps (s : State) (pa : Word) (b : Byte) : (s.putByte pa b).deviceOps = s.deviceOps := rfl
@[simp] theorem State.putByte_pending (s : State) (pa : Word) (b : Byte) : (s.putByte pa b).pending = s.pending := rfl
@[simp] theorem State.putByte_sds (s : State) (pa : Word) (b : Byte) : (s.putByte pa b).sds = s.sds := rfl
@[simp] theorem State.putByte_power (s : State) (pa : Word) (b : Byte) : (s.putByte pa b).power = s.power := rfl
@[simp] theorem State.putByte_trace (s : State) (pa : Word) (b : Byte) : (s.putByte pa b).trace = s.trace := rfl
@[simp] theorem State.putByte_jtag (s : State) (pa : Word) (b : Byte) : (s.putByte pa b).jtag = s.jtag := rfl
@[simp] theorem State.putByte_freeCtr (s : State) (pa : Word) (b : Byte) : (s.putByte pa b).freeCtr = s.freeCtr := rfl
@[simp] theorem State.putByte_inputs (s : State) (pa : Word) (b : Byte) : (s.putByte pa b).inputs = s.inputs := rfl
@[simp] theorem State.putByte_sdsShadow (s : State) (pa : Word) (b : Byte) : (s.putByte pa b).sdsShadow = s.sdsShadow := rfl
@[simp] theorem State.putByte_stale (s : State) (pa : Word) (b : Byte) : (s.putByte pa b).stale = s.stale := rfl
@[simp] theorem State.putByte_midBus (s : State) (pa : Word) (b : Byte) : (s.putByte pa b).midBus = s.midBus := rfl
@[simp] theorem State.putByte_storing (s : State) (pa : Word) (b : Byte) : (s.putByte pa b).storing = s.storing := rfl

end Sys2Proof.Machine
end

