-- ==== Sys2Proof/Laws/Memory.lean ====
section
/-! SUPPORT. Sparse maps and memory: read after write, every other address, and the canonical form, which every
operation keeps. -/

namespace Sys2Proof.Machine

/-! Sparse maps. -/

@[simp] theorem sparseGet_put_same {α : Type} (l : List (Nat × α)) (k : Nat) (v : α) :
    sparseGet (sparsePut l k v) k = some v := by
  induction l with
  | nil => simp [sparsePut, sparseGet]
  | cons h t ih =>
    simp only [sparsePut]
    split
    · simp [sparseGet]
    · split
      · simp [sparseGet]
      · rename_i hne
        simp [sparseGet, hne, ih]

theorem sparseGet_put_other {α : Type} (l : List (Nat × α)) {k k' : Nat} (v : α) (h : k' ≠ k) :
    sparseGet (sparsePut l k v) k' = sparseGet l k' := by
  induction l with
  | nil => simp [sparsePut, sparseGet, h]
  | cons x t ih =>
    simp only [sparsePut]
    split
    · simp [sparseGet, h]
    · split
      · rename_i heq
        subst heq
        simp [sparseGet, h]
      · simp [sparseGet, ih]

theorem sparseGet_erase_other {α : Type} (l : List (Nat × α)) {k k' : Nat} (h : k' ≠ k) :
    sparseGet (sparseErase l k) k' = sparseGet l k' := by
  induction l with
  | nil => rfl
  | cons x t ih =>
    simp only [sparseErase]
    split
    · rename_i heq
      subst heq
      simp [sparseGet, h]
    · simp [sparseGet, ih]

theorem sparseRising_weaken {α : Type} {lo lo' : Nat} {l : List (Nat × α)} (h : sparseRising lo l = true)
    (hle : lo' ≤ lo) : sparseRising lo' l = true := by
  cases l with
  | nil => rfl
  | cons x t =>
    simp only [sparseRising, Bool.and_eq_true, decide_eq_true_eq] at h ⊢
    exact ⟨by omega, h.2⟩

theorem sparseGet_below {α : Type} {l : List (Nat × α)} {lo k : Nat} (h : sparseRising lo l = true) (hk : k < lo) :
    sparseGet l k = none := by
  induction l generalizing lo with
  | nil => rfl
  | cons x t ih =>
    simp only [sparseRising, Bool.and_eq_true, decide_eq_true_eq] at h
    have hne : ¬ k = x.1 := by omega
    simp only [sparseGet, hne, if_false]
    exact ih h.2 (by omega)

theorem sparseGet_erase_same {α : Type} {l : List (Nat × α)} {lo : Nat} (k : Nat) (h : sparseRising lo l = true) :
    sparseGet (sparseErase l k) k = none := by
  induction l generalizing lo with
  | nil => rfl
  | cons x t ih =>
    simp only [sparseRising, Bool.and_eq_true, decide_eq_true_eq] at h
    simp only [sparseErase]
    split
    · exact sparseGet_below h.2 (by omega)
    · rename_i hne
      simp only [sparseGet, hne, if_false]
      exact ih h.2

theorem sparsePut_rising {α : Type} {l : List (Nat × α)} {lo k : Nat} (v : α) (h : sparseRising lo l = true)
    (hk : lo ≤ k) : sparseRising lo (sparsePut l k v) = true := by
  induction l generalizing lo with
  | nil => simp [sparsePut, sparseRising, hk]
  | cons x t ih =>
    simp only [sparseRising, Bool.and_eq_true, decide_eq_true_eq] at h
    simp only [sparsePut]
    split
    · simp only [sparseRising, Bool.and_eq_true, decide_eq_true_eq]
      exact ⟨hk, by omega, h.2⟩
    · split
      · rename_i heq
        subst heq
        simp only [sparseRising, Bool.and_eq_true, decide_eq_true_eq]
        exact h
      · simp only [sparseRising, Bool.and_eq_true, decide_eq_true_eq]
        exact ⟨h.1, ih h.2 (by omega)⟩

theorem sparseErase_rising {α : Type} {l : List (Nat × α)} {lo : Nat} (k : Nat) (h : sparseRising lo l = true) :
    sparseRising lo (sparseErase l k) = true := by
  induction l generalizing lo with
  | nil => rfl
  | cons x t ih =>
    simp only [sparseRising, Bool.and_eq_true, decide_eq_true_eq] at h
    simp only [sparseErase]
    split
    · exact sparseRising_weaken h.2 (by omega)
    · simp only [sparseRising, Bool.and_eq_true, decide_eq_true_eq]
      exact ⟨h.1, ih h.2⟩

theorem mem_sparsePut {α : Type} {l : List (Nat × α)} {k : Nat} {v : α} {x : Nat × α} (h : x ∈ sparsePut l k v) :
    x = (k, v) ∨ x ∈ l := by
  induction l with
  | nil => simp [sparsePut] at h; exact .inl h
  | cons y t ih =>
    simp only [sparsePut] at h
    split at h
    · simpa using h
    · split at h
      · simp only [List.mem_cons] at h ⊢
        exact h.imp_right .inr
      · simp only [List.mem_cons] at h ⊢
        rcases h with h | h
        · exact .inr (.inl h)
        · exact (ih h).imp_right .inr

theorem mem_sparseErase {α : Type} {l : List (Nat × α)} {k : Nat} {x : Nat × α} (h : x ∈ sparseErase l k) : x ∈ l := by
  induction l with
  | nil => exact h
  | cons y t ih =>
    simp only [sparseErase] at h
    split at h
    · exact List.mem_cons_of_mem _ h
    · simp only [List.mem_cons] at h ⊢
      exact h.imp_right ih

/-! Memory. -/

/-- What `Memory.wf` says: the addresses rise, each is 32 bits wide, and no byte is the one an unlisted address reads as. -/
theorem Memory.wf_iff (m : List Host.Cell) :
    Memory.wf m = true ↔ sparseRising 0 m = true ∧ ∀ c ∈ m, c.1 < 2 ^ 32 ∧ c.2 ≠ 0 := by
  simp [Memory.wf]

theorem memPut_wf {m : List Host.Cell} (a : Word) (b : Byte) (h : Memory.wf m = true) :
    Memory.wf (memPut m a b) = true := by
  rw [Memory.wf_iff] at h ⊢
  unfold memPut
  split
  · exact ⟨sparseErase_rising _ h.1, fun c hc => h.2 c (mem_sparseErase hc)⟩
  · rename_i hb
    refine ⟨sparsePut_rising _ h.1 (Nat.zero_le _), fun c hc => ?_⟩
    rcases mem_sparsePut hc with rfl | hc
    · exact ⟨a.isLt, hb⟩
    · exact h.2 c hc

theorem memGet_put_same {m : List Host.Cell} (a : Word) (b : Byte) (h : Memory.wf m = true) :
    memGet (memPut m a b) a = b := by
  rw [Memory.wf_iff] at h
  unfold memGet memPut
  split
  · rename_i hb
    simp [sparseGet_erase_same _ h.1, hb]
  · simp

theorem memGet_put_other (m : List Host.Cell) {a a' : Word} (b : Byte) (h : a' ≠ a) :
    memGet (memPut m a b) a' = memGet m a' := by
  have hn : a'.toNat ≠ a.toNat := fun e => h (BitVec.eq_of_toNat_eq e)
  unfold memGet memPut
  split
  · rw [sparseGet_erase_other _ hn]
  · rw [sparseGet_put_other _ _ hn]

/-! The operations over memory. -/

theorem State.putByte_wf {s : State} (pa : Word) (b : Byte) (h : Memory.wf s.mem = true) :
    Memory.wf (s.putByte pa b).mem = true := memPut_wf pa b h

theorem State.putBytes_wf {s : State} (pa v : Word) (n : Nat) (h : Memory.wf s.mem = true) :
    Memory.wf (s.putBytes pa v n).mem = true := by
  induction n with
  | zero => exact h
  | succ n ih => exact memPut_wf _ _ ih

theorem State.writeBlock_wf {s : State} (keep : Bool) (e : WriteEntry) (n : Nat) (h : Memory.wf s.mem = true) :
    Memory.wf (s.writeBlock keep e n).mem = true := by
  induction n with
  | zero => exact h
  | succ n ih =>
    simp only [State.writeBlock]
    split
    · exact memPut_wf _ _ ih
    · exact ih

@[simp] theorem State.pendImprecise_mem (s : State) (parity : Bool) (bound : Option Nat) :
    (s.pendImprecise parity bound).mem = s.mem := rfl

@[simp] theorem State.noteDevice_mem (s : State) (op : DeviceOp) : (s.noteDevice op).mem = s.mem := rfl

/-- A read of the bus changes the calls into devices and the count of free values only. -/
theorem State.busRead_after (s : State) (k : BusKind) (look : Word → Byte) (pa : Word) (n : Nat) :
    (s.busRead k look pa n).after =
      { s with deviceOps := (s.busRead k look pa n).after.deviceOps, freeCtr := (s.busRead k look pa n).after.freeCtr } := by
  unfold State.busRead
  split
  · rfl
  · dsimp only; split <;> rfl

@[simp] theorem State.busRead_mem (s : State) (k : BusKind) (look : Word → Byte) (pa : Word) (n : Nat) :
    (s.busRead k look pa n).after.mem = s.mem := by rw [s.busRead_after]

/-- Old code is noted beside the memory. -/
theorem State.noteOld_eq (s old : State) (pa : Word) :
    s.noteOld old pa = { s with stale := { s.stale with words := (s.noteOld old pa).stale.words } } := by
  unfold State.noteOld; split <;> rfl

@[simp] theorem State.noteOld_mem (s old : State) (pa : Word) : (s.noteOld old pa).mem = s.mem := by rw [s.noteOld_eq]

@[simp] theorem State.noteOldBlock_mem (s old : State) (b : BitVec 28) : (s.noteOldBlock old b).mem = s.mem := by
  simp [State.noteOldBlock]

theorem State.storeBytes_wf {s : State} (pa v : Word) (n : Nat) (h : Memory.wf s.mem = true) :
    Memory.wf (s.storeBytes pa v n).mem = true := by
  simpa [State.storeBytes] using State.putBytes_wf pa v n h

theorem State.foreignWrite_wf {s : State} (pa : Word) (b : Byte) (h : Memory.wf s.mem = true) :
    Memory.wf (s.foreignWrite pa b).mem = true := by
  unfold State.foreignWrite
  split
  · exact State.storeBytes_wf pa _ 1 h
  · exact h

theorem State.foreignWrites_wf {s : State} (l : List (Word × Byte)) (h : Memory.wf s.mem = true) :
    Memory.wf (s.foreignWrites l).mem = true := by
  induction l generalizing s with
  | nil => exact h
  | cons x t ih => exact ih (State.foreignWrite_wf x.1 x.2 h)

theorem State.busGap_wf {s : State} (h : Memory.wf s.mem = true) : Memory.wf s.busGap.mem = true := by
  unfold State.busGap
  split
  · exact h
  · exact State.foreignWrites_wf _ h

theorem State.busRest_wf {s : State} (h : Memory.wf s.mem = true) : Memory.wf s.busRest.mem = true := by
  unfold State.busRest
  split
  · exact h
  · exact State.foreignWrites_wf _ h

theorem State.deliver_wf {s : State} (bound : Option Nat) (e : WriteEntry) (h : Memory.wf s.mem = true) :
    Memory.wf (s.deliver bound e).mem = true := by
  have hb := State.writeBlock_wf (bitAt (s.free 0) 0) e 16 h
  simp only [State.deliver]
  split <;> split <;> simpa [State.consume] using hb

theorem State.storeNow_wf {s : State} (pa v : Word) (n : Nat) (h : Memory.wf s.mem = true) :
    Memory.wf (s.storeNow pa v n).mem = true := by
  unfold State.storeNow
  split
  · exact State.storeBytes_wf pa v n h
  · exact State.deliver_wf _ _ h

theorem State.deliverAll_wf {s : State} (l : List WriteEntry) (h : Memory.wf s.mem = true) :
    Memory.wf (s.deliverAll l).mem = true := by
  induction l generalizing s with
  | nil => exact h
  | cons e t ih => exact ih (State.deliver_wf none e h)

theorem State.drainWrites_wf {s : State} (h : Memory.wf s.mem = true) : Memory.wf s.drainWrites.mem = true :=
  State.deliverAll_wf s.writeBuf h

theorem State.retireWrite_wf {s : State} (i : Nat) (h : Memory.wf s.mem = true) :
    Memory.wf (s.retireWrite i).mem = true := by
  simp only [State.retireWrite]
  split
  · exact h
  · split
    · exact State.deliver_wf none _ h
    · exact h

theorem State.writesBeforeRead_wf {s : State} (h : Memory.wf s.mem = true) :
    Memory.wf s.writesBeforeRead.mem = true := by
  unfold State.writesBeforeRead
  split
  · exact State.drainWrites_wf h
  · exact h

theorem State.makeRoom_wf {s : State} (h : Memory.wf s.mem = true) : Memory.wf s.makeRoom.mem = true := by
  simp only [State.makeRoom]
  split
  · exact State.retireWrite_wf 0 h
  · exact h

theorem State.appendWrite_wf {s : State} (e : WriteEntry) (h : Memory.wf s.mem = true) :
    Memory.wf (s.appendWrite e).mem = true := State.makeRoom_wf h

theorem State.bufferStore_wf {s : State} (pa v : Word) (n : Nat) (coalesces : Bool) (h : Memory.wf s.mem = true) :
    Memory.wf (s.bufferStore pa v n coalesces).mem = true := by
  simp only [State.bufferStore]
  split
  · exact h
  · exact State.appendWrite_wf _ h

/-- A byte outside the `n` bytes that are written reads as before. -/
theorem State.putBytes_other (s : State) (pa v : Word) (n : Nat) {a : Word} (h : ∀ i < n, a ≠ pa + BitVec.ofNat 32 i) :
    (s.putBytes pa v n).memByte a = s.memByte a := by
  induction n with
  | zero => rfl
  | succ n ih =>
    have h1 := memGet_put_other (s.putBytes pa v n).mem (byteOf v n) (h n (Nat.lt_succ_self n))
    exact h1.trans (ih (fun i hi => h i (Nat.lt_succ_of_lt hi)))

/-- Each of the `n` bytes that are written, up to four, reads as the value's byte. -/
theorem State.putBytes_same {s : State} (pa v : Word) {n i : Nat} (hn : n ≤ 4) (hi : i < n)
    (h : Memory.wf s.mem = true) : (s.putBytes pa v n).memByte (pa + BitVec.ofNat 32 i) = byteOf v i := by
  induction n with
  | zero => omega
  | succ n ih =>
    by_cases hin : i = n
    · subst hin
      exact memGet_put_same _ _ (State.putBytes_wf pa v i h)
    · have hne : pa + BitVec.ofNat 32 i ≠ pa + BitVec.ofNat 32 n := by
        intro e
        have e' := congrArg BitVec.toNat (BitVec.add_right_inj pa |>.mp e)
        simp only [BitVec.toNat_ofNat] at e'
        omega
      exact (memGet_put_other _ _ hne).trans (ih (by omega) (by omega))

theorem State.reset_mem_wf : Memory.wf State.reset.mem = true := rfl

end Sys2Proof.Machine
end

