-- ==== Sys2Proof/Laws/Access.lean ====
section
/-! SUPPORT. Every access of the data side, and every operation on its caches and buffers, keeps the canonical form of
memory. -/

namespace Sys2Proof.Machine

/-! Operations that leave memory alone. -/

@[simp] theorem State.countN_mem (s : State) (e : Event) (n : Nat) : (s.countN e n).mem = s.mem := rfl

@[simp] theorem State.setDlines_mem (s : State) (mini : Bool) (l : List (Nat × DLine)) :
    (s.setDlines mini l).mem = s.mem := by
  unfold State.setDlines; split <;> rfl

@[simp] theorem State.putDline_mem (s : State) (h : Hit) (d : DLine) : (s.putDline h d).mem = s.mem := by
  simp [State.putDline]

@[simp] theorem State.setTlb_mem (s : State) (side : Side) (t : Tlb) : (s.setTlb side t).mem = s.mem := by
  cases side <;> rfl

@[simp] theorem State.countTlbMiss_mem (s : State) (side : Side) : (s.countTlbMiss side).mem = s.mem := by
  cases side <;> rfl

@[simp] theorem State.noteAccess_mem (s : State) (w : Width) (mva : Word) (store : Bool) :
    (s.noteAccess w mva store).mem = s.mem := by
  unfold State.noteAccess State.noteMatch; split <;> rfl

theorem State.readDescriptor_mem (s : State) (pa : Word) : (s.readDescriptor pa).2.mem = s.mem := by
  simp [State.readDescriptor]

/-- The state in which a translation ends. -/
def Translation.after? : Translation → Option State
  | .ok _ s => some s
  | .fault _ s => some s
  | .stop _ => none

theorem State.secondLevel_mem {s s' : State} {fine : Bool} {mva d : Word} {domain : BitVec 4}
    (h : (s.secondLevel fine mva d domain).after? = some s') : s'.mem = s.mem := by
  unfold State.secondLevel at h
  split at h <;> (cases h; rfl)

theorem State.walkSecond_mem {s s' : State} {fine : Bool} {mva a : Word} {domain : BitVec 4}
    (h : (s.walkSecond fine mva a domain).after? = some s') : s'.mem = s.mem := by
  have k := s.readDescriptor_mem a
  unfold State.walkSecond at h
  split at h
  · rename_i e; cases h; rw [e] at k; exact k
  · rename_i e; rw [e] at k; exact (State.secondLevel_mem h).trans k

/-- A table walk leaves memory alone. -/
theorem State.walk_mem {s s' : State} {mva : Word} (h : (s.walk mva).after? = some s') : s'.mem = s.mem := by
  have k := s.readDescriptor_mem (field s.cp15.ttbr 14 18 ++ field mva 20 12 ++ 0#2 : BitVec 32)
  unfold State.walk at h
  split at h
  · rename_i e; cases h; rw [e] at k; exact k
  · rename_i d s1 e
    rw [e] at k
    refine Eq.trans ?_ k
    unfold State.firstLevel at h
    dsimp only at h
    split at h
    · cases h; rfl
    · exact State.walkSecond_mem h
    · cases h; rfl
    · exact State.walkSecond_mem h

/-- A translation leaves memory alone. -/
theorem State.translate_mem {s s' : State} {side : Side} {mva : Word}
    (h : (s.translate side mva).after? = some s') : s'.mem = s.mem := by
  unfold State.translate at h
  split at h
  · cases h; rfl
  · split at h
    · rename_i e s1 hs
      have k : s1.mem = (s.countTlbMiss side).mem := State.walk_mem (by rw [hs]; rfl)
      cases h
      simpa using k
    · rename_i c s1 hs
      have k : s1.mem = (s.countTlbMiss side).mem := State.walk_mem (by rw [hs]; rfl)
      cases h
      simpa using k
    · cases h

/-- A translation with its checks leaves memory alone. -/
theorem State.translateChecked_mem {s s' : State} {side : Side} {mva : Word} {privileged write : Bool}
    (h : (s.translateChecked side mva privileged write).after? = some s') : s'.mem = s.mem := by
  unfold State.translateChecked at h
  split at h
  · cases h
  · rename_i e; cases h; exact State.translate_mem (by rw [e]; rfl)
  · rename_i e
    have k := State.translate_mem (s := s) (side := side) (mva := mva) (by rw [e]; rfl)
    split at h <;> cases h <;> exact k

/-! Fetching ahead. -/

/-- The line of a fetch ahead leaves memory alone. -/
theorem State.bringLine_mem (s : State) (mva pa : Word) (cacheable : Bool) : (s.bringLine mva pa cacheable).mem = s.mem := by
  have k : ∀ b, (((s.count .icacheMiss).busRead .fetch b (lineOf pa ++ 0#5) 32).after).mem = s.mem := fun b => by simp
  unfold State.bringLine State.fetchMiss
  dsimp only
  split
  · rfl
  · split <;> rename_i h <;> split at h <;> cases h <;> split <;> exact k _

/-- Fetching ahead changes no byte of memory (20_memory.md R188). -/
theorem State.fetchAhead_mem (s : State) (va : Word) : (s.fetchAhead va).mem = s.mem := by
  unfold State.fetchAhead
  dsimp only
  split
  · rfl
  · split
    · split
      · rfl
      · rename_i e; exact State.translateChecked_mem (by rw [e]; rfl)
      · rename_i e; exact (State.bringLine_mem _ _ _ _).trans (State.translateChecked_mem (by rw [e]; rfl))
    · exact State.bringLine_mem _ _ _ _

/-! Data breakpoints. -/

/-- What selects a store selects a swap and nothing else does: as a load a swap could hit, beside, a breakpoint on loads only,
which it does not (61_debug_and_jtag.md R777; log entry 73). -/
theorem bkptSwap_eq (e : BitVec 2) : bkptSwap e = bkptType e true := by revert e; decide

/-- The comparison of a swap hits what that of a store hits. -/
theorem State.noteSwap_eq (s : State) (w : Width) (mva : Word) : s.noteSwap w mva = s.noteAccess w mva true := by
  rw [State.noteSwap, State.noteAccess, funext bkptSwap_eq]

/-- A swap is prepared as a store is (R530, R777). -/
theorem State.prepareSwap_eq (s : State) (va : Word) (w : Width) (p : Bool) : s.prepareSwap va w p = s.prepare va w p true := by
  rw [State.prepareSwap, State.noteSwap_eq, State.prepare]

/-! Write-backs and allocation. -/

theorem State.writeBackHalf_wf {s : State} (d : DLine) (high : Bool) (hw : Memory.wf s.mem = true) :
    Memory.wf (s.writeBackHalf d high).mem = true := State.appendWrite_wf (s := s.count .dcacheWriteBack) _ hw

theorem State.writeBackHalves_wf {s : State} (d : DLine) (hw : Memory.wf s.mem = true) :
    Memory.wf (s.writeBackHalves d).mem = true := by
  simp only [State.writeBackHalves]
  generalize hs1 : (if d.dirtyLow = true then s.writeBackHalf d false else s) = s1
  have hw1 : Memory.wf s1.mem = true := by
    subst hs1; split
    · exact State.writeBackHalf_wf d false hw
    · exact hw
  split
  · exact State.writeBackHalf_wf d true hw1
  · exact hw1

theorem State.writeBackLine_wf {s : State} (detects : Bool) (d : DLine) (hw : Memory.wf s.mem = true) :
    Memory.wf (s.writeBackLine detects d).mem = true := by
  unfold State.writeBackLine
  split
  · exact State.writeBackHalves_wf (s := s.pendImprecise true none) d hw
  · exact State.writeBackHalves_wf d hw

theorem State.evict_wf {s : State} (detects mini : Bool) (key : Nat) (hw : Memory.wf s.mem = true) :
    Memory.wf (s.evict detects mini key).mem = true := by
  unfold State.evict
  split
  · split
    · exact State.writeBackLine_wf _ _ hw
    · exact hw
  · exact hw

theorem State.allocLine_wf {s : State} (mini : Bool) (l pl : BitVec 27) (data : LineData) (hw : Memory.wf s.mem = true) :
    Memory.wf (s.allocLine mini l pl data).mem = true := by
  unfold State.allocLine
  split
  · exact State.evict_wf true true _ hw
  · exact State.evict_wf true false _ hw

/-! Stores. -/

theorem State.storeMemory_wf {s : State} (t : Target) (big : Bool) (w : Width) (v : Word) (hw : Memory.wf s.mem = true) :
    Memory.wf (s.storeMemory t big w v).mem = true := by
  unfold State.storeMemory
  split
  · exact State.storeNow_wf _ _ _ hw
  · exact State.bufferStore_wf _ _ _ _ hw

theorem State.storeHit_wf {s : State} (k : Hit) (t : Target) (big : Bool) (w : Width) (v : Word)
    (hw : Memory.wf s.mem = true) : Memory.wf (s.storeHit k t big w v).mem = true := by
  simp only [State.storeHit]
  split
  · simpa using hw
  · exact State.storeMemory_wf t big w v (by simpa using hw)

/-! Outstanding requests. -/

theorem State.retry_wf {s : State} (p : PendEntry) (hw : Memory.wf s.mem = true) :
    Memory.wf (s.retry p).mem = true := by
  unfold State.retry
  split
  · exact hw
  · split
    · exact State.storeHit_wf _ _ _ _ _ hw
    · exact State.storeMemory_wf _ _ _ _ hw

theorem State.releasePended_wf {s : State} (l : List PendEntry) (hw : Memory.wf s.mem = true) :
    Memory.wf (s.releasePended l).mem = true := by
  induction l generalizing s with
  | nil => exact hw
  | cons p t ih =>
    unfold State.releasePended
    split
    · exact hw
    · exact ih (State.retry_wf p hw)

theorem State.finishFill_wf {s : State} (f : FillEntry) (hw : Memory.wf s.mem = true) :
    Memory.wf (s.finishFill f).mem = true := by
  unfold State.finishFill
  split
  · exact hw
  · split
    · exact State.allocLine_wf _ _ _ _ hw
    · exact hw

theorem State.completeFill_wf {s : State} (f : FillEntry) (hw : Memory.wf s.mem = true) :
    Memory.wf (s.completeFill f).mem = true :=
  State.releasePended_wf _ (State.finishFill_wf (s := { s with fillBuf := s.fillBuf.erase f }) f hw)

theorem State.completeFills_wf {s : State} (l : List FillEntry) (hw : Memory.wf s.mem = true) :
    Memory.wf (s.completeFills l).mem = true := by
  induction l generalizing s with
  | nil => exact hw
  | cons f t ih => exact ih (State.completeFill_wf f hw)

theorem State.settleFills_wf {s : State} (hw : Memory.wf s.mem = true) : Memory.wf s.settleFills.mem = true :=
  State.completeFills_wf _ hw

theorem State.drainAll_wf {s : State} (hw : Memory.wf s.mem = true) : Memory.wf s.drainAll.mem = true :=
  State.drainWrites_wf (State.settleFills_wf hw)

theorem State.beforeRequest_wf {s : State} (hw : Memory.wf s.mem = true) : Memory.wf s.beforeRequest.mem = true := by
  unfold State.beforeRequest
  split
  · exact State.writesBeforeRead_wf (State.completeFills_wf _ hw)
  · exact State.writesBeforeRead_wf hw

theorem State.requestFill_wf {s : State} (t : Target) (hw : Memory.wf s.mem = true) :
    Memory.wf (s.requestFill t).2.mem = true := by
  simpa [State.requestFill, State.addFill] using State.beforeRequest_wf hw

theorem State.pend_wf {s : State} (p : PendEntry) (hw : Memory.wf s.mem = true) : Memory.wf (s.pend p).mem = true := by
  unfold State.pend
  split
  · exact hw
  · exact State.retry_wf p (State.settleFills_wf hw)

theorem State.settleLine_wf {s : State} (l : BitVec 27) (hw : Memory.wf s.mem = true) :
    Memory.wf (s.settleLine l).mem = true := by
  unfold State.settleLine
  split
  · exact State.settleFills_wf hw
  · exact hw

theorem State.fence_wf {s : State} (t : Target) (write : Bool) (hw : Memory.wf s.mem = true) :
    Memory.wf (s.fence t write).mem = true := by
  unfold State.fence
  split
  · exact State.drainAll_wf hw
  · split
    · exact State.settleFills_wf hw
    · exact hw

/-! The accesses. -/

@[simp] theorem State.loadHit_mem (s : State) (h : Hit) (t : Target) (w : Width) : (s.loadHit h t w).2.mem = s.mem := by
  simp only [State.loadHit]; split <;> rfl

@[simp] theorem State.readNow_mem (s : State) (t : Target) (w : Width) : (s.readNow t w).2.2.mem = s.mem := by
  simp [State.readNow]

theorem State.loadMemory_wf {s : State} (t : Target) (w : Width) (hw : Memory.wf s.mem = true) :
    Memory.wf (s.loadMemory t w).2.mem = true := by
  simp only [State.loadMemory]
  split
  · split
    · simpa using hw
    · simpa using hw
  · simpa [State.addFill] using State.beforeRequest_wf hw

theorem State.loadMiss_wf {s s' : State} {t : Target} {w : Width} {v : Word} (hw : Memory.wf s.mem = true)
    (h : s.loadMiss t w = .ok (v, s')) : Memory.wf s'.mem = true := by
  unfold State.loadMiss at h
  split at h
  · split at h
    · cases h
    · cases h; exact State.requestFill_wf t hw
  · have e : s' = (s.loadMemory t w).2 := by injection h with h; rw [h]
    rw [e]; exact State.loadMemory_wf t w hw

theorem State.loadLookup_wf {s s' : State} {t : Target} {w : Width} {v : Word} (hw : Memory.wf s.mem = true)
    (h : s.loadLookup t w = .ok (v, s')) : Memory.wf s'.mem = true := by
  unfold State.loadLookup at h
  split at h
  · rename_i k _
    split at h
    · cases h
    · have e : s' = (s.loadHit k t w).2 := by injection h with h; rw [h]
      rw [e, State.loadHit_mem]; exact hw
  · exact State.loadMiss_wf (s := s.count .dcacheMiss) hw h

theorem State.loadAt_wf {s s' : State} {t : Target} {w : Width} {v : Word} (hw : Memory.wf s.mem = true)
    (h : s.loadAt t w = .ok (v, s')) : Memory.wf s'.mem = true := by
  have hf : Memory.wf ((s.count .dcacheAccess).fence t false).mem = true := State.fence_wf t false hw
  unfold State.loadAt at h
  split at h
  · cases h
  · dsimp only at h
    split at h
    · cases h
      exact State.pend_wf _ hf
    · exact State.loadLookup_wf (State.settleLine_wf _ hf) h

theorem State.storeMiss_wf {s s' : State} {t : Target} {w : Width} {v : Word} (hw : Memory.wf s.mem = true)
    (h : s.storeMiss t w v = .ok s') : Memory.wf s'.mem = true := by
  unfold State.storeMiss at h
  split at h
  · split at h
    · cases h
    · cases h; exact State.pend_wf _ (State.requestFill_wf t hw)
  · cases h; exact State.storeMemory_wf t _ w v hw

theorem State.storeLookup_wf {s s' : State} {t : Target} {w : Width} {v : Word} (hw : Memory.wf s.mem = true)
    (h : s.storeLookup t w v = .ok s') : Memory.wf s'.mem = true := by
  unfold State.storeLookup at h
  split at h
  · cases h; exact State.storeHit_wf _ t _ w v hw
  · exact State.storeMiss_wf (s := s.count .dcacheMiss) hw h

theorem State.storeAt_wf {s s' : State} {t : Target} {w : Width} {v : Word} (hw : Memory.wf s.mem = true)
    (h : s.storeAt t w v = .ok s') : Memory.wf s'.mem = true := by
  have hf : Memory.wf (((s.noteStore t w).count .dcacheAccess).fence t true).mem = true :=
    State.fence_wf (s := (s.noteStore t w).count .dcacheAccess) t true hw
  unfold State.storeAt at h
  split at h
  · cases h
  · dsimp only at h
    split at h
    · cases h; exact State.pend_wf _ hf
    · exact State.storeLookup_wf (State.settleLine_wf _ hf) h

/-! Maintenance. -/

theorem State.startFill_wf {s : State} (t : Target) (hw : Memory.wf s.mem = true) :
    Memory.wf (s.startFill t).mem = true := State.requestFill_wf t (State.fence_wf t false hw)

theorem State.cleanDcacheLine_wf {s : State} (l : BitVec 27) (hw : Memory.wf s.mem = true) :
    Memory.wf (s.cleanDcacheLine l).mem = true := by
  unfold State.cleanDcacheLine
  split
  · exact hw
  · simpa using State.writeBackLine_wf _ _ hw

theorem State.drainCommand_wf {s : State} (hw : Memory.wf s.mem = true) : Memory.wf s.drainCommand.mem = true :=
  State.drainAll_wf hw

theorem State.allocateCommand_wf {s s' : State} {mva pa : Word} (hw : Memory.wf s.mem = true)
    (h : s.allocateCommand mva pa = .ok s') : Memory.wf s'.mem = true := by
  have hd := State.drainAll_wf hw
  unfold State.allocateCommand at h
  dsimp only at h
  split at h
  · split at h <;> cases h
    exact hd
  · cases h
    exact State.evict_wf (s := s.drainAll.consume 8) false false _ hd

@[simp] theorem State.invalidateDcache_mem (s : State) : s.invalidateDcache.mem = s.mem := by
  simp [State.invalidateDcache]

@[simp] theorem State.invalidateDcacheLine_mem (s : State) (l : BitVec 27) :
    (s.invalidateDcacheLine l).mem = s.mem := by
  simp [State.invalidateDcacheLine]

@[simp] theorem State.unlockDcache_mem (s : State) : s.unlockDcache.mem = s.mem := rfl

end Sys2Proof.Machine
end

