-- ==== Sys2Proof/Laws/Trace.lean ====
section
/-! SUPPORT. What the trace buffer's operations leave unchanged (61_debug_and_jtag.md R800-R806). -/

namespace Sys2Proof.Machine

/-! `recordByte` and `recordMessage` -/

@[simp] theorem State.recordByte_core (s : State) (b : Byte) : (s.recordByte b).core = s.core := rfl
@[simp] theorem State.recordByte_cp15 (s : State) (b : Byte) : (s.recordByte b).cp15 = s.cp15 := rfl
@[simp] theorem State.recordByte_cp14 (s : State) (b : Byte) : (s.recordByte b).cp14 = s.cp14 := rfl
@[simp] theorem State.recordByte_itlb (s : State) (b : Byte) : (s.recordByte b).itlb = s.itlb := rfl
@[simp] theorem State.recordByte_dtlb (s : State) (b : Byte) : (s.recordByte b).dtlb = s.dtlb := rfl
@[simp] theorem State.recordByte_icache (s : State) (b : Byte) : (s.recordByte b).icache = s.icache := rfl
@[simp] theorem State.recordByte_miniICache (s : State) (b : Byte) : (s.recordByte b).miniICache = s.miniICache := rfl
@[simp] theorem State.recordByte_fetchBufs (s : State) (b : Byte) : (s.recordByte b).fetchBufs = s.fetchBufs := rfl
@[simp] theorem State.recordByte_btb (s : State) (b : Byte) : (s.recordByte b).btb = s.btb := rfl
@[simp] theorem State.recordByte_dcache (s : State) (b : Byte) : (s.recordByte b).dcache = s.dcache := rfl
@[simp] theorem State.recordByte_miniDCache (s : State) (b : Byte) : (s.recordByte b).miniDCache = s.miniDCache := rfl
@[simp] theorem State.recordByte_writeBuf (s : State) (b : Byte) : (s.recordByte b).writeBuf = s.writeBuf := rfl
@[simp] theorem State.recordByte_fillBuf (s : State) (b : Byte) : (s.recordByte b).fillBuf = s.fillBuf := rfl
@[simp] theorem State.recordByte_pendBuf (s : State) (b : Byte) : (s.recordByte b).pendBuf = s.pendBuf := rfl
@[simp] theorem State.recordByte_mem (s : State) (b : Byte) : (s.recordByte b).mem = s.mem := rfl
@[simp] theorem State.recordByte_platform (s : State) (b : Byte) : (s.recordByte b).platform = s.platform := rfl
@[simp] theorem State.recordByte_extAborts (s : State) (b : Byte) : (s.recordByte b).extAborts = s.extAborts := rfl
@[simp] theorem State.recordByte_deviceOps (s : State) (b : Byte) : (s.recordByte b).deviceOps = s.deviceOps := rfl
@[simp] theorem State.recordByte_sds (s : State) (b : Byte) : (s.recordByte b).sds = s.sds := rfl
@[simp] theorem State.recordByte_power (s : State) (b : Byte) : (s.recordByte b).power = s.power := rfl
@[simp] theorem State.recordByte_jtag (s : State) (b : Byte) : (s.recordByte b).jtag = s.jtag := rfl
@[simp] theorem State.recordByte_freeCtr (s : State) (b : Byte) : (s.recordByte b).freeCtr = s.freeCtr := rfl
@[simp] theorem State.recordByte_inputs (s : State) (b : Byte) : (s.recordByte b).inputs = s.inputs := rfl
@[simp] theorem State.recordByte_sdsShadow (s : State) (b : Byte) : (s.recordByte b).sdsShadow = s.sdsShadow := rfl
@[simp] theorem State.recordByte_stale (s : State) (b : Byte) : (s.recordByte b).stale = s.stale := rfl
@[simp] theorem State.recordByte_midBus (s : State) (b : Byte) : (s.recordByte b).midBus = s.midBus := rfl
@[simp] theorem State.recordByte_storing (s : State) (b : Byte) : (s.recordByte b).storing = s.storing := rfl

@[simp] theorem State.recordMessage_core (s : State) (b : Byte) : (s.recordMessage b).core = s.core := rfl
@[simp] theorem State.recordMessage_cp15 (s : State) (b : Byte) : (s.recordMessage b).cp15 = s.cp15 := rfl
@[simp] theorem State.recordMessage_cp14 (s : State) (b : Byte) : (s.recordMessage b).cp14 = s.cp14 := rfl
@[simp] theorem State.recordMessage_itlb (s : State) (b : Byte) : (s.recordMessage b).itlb = s.itlb := rfl
@[simp] theorem State.recordMessage_dtlb (s : State) (b : Byte) : (s.recordMessage b).dtlb = s.dtlb := rfl
@[simp] theorem State.recordMessage_icache (s : State) (b : Byte) : (s.recordMessage b).icache = s.icache := rfl
@[simp] theorem State.recordMessage_miniICache (s : State) (b : Byte) : (s.recordMessage b).miniICache = s.miniICache := rfl
@[simp] theorem State.recordMessage_fetchBufs (s : State) (b : Byte) : (s.recordMessage b).fetchBufs = s.fetchBufs := rfl
@[simp] theorem State.recordMessage_btb (s : State) (b : Byte) : (s.recordMessage b).btb = s.btb := rfl
@[simp] theorem State.recordMessage_dcache (s : State) (b : Byte) : (s.recordMessage b).dcache = s.dcache := rfl
@[simp] theorem State.recordMessage_miniDCache (s : State) (b : Byte) : (s.recordMessage b).miniDCache = s.miniDCache := rfl
@[simp] theorem State.recordMessage_writeBuf (s : State) (b : Byte) : (s.recordMessage b).writeBuf = s.writeBuf := rfl
@[simp] theorem State.recordMessage_fillBuf (s : State) (b : Byte) : (s.recordMessage b).fillBuf = s.fillBuf := rfl
@[simp] theorem State.recordMessage_pendBuf (s : State) (b : Byte) : (s.recordMessage b).pendBuf = s.pendBuf := rfl
@[simp] theorem State.recordMessage_mem (s : State) (b : Byte) : (s.recordMessage b).mem = s.mem := rfl
@[simp] theorem State.recordMessage_platform (s : State) (b : Byte) : (s.recordMessage b).platform = s.platform := rfl
@[simp] theorem State.recordMessage_extAborts (s : State) (b : Byte) : (s.recordMessage b).extAborts = s.extAborts := rfl
@[simp] theorem State.recordMessage_deviceOps (s : State) (b : Byte) : (s.recordMessage b).deviceOps = s.deviceOps := rfl
@[simp] theorem State.recordMessage_sds (s : State) (b : Byte) : (s.recordMessage b).sds = s.sds := rfl
@[simp] theorem State.recordMessage_power (s : State) (b : Byte) : (s.recordMessage b).power = s.power := rfl
@[simp] theorem State.recordMessage_jtag (s : State) (b : Byte) : (s.recordMessage b).jtag = s.jtag := rfl
@[simp] theorem State.recordMessage_freeCtr (s : State) (b : Byte) : (s.recordMessage b).freeCtr = s.freeCtr := rfl
@[simp] theorem State.recordMessage_inputs (s : State) (b : Byte) : (s.recordMessage b).inputs = s.inputs := rfl
@[simp] theorem State.recordMessage_sdsShadow (s : State) (b : Byte) : (s.recordMessage b).sdsShadow = s.sdsShadow := rfl
@[simp] theorem State.recordMessage_stale (s : State) (b : Byte) : (s.recordMessage b).stale = s.stale := rfl
@[simp] theorem State.recordMessage_midBus (s : State) (b : Byte) : (s.recordMessage b).midBus = s.midBus := rfl
@[simp] theorem State.recordMessage_storing (s : State) (b : Byte) : (s.recordMessage b).storing = s.storing := rfl

/-! `traceInstr`: only the trace buffer and its break change (R803). -/

@[simp] theorem State.traceInstr_core (s : State) : (s.traceInstr).core = s.core := by
  unfold State.traceInstr; repeat' split
  all_goals rfl
@[simp] theorem State.traceInstr_cp15 (s : State) : (s.traceInstr).cp15 = s.cp15 := by
  unfold State.traceInstr; repeat' split
  all_goals rfl
@[simp] theorem State.traceInstr_cp14 (s : State) : (s.traceInstr).cp14 = s.cp14 := by
  unfold State.traceInstr; repeat' split
  all_goals rfl
@[simp] theorem State.traceInstr_itlb (s : State) : (s.traceInstr).itlb = s.itlb := by
  unfold State.traceInstr; repeat' split
  all_goals rfl
@[simp] theorem State.traceInstr_dtlb (s : State) : (s.traceInstr).dtlb = s.dtlb := by
  unfold State.traceInstr; repeat' split
  all_goals rfl
@[simp] theorem State.traceInstr_icache (s : State) : (s.traceInstr).icache = s.icache := by
  unfold State.traceInstr; repeat' split
  all_goals rfl
@[simp] theorem State.traceInstr_miniICache (s : State) : (s.traceInstr).miniICache = s.miniICache := by
  unfold State.traceInstr; repeat' split
  all_goals rfl
@[simp] theorem State.traceInstr_fetchBufs (s : State) : (s.traceInstr).fetchBufs = s.fetchBufs := by
  unfold State.traceInstr; repeat' split
  all_goals rfl
@[simp] theorem State.traceInstr_btb (s : State) : (s.traceInstr).btb = s.btb := by
  unfold State.traceInstr; repeat' split
  all_goals rfl
@[simp] theorem State.traceInstr_dcache (s : State) : (s.traceInstr).dcache = s.dcache := by
  unfold State.traceInstr; repeat' split
  all_goals rfl
@[simp] theorem State.traceInstr_miniDCache (s : State) : (s.traceInstr).miniDCache = s.miniDCache := by
  unfold State.traceInstr; repeat' split
  all_goals rfl
@[simp] theorem State.traceInstr_writeBuf (s : State) : (s.traceInstr).writeBuf = s.writeBuf := by
  unfold State.traceInstr; repeat' split
  all_goals rfl
@[simp] theorem State.traceInstr_fillBuf (s : State) : (s.traceInstr).fillBuf = s.fillBuf := by
  unfold State.traceInstr; repeat' split
  all_goals rfl
@[simp] theorem State.traceInstr_pendBuf (s : State) : (s.traceInstr).pendBuf = s.pendBuf := by
  unfold State.traceInstr; repeat' split
  all_goals rfl
@[simp] theorem State.traceInstr_mem (s : State) : (s.traceInstr).mem = s.mem := by
  unfold State.traceInstr; repeat' split
  all_goals rfl
@[simp] theorem State.traceInstr_platform (s : State) : (s.traceInstr).platform = s.platform := by
  unfold State.traceInstr; repeat' split
  all_goals rfl
@[simp] theorem State.traceInstr_extAborts (s : State) : (s.traceInstr).extAborts = s.extAborts := by
  unfold State.traceInstr; repeat' split
  all_goals rfl
@[simp] theorem State.traceInstr_deviceOps (s : State) : (s.traceInstr).deviceOps = s.deviceOps := by
  unfold State.traceInstr; repeat' split
  all_goals rfl
@[simp] theorem State.traceInstr_sds (s : State) : (s.traceInstr).sds = s.sds := by
  unfold State.traceInstr; repeat' split
  all_goals rfl
@[simp] theorem State.traceInstr_power (s : State) : (s.traceInstr).power = s.power := by
  unfold State.traceInstr; repeat' split
  all_goals rfl
@[simp] theorem State.traceInstr_jtag (s : State) : (s.traceInstr).jtag = s.jtag := by
  unfold State.traceInstr; repeat' split
  all_goals rfl
@[simp] theorem State.traceInstr_freeCtr (s : State) : (s.traceInstr).freeCtr = s.freeCtr := by
  unfold State.traceInstr; repeat' split
  all_goals rfl
@[simp] theorem State.traceInstr_inputs (s : State) : (s.traceInstr).inputs = s.inputs := by
  unfold State.traceInstr; repeat' split
  all_goals rfl
@[simp] theorem State.traceInstr_sdsShadow (s : State) : (s.traceInstr).sdsShadow = s.sdsShadow := by
  unfold State.traceInstr; repeat' split
  all_goals rfl
@[simp] theorem State.traceInstr_stale (s : State) : (s.traceInstr).stale = s.stale := by
  unfold State.traceInstr; repeat' split
  all_goals rfl
@[simp] theorem State.traceInstr_midBus (s : State) : (s.traceInstr).midBus = s.midBus := by
  unfold State.traceInstr; repeat' split
  all_goals rfl
@[simp] theorem State.traceInstr_storing (s : State) : (s.traceInstr).storing = s.storing := by
  unfold State.traceInstr; repeat' split
  all_goals rfl

/-! `recordBranch`: the checkpoint registers may change too (R806). -/

@[simp] theorem State.recordBranch_core (s : State) (i : Bool) (t : Word) : (s.recordBranch i t).core = s.core := by
  cases i <;> (simp only [State.recordBranch]; split <;> rfl)
@[simp] theorem State.recordBranch_cp15 (s : State) (i : Bool) (t : Word) : (s.recordBranch i t).cp15 = s.cp15 := by
  cases i <;> (simp only [State.recordBranch]; split <;> rfl)
@[simp] theorem State.recordBranch_itlb (s : State) (i : Bool) (t : Word) : (s.recordBranch i t).itlb = s.itlb := by
  cases i <;> (simp only [State.recordBranch]; split <;> rfl)
@[simp] theorem State.recordBranch_dtlb (s : State) (i : Bool) (t : Word) : (s.recordBranch i t).dtlb = s.dtlb := by
  cases i <;> (simp only [State.recordBranch]; split <;> rfl)
@[simp] theorem State.recordBranch_icache (s : State) (i : Bool) (t : Word) : (s.recordBranch i t).icache = s.icache := by
  cases i <;> (simp only [State.recordBranch]; split <;> rfl)
@[simp] theorem State.recordBranch_miniICache (s : State) (i : Bool) (t : Word) : (s.recordBranch i t).miniICache = s.miniICache := by
  cases i <;> (simp only [State.recordBranch]; split <;> rfl)
@[simp] theorem State.recordBranch_fetchBufs (s : State) (i : Bool) (t : Word) : (s.recordBranch i t).fetchBufs = s.fetchBufs := by
  cases i <;> (simp only [State.recordBranch]; split <;> rfl)
@[simp] theorem State.recordBranch_btb (s : State) (i : Bool) (t : Word) : (s.recordBranch i t).btb = s.btb := by
  cases i <;> (simp only [State.recordBranch]; split <;> rfl)
@[simp] theorem State.recordBranch_dcache (s : State) (i : Bool) (t : Word) : (s.recordBranch i t).dcache = s.dcache := by
  cases i <;> (simp only [State.recordBranch]; split <;> rfl)
@[simp] theorem State.recordBranch_miniDCache (s : State) (i : Bool) (t : Word) : (s.recordBranch i t).miniDCache = s.miniDCache := by
  cases i <;> (simp only [State.recordBranch]; split <;> rfl)
@[simp] theorem State.recordBranch_writeBuf (s : State) (i : Bool) (t : Word) : (s.recordBranch i t).writeBuf = s.writeBuf := by
  cases i <;> (simp only [State.recordBranch]; split <;> rfl)
@[simp] theorem State.recordBranch_fillBuf (s : State) (i : Bool) (t : Word) : (s.recordBranch i t).fillBuf = s.fillBuf := by
  cases i <;> (simp only [State.recordBranch]; split <;> rfl)
@[simp] theorem State.recordBranch_pendBuf (s : State) (i : Bool) (t : Word) : (s.recordBranch i t).pendBuf = s.pendBuf := by
  cases i <;> (simp only [State.recordBranch]; split <;> rfl)
@[simp] theorem State.recordBranch_mem (s : State) (i : Bool) (t : Word) : (s.recordBranch i t).mem = s.mem := by
  cases i <;> (simp only [State.recordBranch]; split <;> rfl)
@[simp] theorem State.recordBranch_platform (s : State) (i : Bool) (t : Word) : (s.recordBranch i t).platform = s.platform := by
  cases i <;> (simp only [State.recordBranch]; split <;> rfl)
@[simp] theorem State.recordBranch_extAborts (s : State) (i : Bool) (t : Word) : (s.recordBranch i t).extAborts = s.extAborts := by
  cases i <;> (simp only [State.recordBranch]; split <;> rfl)
@[simp] theorem State.recordBranch_deviceOps (s : State) (i : Bool) (t : Word) : (s.recordBranch i t).deviceOps = s.deviceOps := by
  cases i <;> (simp only [State.recordBranch]; split <;> rfl)
@[simp] theorem State.recordBranch_sds (s : State) (i : Bool) (t : Word) : (s.recordBranch i t).sds = s.sds := by
  cases i <;> (simp only [State.recordBranch]; split <;> rfl)
@[simp] theorem State.recordBranch_power (s : State) (i : Bool) (t : Word) : (s.recordBranch i t).power = s.power := by
  cases i <;> (simp only [State.recordBranch]; split <;> rfl)
@[simp] theorem State.recordBranch_jtag (s : State) (i : Bool) (t : Word) : (s.recordBranch i t).jtag = s.jtag := by
  cases i <;> (simp only [State.recordBranch]; split <;> rfl)
@[simp] theorem State.recordBranch_freeCtr (s : State) (i : Bool) (t : Word) : (s.recordBranch i t).freeCtr = s.freeCtr := by
  cases i <;> (simp only [State.recordBranch]; split <;> rfl)
@[simp] theorem State.recordBranch_inputs (s : State) (i : Bool) (t : Word) : (s.recordBranch i t).inputs = s.inputs := by
  cases i <;> (simp only [State.recordBranch]; split <;> rfl)
@[simp] theorem State.recordBranch_sdsShadow (s : State) (i : Bool) (t : Word) : (s.recordBranch i t).sdsShadow = s.sdsShadow := by
  cases i <;> (simp only [State.recordBranch]; split <;> rfl)
@[simp] theorem State.recordBranch_stale (s : State) (i : Bool) (t : Word) : (s.recordBranch i t).stale = s.stale := by
  cases i <;> (simp only [State.recordBranch]; split <;> rfl)
@[simp] theorem State.recordBranch_midBus (s : State) (i : Bool) (t : Word) : (s.recordBranch i t).midBus = s.midBus := by
  cases i <;> (simp only [State.recordBranch]; split <;> rfl)
@[simp] theorem State.recordBranch_storing (s : State) (i : Bool) (t : Word) : (s.recordBranch i t).storing = s.storing := by
  cases i <;> (simp only [State.recordBranch]; split <;> rfl)

/-! `traceDirect`, `traceIndirect`, `traceException` (R801, R804) -/

@[simp] theorem State.traceDirect_core (s : State) (t : Word) : (s.traceDirect t).core = s.core := by
  unfold State.traceDirect; split <;> simp
@[simp] theorem State.traceDirect_cp15 (s : State) (t : Word) : (s.traceDirect t).cp15 = s.cp15 := by
  unfold State.traceDirect; split <;> simp
@[simp] theorem State.traceDirect_itlb (s : State) (t : Word) : (s.traceDirect t).itlb = s.itlb := by
  unfold State.traceDirect; split <;> simp
@[simp] theorem State.traceDirect_dtlb (s : State) (t : Word) : (s.traceDirect t).dtlb = s.dtlb := by
  unfold State.traceDirect; split <;> simp
@[simp] theorem State.traceDirect_icache (s : State) (t : Word) : (s.traceDirect t).icache = s.icache := by
  unfold State.traceDirect; split <;> simp
@[simp] theorem State.traceDirect_miniICache (s : State) (t : Word) : (s.traceDirect t).miniICache = s.miniICache := by
  unfold State.traceDirect; split <;> simp
@[simp] theorem State.traceDirect_fetchBufs (s : State) (t : Word) : (s.traceDirect t).fetchBufs = s.fetchBufs := by
  unfold State.traceDirect; split <;> simp
@[simp] theorem State.traceDirect_btb (s : State) (t : Word) : (s.traceDirect t).btb = s.btb := by
  unfold State.traceDirect; split <;> simp
@[simp] theorem State.traceDirect_dcache (s : State) (t : Word) : (s.traceDirect t).dcache = s.dcache := by
  unfold State.traceDirect; split <;> simp
@[simp] theorem State.traceDirect_miniDCache (s : State) (t : Word) : (s.traceDirect t).miniDCache = s.miniDCache := by
  unfold State.traceDirect; split <;> simp
@[simp] theorem State.traceDirect_writeBuf (s : State) (t : Word) : (s.traceDirect t).writeBuf = s.writeBuf := by
  unfold State.traceDirect; split <;> simp
@[simp] theorem State.traceDirect_fillBuf (s : State) (t : Word) : (s.traceDirect t).fillBuf = s.fillBuf := by
  unfold State.traceDirect; split <;> simp
@[simp] theorem State.traceDirect_pendBuf (s : State) (t : Word) : (s.traceDirect t).pendBuf = s.pendBuf := by
  unfold State.traceDirect; split <;> simp
@[simp] theorem State.traceDirect_mem (s : State) (t : Word) : (s.traceDirect t).mem = s.mem := by
  unfold State.traceDirect; split <;> simp
@[simp] theorem State.traceDirect_platform (s : State) (t : Word) : (s.traceDirect t).platform = s.platform := by
  unfold State.traceDirect; split <;> simp
@[simp] theorem State.traceDirect_extAborts (s : State) (t : Word) : (s.traceDirect t).extAborts = s.extAborts := by
  unfold State.traceDirect; split <;> simp
@[simp] theorem State.traceDirect_deviceOps (s : State) (t : Word) : (s.traceDirect t).deviceOps = s.deviceOps := by
  unfold State.traceDirect; split <;> simp
@[simp] theorem State.traceDirect_sds (s : State) (t : Word) : (s.traceDirect t).sds = s.sds := by
  unfold State.traceDirect; split <;> simp
@[simp] theorem State.traceDirect_power (s : State) (t : Word) : (s.traceDirect t).power = s.power := by
  unfold State.traceDirect; split <;> simp
@[simp] theorem State.traceDirect_jtag (s : State) (t : Word) : (s.traceDirect t).jtag = s.jtag := by
  unfold State.traceDirect; split <;> simp
@[simp] theorem State.traceDirect_freeCtr (s : State) (t : Word) : (s.traceDirect t).freeCtr = s.freeCtr := by
  unfold State.traceDirect; split <;> simp
@[simp] theorem State.traceDirect_inputs (s : State) (t : Word) : (s.traceDirect t).inputs = s.inputs := by
  unfold State.traceDirect; split <;> simp
@[simp] theorem State.traceDirect_sdsShadow (s : State) (t : Word) : (s.traceDirect t).sdsShadow = s.sdsShadow := by
  unfold State.traceDirect; split <;> simp
@[simp] theorem State.traceDirect_stale (s : State) (t : Word) : (s.traceDirect t).stale = s.stale := by
  unfold State.traceDirect; split <;> simp
@[simp] theorem State.traceDirect_midBus (s : State) (t : Word) : (s.traceDirect t).midBus = s.midBus := by
  unfold State.traceDirect; split <;> simp
@[simp] theorem State.traceDirect_storing (s : State) (t : Word) : (s.traceDirect t).storing = s.storing := by
  unfold State.traceDirect; split <;> simp

@[simp] theorem State.traceIndirect_core (s : State) (i : Bool) (t : Word) : (s.traceIndirect i t).core = s.core := by
  unfold State.traceIndirect; split <;> simp
@[simp] theorem State.traceIndirect_cp15 (s : State) (i : Bool) (t : Word) : (s.traceIndirect i t).cp15 = s.cp15 := by
  unfold State.traceIndirect; split <;> simp
@[simp] theorem State.traceIndirect_itlb (s : State) (i : Bool) (t : Word) : (s.traceIndirect i t).itlb = s.itlb := by
  unfold State.traceIndirect; split <;> simp
@[simp] theorem State.traceIndirect_dtlb (s : State) (i : Bool) (t : Word) : (s.traceIndirect i t).dtlb = s.dtlb := by
  unfold State.traceIndirect; split <;> simp
@[simp] theorem State.traceIndirect_icache (s : State) (i : Bool) (t : Word) : (s.traceIndirect i t).icache = s.icache := by
  unfold State.traceIndirect; split <;> simp
@[simp] theorem State.traceIndirect_miniICache (s : State) (i : Bool) (t : Word) : (s.traceIndirect i t).miniICache = s.miniICache := by
  unfold State.traceIndirect; split <;> simp
@[simp] theorem State.traceIndirect_fetchBufs (s : State) (i : Bool) (t : Word) : (s.traceIndirect i t).fetchBufs = s.fetchBufs := by
  unfold State.traceIndirect; split <;> simp
@[simp] theorem State.traceIndirect_btb (s : State) (i : Bool) (t : Word) : (s.traceIndirect i t).btb = s.btb := by
  unfold State.traceIndirect; split <;> simp
@[simp] theorem State.traceIndirect_dcache (s : State) (i : Bool) (t : Word) : (s.traceIndirect i t).dcache = s.dcache := by
  unfold State.traceIndirect; split <;> simp
@[simp] theorem State.traceIndirect_miniDCache (s : State) (i : Bool) (t : Word) : (s.traceIndirect i t).miniDCache = s.miniDCache := by
  unfold State.traceIndirect; split <;> simp
@[simp] theorem State.traceIndirect_writeBuf (s : State) (i : Bool) (t : Word) : (s.traceIndirect i t).writeBuf = s.writeBuf := by
  unfold State.traceIndirect; split <;> simp
@[simp] theorem State.traceIndirect_fillBuf (s : State) (i : Bool) (t : Word) : (s.traceIndirect i t).fillBuf = s.fillBuf := by
  unfold State.traceIndirect; split <;> simp
@[simp] theorem State.traceIndirect_pendBuf (s : State) (i : Bool) (t : Word) : (s.traceIndirect i t).pendBuf = s.pendBuf := by
  unfold State.traceIndirect; split <;> simp
@[simp] theorem State.traceIndirect_mem (s : State) (i : Bool) (t : Word) : (s.traceIndirect i t).mem = s.mem := by
  unfold State.traceIndirect; split <;> simp
@[simp] theorem State.traceIndirect_platform (s : State) (i : Bool) (t : Word) : (s.traceIndirect i t).platform = s.platform := by
  unfold State.traceIndirect; split <;> simp
@[simp] theorem State.traceIndirect_extAborts (s : State) (i : Bool) (t : Word) : (s.traceIndirect i t).extAborts = s.extAborts := by
  unfold State.traceIndirect; split <;> simp
@[simp] theorem State.traceIndirect_deviceOps (s : State) (i : Bool) (t : Word) : (s.traceIndirect i t).deviceOps = s.deviceOps := by
  unfold State.traceIndirect; split <;> simp
@[simp] theorem State.traceIndirect_sds (s : State) (i : Bool) (t : Word) : (s.traceIndirect i t).sds = s.sds := by
  unfold State.traceIndirect; split <;> simp
@[simp] theorem State.traceIndirect_power (s : State) (i : Bool) (t : Word) : (s.traceIndirect i t).power = s.power := by
  unfold State.traceIndirect; split <;> simp
@[simp] theorem State.traceIndirect_jtag (s : State) (i : Bool) (t : Word) : (s.traceIndirect i t).jtag = s.jtag := by
  unfold State.traceIndirect; split <;> simp
@[simp] theorem State.traceIndirect_inputs (s : State) (i : Bool) (t : Word) : (s.traceIndirect i t).inputs = s.inputs := by
  unfold State.traceIndirect; split <;> simp
@[simp] theorem State.traceIndirect_sdsShadow (s : State) (i : Bool) (t : Word) : (s.traceIndirect i t).sdsShadow = s.sdsShadow := by
  unfold State.traceIndirect; split <;> simp
@[simp] theorem State.traceIndirect_stale (s : State) (i : Bool) (t : Word) : (s.traceIndirect i t).stale = s.stale := by
  unfold State.traceIndirect; split <;> simp
@[simp] theorem State.traceIndirect_midBus (s : State) (i : Bool) (t : Word) : (s.traceIndirect i t).midBus = s.midBus := by
  unfold State.traceIndirect; split <;> simp
@[simp] theorem State.traceIndirect_storing (s : State) (i : Bool) (t : Word) : (s.traceIndirect i t).storing = s.storing := by
  unfold State.traceIndirect; split <;> simp

@[simp] theorem State.traceException_core (s : State) (off : Word) : (s.traceException off).core = s.core := by
  unfold State.traceException; split <;> rfl
@[simp] theorem State.traceException_cp15 (s : State) (off : Word) : (s.traceException off).cp15 = s.cp15 := by
  unfold State.traceException; split <;> rfl
@[simp] theorem State.traceException_cp14 (s : State) (off : Word) : (s.traceException off).cp14 = s.cp14 := by
  unfold State.traceException; split <;> rfl
@[simp] theorem State.traceException_itlb (s : State) (off : Word) : (s.traceException off).itlb = s.itlb := by
  unfold State.traceException; split <;> rfl
@[simp] theorem State.traceException_dtlb (s : State) (off : Word) : (s.traceException off).dtlb = s.dtlb := by
  unfold State.traceException; split <;> rfl
@[simp] theorem State.traceException_icache (s : State) (off : Word) : (s.traceException off).icache = s.icache := by
  unfold State.traceException; split <;> rfl
@[simp] theorem State.traceException_miniICache (s : State) (off : Word) : (s.traceException off).miniICache = s.miniICache := by
  unfold State.traceException; split <;> rfl
@[simp] theorem State.traceException_fetchBufs (s : State) (off : Word) : (s.traceException off).fetchBufs = s.fetchBufs := by
  unfold State.traceException; split <;> rfl
@[simp] theorem State.traceException_btb (s : State) (off : Word) : (s.traceException off).btb = s.btb := by
  unfold State.traceException; split <;> rfl
@[simp] theorem State.traceException_dcache (s : State) (off : Word) : (s.traceException off).dcache = s.dcache := by
  unfold State.traceException; split <;> rfl
@[simp] theorem State.traceException_miniDCache (s : State) (off : Word) : (s.traceException off).miniDCache = s.miniDCache := by
  unfold State.traceException; split <;> rfl
@[simp] theorem State.traceException_writeBuf (s : State) (off : Word) : (s.traceException off).writeBuf = s.writeBuf := by
  unfold State.traceException; split <;> rfl
@[simp] theorem State.traceException_fillBuf (s : State) (off : Word) : (s.traceException off).fillBuf = s.fillBuf := by
  unfold State.traceException; split <;> rfl
@[simp] theorem State.traceException_pendBuf (s : State) (off : Word) : (s.traceException off).pendBuf = s.pendBuf := by
  unfold State.traceException; split <;> rfl
@[simp] theorem State.traceException_mem (s : State) (off : Word) : (s.traceException off).mem = s.mem := by
  unfold State.traceException; split <;> rfl
@[simp] theorem State.traceException_platform (s : State) (off : Word) : (s.traceException off).platform = s.platform := by
  unfold State.traceException; split <;> rfl
@[simp] theorem State.traceException_extAborts (s : State) (off : Word) : (s.traceException off).extAborts = s.extAborts := by
  unfold State.traceException; split <;> rfl
@[simp] theorem State.traceException_deviceOps (s : State) (off : Word) : (s.traceException off).deviceOps = s.deviceOps := by
  unfold State.traceException; split <;> rfl
@[simp] theorem State.traceException_sds (s : State) (off : Word) : (s.traceException off).sds = s.sds := by
  unfold State.traceException; split <;> rfl
@[simp] theorem State.traceException_power (s : State) (off : Word) : (s.traceException off).power = s.power := by
  unfold State.traceException; split <;> rfl
@[simp] theorem State.traceException_jtag (s : State) (off : Word) : (s.traceException off).jtag = s.jtag := by
  unfold State.traceException; split <;> rfl
@[simp] theorem State.traceException_freeCtr (s : State) (off : Word) : (s.traceException off).freeCtr = s.freeCtr := by
  unfold State.traceException; split <;> rfl
@[simp] theorem State.traceException_inputs (s : State) (off : Word) : (s.traceException off).inputs = s.inputs := by
  unfold State.traceException; split <;> rfl
@[simp] theorem State.traceException_sdsShadow (s : State) (off : Word) : (s.traceException off).sdsShadow = s.sdsShadow := by
  unfold State.traceException; split <;> rfl
@[simp] theorem State.traceException_stale (s : State) (off : Word) : (s.traceException off).stale = s.stale := by
  unfold State.traceException; split <;> rfl
@[simp] theorem State.traceException_midBus (s : State) (off : Word) : (s.traceException off).midBus = s.midBus := by
  unfold State.traceException; split <;> rfl
@[simp] theorem State.traceException_storing (s : State) (off : Word) : (s.traceException off).storing = s.storing := by
  unfold State.traceException; split <;> rfl

/-- While the trace buffer records nothing, an instruction changes nothing in it (R800). -/
theorem State.traceInstr_off {s : State} (h : s.traceOn = false) : s.traceInstr = s := by
  simp [State.traceInstr, h]

theorem State.traceDirect_off {s : State} (t : Word) (h : s.traceOn = false) : s.traceDirect t = s := by
  simp [State.traceDirect, h]

theorem State.traceIndirect_off {s : State} (i : Bool) (t : Word) (h : s.traceOn = false) :
    s.traceIndirect i t = s := by
  simp [State.traceIndirect, h]

theorem State.traceException_off {s : State} (off : Word) (h : s.traceOn = false) : s.traceException off = s := by
  simp [State.traceException, h]

end Sys2Proof.Machine
end

