-- ==== Sys2Proof/Laws/Ops.lean ====
section
/-! SUPPORT. One lemma for each shared operation that says what it can do: the register file, the advance of the PC,
taking an exception and returning from one, the flags. -/

namespace Sys2Proof.Machine

/-! The register file (10_state.md R30-R33). -/

/-- R0 to R14 of one mode are different physical registers. -/
theorem physReg_injective (m : Mode) {a b : Reg} (ha : a ≠ 15) (hb : b ≠ 15) (h : physReg m a = physReg m b) :
    a = b := by
  revert a b; cases m <;> decide

theorem State.bankedReg_setBankedReg (s : State) (m m' : Mode) (n n' : Reg) (v : Word) :
    (s.setBankedReg m n v).bankedReg m' n' = if physReg m' n' = physReg m n then v else s.bankedReg m' n' := by
  simp only [State.bankedReg, State.setBankedReg]
  by_cases h : physReg m' n' = physReg m n
  · simp [h]
  · have h' : (physReg m n).toNat ≠ (physReg m' n').toNat := fun e => h (BitVec.eq_of_toNat_eq e.symm)
    simp only [h, if_false]
    exact Vector.getElem_set_ne _ _ h'

@[simp] theorem State.setReg_15 (s : State) (v : Word) : s.setReg 15 v = s := rfl

theorem State.setReg_of_ne {s : State} {n : Reg} (v : Word) (h : n ≠ 15) : s.setReg n v = s.setBankedReg s.mode n v :=
  if_neg h

theorem State.reg_of_ne {s : State} {n : Reg} (h : n ≠ 15) : s.reg n = s.bankedReg s.mode n :=
  if_neg h

@[simp] theorem State.reg_pc (s : State) : s.reg 15 = s.pcRead := by simp [State.reg]

@[simp] theorem State.setReg_pc (s : State) (n : Reg) (v : Word) : (s.setReg n v).core.pc = s.core.pc := by
  unfold State.setReg; split <;> rfl

@[simp] theorem State.setReg_cpsr (s : State) (n : Reg) (v : Word) : (s.setReg n v).core.cpsr = s.core.cpsr := by
  unfold State.setReg; split <;> rfl

@[simp] theorem State.setReg_spsrs (s : State) (n : Reg) (v : Word) : (s.setReg n v).core.spsrs = s.core.spsrs := by
  unfold State.setReg; split <;> rfl

@[simp] theorem State.setReg_acc0 (s : State) (n : Reg) (v : Word) : (s.setReg n v).core.acc0 = s.core.acc0 := by
  unfold State.setReg; split <;> rfl

@[simp] theorem State.setReg_mode (s : State) (n : Reg) (v : Word) : (s.setReg n v).mode = s.mode := by
  simp [State.mode]

/-- Writing a register and reading it back. -/
theorem State.reg_setReg_same (s : State) {n : Reg} (v : Word) (h : n ≠ 15) : (s.setReg n v).reg n = v := by
  simp [State.reg_of_ne h, State.setReg_of_ne v h, State.bankedReg_setBankedReg, State.mode]

/-- Writing a register leaves the others of the mode. -/
theorem State.reg_setReg_other (s : State) {n n' : Reg} (v : Word) (h : n' ≠ n) (h' : n' ≠ 15) :
    (s.setReg n v).reg n' = s.reg n' := by
  by_cases hn : n = 15
  · subst hn; rfl
  · have hp : physReg s.mode n' ≠ physReg s.mode n := fun e => h (physReg_injective _ h' hn e)
    simp [State.reg_of_ne h', State.setReg_of_ne v hn, State.bankedReg_setBankedReg, State.mode] at hp ⊢
    exact fun e => absurd e hp

/-! The program counter (10_state.md R35). -/

/-- An instruction that is complete goes on in sequence, unless it would run past the top of the address space. -/
theorem State.advance_eq {s : State} (h : s.core.pc.toNat + s.instrSize.toNat < 2 ^ 32) :
    s.advance = .next (s.setPc s.nextPc).traceInstr := by
  unfold State.advance
  rw [if_neg (by omega)]

/-- What the advance can do. -/
theorem State.advance_next {s t : State} (h : s.advance = .next t) :
    s.core.pc.toNat + s.instrSize.toNat < 2 ^ 32 ∧ t = (s.setPc s.nextPc).traceInstr := by
  unfold State.advance at h
  split at h
  · cases h
  · cases h; exact ⟨by omega, rfl⟩

/-- The advance never faults, and refuses only at the top of the address space. -/
theorem State.advance_cases (s : State) :
    s.advance = .next (s.setPc s.nextPc).traceInstr ∨
      (s.advance = .refused .pcWrap ∧ 2 ^ 32 ≤ s.core.pc.toNat + s.instrSize.toNat) := by
  unfold State.advance
  split
  · rename_i h; exact .inr ⟨rfl, h⟩
  · exact .inl rfl

/-! Words built from words: the bits of `merge` and `setBit`. -/

@[simp] theorem bitAt_merge (mask w v : Word) (i : Nat) :
    bitAt (merge mask w v) i = if bitAt mask i then bitAt v i else bitAt w i := by
  by_cases hi : i < 32
  · simp only [bitAt, merge, BitVec.getLsbD_or, BitVec.getLsbD_and, BitVec.getLsbD_not, hi]
    cases mask.getLsbD i <;> simp
  · have hx : ∀ x : Word, x.getLsbD i = false := fun x => BitVec.getLsbD_of_ge x i (by omega)
    simp [bitAt, hx]

theorem bitAt_setBit {k : Nat} (b : Bool) (w : Word) {i : Nat} (hk : k < 32) (hi : i < 32) :
    bitAt (setBit k b w) i = if i = k then b else bitAt w i := by
  have hm : bitAt (1#32 <<< k) i = decide (i = k) := by
    simp only [bitAt, BitVec.getLsbD_shiftLeft, BitVec.getLsbD_one, hi]
    by_cases h : i = k
    · subst h; simp
    · simp [h]; omega
  have hv : bitAt (if b = true then (0xFFFFFFFF : Word) else 0) i = b := by
    cases b
    · simp [bitAt]
    · have : ∀ i : Fin 32, bitAt (0xFFFFFFFF : Word) i.val = true := by decide
      exact this ⟨i, hi⟩
  simp only [setBit, bitAt_merge, hm, hv, decide_eq_true_eq]

/-! Taking an exception and returning from one (60_exceptions.md R670, R690). -/

/-- The mode bits, T, I and F of a handler (R670). -/
theorem handlerCpsr_bits (m : Mode) (setF : Bool) (cpsr : Word) {i : Nat} (hi : i < 32) :
    bitAt (handlerCpsr m setF cpsr) i =
      if i < 5 then m.bits.getLsbD i
      else if i = 5 then false
      else if i = 6 then (setF || bitAt cpsr 6)
      else if i = 7 then true
      else bitAt cpsr i := by
  have h1F : ∀ j : Fin 32, bitAt (0x1F : Word) j.val = decide (j.val < 5) := by decide
  have h1F' : bitAt (0x1F : Word) i = decide (i < 5) := h1F ⟨i, hi⟩
  have hz : i < 5 → bitAt (m.bits.zeroExtend 32) i = m.bits.getLsbD i := by
    intro h; simp [bitAt]; omega
  cases setF
  · simp only [handlerCpsr, Bool.false_eq_true, if_false, Bool.false_or]
    rw [bitAt_setBit _ _ (by omega) hi, bitAt_setBit _ _ (by omega) hi, bitAt_merge, h1F']
    by_cases h5 : i < 5
    · have e5 : i ≠ 5 := by omega
      have e6 : i ≠ 6 := by omega
      have e7 : i ≠ 7 := by omega
      simp only [h5, hz h5, e5, e6, e7, if_false, if_true, decide_true]
    · by_cases a : i = 5
      · subst a; simp
      · by_cases b : i = 6
        · subst b; simp
        · by_cases c : i = 7
          · subst c; simp
          · simp [h5, a, b, c]
  · simp only [handlerCpsr, if_true, Bool.true_or]
    rw [bitAt_setBit _ _ (by omega) hi, bitAt_setBit _ _ (by omega) hi, bitAt_setBit _ _ (by omega) hi, bitAt_merge, h1F']
    by_cases h5 : i < 5
    · have e5 : i ≠ 5 := by omega
      have e6 : i ≠ 6 := by omega
      have e7 : i ≠ 7 := by omega
      simp only [h5, hz h5, e5, e6, e7, if_false, if_true, decide_true]
    · by_cases a : i = 5
      · subst a; simp
      · by_cases b : i = 6
        · subst b; simp
        · by_cases c : i = 7
          · subst c; simp
          · simp [h5, a, b, c]

/-- The CPSR of a handler names the handler's mode. -/
theorem handlerCpsr_mode (m : Mode) (setF : Bool) (cpsr : Word) : modeOf (handlerCpsr m setF cpsr) = m := by
  have h : field (handlerCpsr m setF cpsr) 0 5 = m.bits := by
    apply BitVec.eq_of_getLsbD_eq
    intro i hi
    have hb := handlerCpsr_bits m setF cpsr (i := i) (by omega)
    simp only [bitAt, hi, if_true] at hb
    simp [field, hi, hb]
  simp only [modeOf, h]
  cases m <;> rfl

/-- What taking an exception does (R670): the vector, the mode, the saved status and the link. -/
theorem State.takeException_pc (s : State) (m : Mode) (setF : Bool) (offset link : Word) :
    (s.takeException m setF offset link).core.pc = s.vectorBase + offset := rfl

@[simp] theorem State.setSpsrOf_regs (s : State) (m : Mode) (v : Word) :
    (s.setSpsrOf m v).core.regs = s.core.regs := by
  unfold State.setSpsrOf; split <;> rfl

@[simp] theorem State.setSpsrOf_cpsr (s : State) (m : Mode) (v : Word) :
    (s.setSpsrOf m v).core.cpsr = s.core.cpsr := by
  unfold State.setSpsrOf; split <;> rfl

@[simp] theorem State.setSpsrOf_acc0 (s : State) (m : Mode) (v : Word) :
    (s.setSpsrOf m v).core.acc0 = s.core.acc0 := by
  unfold State.setSpsrOf; split <;> rfl

@[simp] theorem State.setSpsrOf_mem (s : State) (m : Mode) (v : Word) : (s.setSpsrOf m v).mem = s.mem := by
  unfold State.setSpsrOf; split <;> rfl

theorem State.spsrOf_setSpsrOf {s : State} {m : Mode} (v : Word) (h : m.spsrIndex.isSome = true) :
    (s.setSpsrOf m v).spsrOf m = some v := by
  cases m <;> simp_all [State.setSpsrOf, State.spsrOf, Mode.spsrIndex]

theorem State.takeException_cpsr (s : State) (m : Mode) (setF : Bool) (offset link : Word) :
    (s.takeException m setF offset link).core.cpsr = handlerCpsr m setF s.core.cpsr := by
  simp [State.takeException, State.enterMode]

theorem State.takeException_mode (s : State) (m : Mode) (setF : Bool) (offset link : Word) :
    (s.takeException m setF offset link).mode = m := by
  simp [State.mode, State.takeException_cpsr, handlerCpsr_mode]

theorem State.takeException_link (s : State) (m : Mode) (setF : Bool) (offset link : Word) :
    (s.takeException m setF offset link).bankedReg m 14 = link := by
  simp [State.takeException, State.enterMode, State.bankedReg]

theorem State.takeException_spsr {s : State} {m : Mode} (setF : Bool) (offset link : Word)
    (h : m.spsrIndex.isSome = true) : (s.takeException m setF offset link).spsrOf m = some s.core.cpsr := by
  cases m <;>
    simp_all [State.takeException, State.enterMode, State.spsrOf, Mode.spsrIndex, State.setSpsrOf]

/-- What the return does (R690): the CPSR is the SPSR of the mode, Special Debug State ends, and the PC is aligned for
the restored T bit. -/
theorem State.returnTo_next {s t : State} {v : Word} (h : s.returnTo v = .next t) :
    s.spsrOf s.mode = some t.core.cpsr ∧ t.sds = false ∧ t.core.pc = alignForState t.thumb v := by
  simp only [State.returnTo] at h
  split at h
  · cases h
  · rename_i s1 h1
    simp only [State.restoreCpsr] at h1
    split at h1
    · cases h1
    · rename_i w hw
      split at h1 <;> cases h1
      cases h
      refine ⟨?_, ?_, ?_⟩
      · rw [hw]; split <;> simp
      · simp only [State.setPc_sds, State.traceIndirect_sds]; split <;> rfl
      · simp only [State.thumb, State.setPc_pc, State.setPc_cpsr, State.traceIndirect_core]
        split <;> rfl

end Sys2Proof.Machine
end

