-- ==== Sys2Proof/Laws/Elsewhere.lean ====
section
/-! SUPPORT. What the shared operations leave elsewhere (`SameElsewhere`), how an instruction that only writes core
registers ends, and what an access of the data side does where it reaches memory (`State.Direct`). -/

namespace Sys2Proof.Machine

/-! `SameElsewhere` is a preorder, and the shared operations keep it. -/

theorem SameElsewhere.refl (s : State) : SameElsewhere s s := ⟨rfl, fun _ => ⟨rfl, rfl, rfl⟩, fun _ => ⟨rfl, rfl, rfl, rfl⟩⟩

/-- The debug control register is outside what may differ. -/
theorem SameElsewhere.dcsr {s t : State} (h : SameElsewhere s t) : t.cp14.dcsr = s.cp14.dcsr := by
  have e := congrArg (fun x : State => x.cp14.dcsr) h.rest
  exact e

theorem SameElsewhere.traceOn {s t : State} (h : SameElsewhere s t) : t.traceOn = s.traceOn := by
  simp [State.traceOn, State.debugOn, h.dcsr]

theorem SameElsewhere.trans {s t u : State} (h : SameElsewhere s t) (k : SameElsewhere t u) : SameElsewhere s u := by
  refine ⟨?_, fun hp => ?_, fun ht => ?_⟩
  · refine Eq.trans ?_ h.rest
    have e := congrArg (fun z : State => { z with
      core := s.core
      mem := s.mem
      btb := s.btb
      cp14 := { z.cp14 with
        pmnc := s.cp14.pmnc, pmn0 := s.cp14.pmn0, pmn1 := s.cp14.pmn1, chkpt0 := s.cp14.chkpt0, chkpt1 := s.cp14.chkpt1 }
      trace := s.trace
      pending := { z.pending with traceFull := s.pending.traceFull, dataBkpt := s.pending.dataBkpt }
      freeCtr := s.freeCtr
      stale := { z.stale with words := s.stale.words }
      storing := s.storing }) k.rest
    exact e
  · have a := h.counters hp
    have b := k.counters (by rw [pmuOn, a.1]; exact hp)
    exact ⟨b.1.trans a.1, b.2.1.trans a.2.1, b.2.2.trans a.2.2⟩
  · have a := h.tracing ht
    have b := k.tracing (h.traceOn.trans ht)
    exact ⟨b.1.trans a.1, b.2.1.trans a.2.1, b.2.2.1.trans a.2.2.1, b.2.2.2.trans a.2.2.2⟩

/-- Core registers, memory and the BTB do not count. -/
theorem SameElsewhere.here (s : State) (c : Core) (m : List Host.Cell) (b : List (Nat × BtbEntry)) :
    SameElsewhere s { s with core := c, mem := m, btb := b } :=
  ⟨rfl, fun _ => ⟨rfl, rfl, rfl⟩, fun _ => ⟨rfl, rfl, rfl, rfl⟩⟩

theorem SameElsewhere.consume (s : State) (n : Nat) : SameElsewhere s (s.consume n) :=
  ⟨rfl, fun _ => ⟨rfl, rfl, rfl⟩, fun _ => ⟨rfl, rfl, rfl, rfl⟩⟩

/-- Counting while the monitor is disabled changes nothing (60_exceptions.md R731). -/
theorem countCp14_off {e : Event} {n : Nat} {k : Cp14} (h : pmuOn k = false) : countCp14 e n k = k := by
  have f (w : Word) : overflows w 0 = false := by simp [overflows]; omega
  simp [countCp14, h, f, raiseFlag]

theorem SameElsewhere.countN (s : State) (e : Event) (n : Nat) : SameElsewhere s (s.countN e n) := by
  refine ⟨rfl, fun h => ?_, fun _ => ⟨rfl, rfl, rfl, rfl⟩⟩
  simp [State.countN, countCp14_off h]

theorem SameElsewhere.count (s : State) (e : Event) : SameElsewhere s (s.count e) := SameElsewhere.countN s e 1

theorem SameElsewhere.noteAccess (s : State) (w : Width) (mva : Word) (store : Bool) :
    SameElsewhere s (s.noteAccess w mva store) := by
  unfold State.noteAccess State.noteMatch
  split
  · exact ⟨rfl, fun _ => ⟨rfl, rfl, rfl⟩, fun _ => ⟨rfl, rfl, rfl, rfl⟩⟩
  · exact .refl s

theorem SameElsewhere.traceInstr (s : State) : SameElsewhere s s.traceInstr := by
  refine ⟨?_, fun _ => ?_, fun h => ?_⟩
  · unfold State.traceInstr; split
    · split <;> rfl
    · rfl
  · simp
  · simp [State.traceInstr_off h]

theorem SameElsewhere.recordByte {s : State} (b : Byte) (h : s.traceOn = true) : SameElsewhere s (s.recordByte b) :=
  ⟨rfl, fun _ => ⟨rfl, rfl, rfl⟩, fun k => by simp [h] at k⟩

theorem SameElsewhere.recordMessage {s : State} (b : Byte) (h : s.traceOn = true) : SameElsewhere s (s.recordMessage b) :=
  ⟨rfl, fun _ => ⟨rfl, rfl, rfl⟩, fun k => by simp [h] at k⟩

theorem SameElsewhere.takeCheckpoint {s : State} (t : Word) (h : s.traceOn = true) : SameElsewhere s (s.takeCheckpoint t) :=
  ⟨rfl, fun _ => ⟨rfl, rfl, rfl⟩, fun k => by simp [h] at k⟩

theorem SameElsewhere.recordBranch {s : State} (i : Bool) (t : Word) (h : s.traceOn = true) :
    SameElsewhere s (s.recordBranch i t) := by
  have k : SameElsewhere s s.nextCheckpoint :=
    ⟨rfl, fun _ => ⟨rfl, rfl, rfl⟩, fun k => by simp [h] at k⟩
  have h' : s.nextCheckpoint.traceOn = true := k.traceOn.trans h
  simp only [State.recordBranch]
  split
  · exact k.trans ((SameElsewhere.recordMessage _ h').trans (.takeCheckpoint t h'))
  · exact k.trans (.recordMessage _ h')

theorem SameElsewhere.traceDirect (s : State) (t : Word) : SameElsewhere s (s.traceDirect t) := by
  by_cases h : s.traceOn = true
  · simp only [State.traceDirect, h, if_true]; exact .recordBranch false t h
  · rw [State.traceDirect_off t (by simpa using h)]; exact .refl s

theorem SameElsewhere.traceIndirect (s : State) (i : Bool) (t : Word) : SameElsewhere s (s.traceIndirect i t) := by
  by_cases h : s.traceOn = true
  · simp only [State.traceIndirect, h, if_true]
    have on {u : State} (k : SameElsewhere s u) : u.traceOn = true := k.traceOn.trans h
    have k0 : SameElsewhere s (s.consume 1) := .consume s 1
    have more {u : State} (b : Byte) (k : SameElsewhere s u) : SameElsewhere s (u.recordByte b) :=
      k.trans (.recordByte b (on k))
    have k4 := more (byteOf (if i = true then merge 1 t (s.free 0) else t) 0)
      (more (byteOf (if i = true then merge 1 t (s.free 0) else t) 1)
        (more (byteOf (if i = true then merge 1 t (s.free 0) else t) 2)
          (more (byteOf (if i = true then merge 1 t (s.free 0) else t) 3) k0)))
    exact k4.trans (.recordBranch true _ (on k4))
  · rw [State.traceIndirect_off i t (by simpa using h)]; exact .refl s

theorem SameElsewhere.traceException (s : State) (off : Word) : SameElsewhere s (s.traceException off) := by
  refine ⟨?_, fun _ => ?_, fun h => ?_⟩
  · unfold State.traceException; split <;> rfl
  · simp
  · simp [State.traceException_off off h]

theorem SameElsewhere.btbUpdate (s : State) (t : Word) (b : Bool) : SameElsewhere s (s.btbUpdate t b) := by
  unfold State.btbUpdate
  split
  · split
    · exact .here s s.core s.mem _
    · split
      · exact .here s s.core s.mem _
      · exact .refl s
  · exact .refl s

/-- A B or BL that is resolved changes the BTB and the counters only. -/
theorem SameElsewhere.resolveBranch (s : State) (t : Word) (b : Bool) : SameElsewhere s (s.resolveBranch t b) := by
  have h : SameElsewhere s ((s.count .branchExecuted).btbUpdate t b) := (SameElsewhere.count s _).trans (.btbUpdate _ t b)
  simp only [State.resolveBranch]
  split
  · exact h
  · exact h.trans (.count _ _)

theorem SameElsewhere.putBytes (s : State) (pa v : Word) (n : Nat) : SameElsewhere s (s.putBytes pa v n) := by
  induction n with
  | zero => exact .refl s
  | succ n ih => exact ih.trans (.here _ _ _ _)

theorem SameElsewhere.noteOld (s old : State) (pa : Word) : SameElsewhere s (s.noteOld old pa) := by
  unfold State.noteOld
  split
  · exact .refl s
  · exact ⟨rfl, fun _ => ⟨rfl, rfl, rfl⟩, fun _ => ⟨rfl, rfl, rfl, rfl⟩⟩

theorem SameElsewhere.storeBytes (s : State) (pa v : Word) (n : Nat) : SameElsewhere s (s.storeBytes pa v n) :=
  (SameElsewhere.putBytes s pa v n).trans (.noteOld _ _ _)

/-! How an instruction ends that writes core registers only. -/

/-- The advance of a state that differs from `s` in core registers only, not in the PC and the T bit. -/
theorem State.advance_core {s : State} {c : Core} (hn : s.hasNext) (hp : c.pc = s.core.pc)
    (ht : bitAt c.cpsr 5 = bitAt s.core.cpsr 5) :
    ({ s with core := c } : State).advance = .next ({ s with core := { c with pc := s.nextPc } } : State).traceInstr := by
  have hs : ({ s with core := c } : State).instrSize = s.instrSize := by unfold State.instrSize State.thumb; rw [ht]
  have hn' : c.pc.toNat + s.instrSize.toNat < 2 ^ 32 := by rw [hp]; exact hn
  rw [State.advance_eq (by rw [hs]; exact hn')]
  simp only [State.setPc, State.nextPc, hs, hp]

/-- An instruction that writes core registers only is complete. -/
theorem Completes.ofCore {s : State} {c : Core} {l : List (Reg × Word)} {f : Nzcv} {q : Bool} {acc : Acc} {r : Result}
    (hr : r = ({ s with core := c } : State).advance) (hn : s.hasNext) (hp : c.pc = s.core.pc)
    (hst : field c.cpsr 0 27 = field s.core.cpsr 0 27) (hsp : c.spsrs = s.core.spsrs)
    (hw : WritesBank s { s with core := c } s.mode l) (hf : ({ s with core := c } : State).nzcv = f)
    (hq : bitAt c.cpsr 27 = q) (ha : c.acc0 = acc) : Completes r s l f q acc := by
  have ht : bitAt c.cpsr 5 = bitAt s.core.cpsr 5 := by
    have h := congrArg (fun x : BitVec 27 => x.getLsbD 5) hst
    simpa [field, BitVec.getLsbD_extractLsb'] using h
  rw [State.advance_core hn hp ht] at hr
  refine ⟨_, hr, ⟨?_, ?_, ?_, ?_, ?_, ?_, ?_, ?_, ?_⟩⟩
  · exact ⟨fun x hx => by simpa [State.bankedReg] using hw.written x hx, fun p h => by simpa using hw.others p h⟩
  · simpa [State.nzcv, State.flagN, State.flagZ, State.flagC, State.flagV] using hf
  · simpa [State.flagQ] using hq
  · simpa using hst
  · simp
  · simpa using hsp
  · simpa using ha
  · intro pa; simp [State.memByte]
  · simp [SystemIs]

/-- Nothing is written. -/
theorem WritesBank.nil {s t : State} {m : Mode} (h : t.core.regs = s.core.regs) : WritesBank s t m [] :=
  ⟨by simp, fun p _ => by simp [h]⟩

/-- One register is written. -/
theorem WritesBank.one {s t : State} {m : Mode} {n : Reg} {v : Word}
    (h : t.core.regs = s.core.regs.set (physReg m n).toFin v) : WritesBank s t m [(n, v)] := by
  refine ⟨?_, fun p hp => ?_⟩
  · simp [State.bankedReg, h]
  · have hne : (physReg m n).toNat ≠ p.val := by
      intro e; exact hp (n, v) (by simp) (Fin.ext e.symm)
    simp only [h]
    exact Vector.getElem_set_ne _ _ hne

/-! Data accesses that reach memory (20_memory.md R150, R174). -/

/-- What a direct access depends on. -/
theorem State.Direct.of_same {s t : State} {va : Word} {w : Width} (h : s.Direct va w) (h15 : t.cp15 = s.cp15)
    (hf : t.fillBuf = s.fillBuf) (hw : t.writeBuf = s.writeBuf) (hp : t.pendBuf = s.pendBuf) (hd : t.dcache = s.dcache)
    (hm : t.miniDCache = s.miniDCache) (hpl : t.platform = s.platform) (he : t.extAborts = s.extAborts) :
    t.Direct va w := by
  have hmva : t.mva va = s.mva va := by simp [State.mva, h15]
  have hbe : t.bigEndian = s.bigEndian := by simp [State.bigEndian, h15]
  refine ⟨?_, ?_, ?_, ?_, ?_, ?_, ?_, ?_⟩
  · have := h.mmuOff; simpa [State.mmuOn, h15] using this
  · rw [hf]; exact h.noFill
  · rw [hw]; exact h.noWrite
  · rw [hp]; exact h.noPend
  · rw [hmva]; have := h.noLine; simpa only [State.dataHit, hd, hm] using this
  · intro i hi; rw [hmva, hbe]; have := h.memory i hi; simpa only [State.regionAt, hpl] using this
  · intro i hi
    rw [hmva, hbe]
    have := h.answers i hi
    simpa only [State.busError, State.regionAt, hpl, he] using this
  · have := h.aligned; simpa [State.alignChecked, h15] using this

theorem State.mva_low (s : State) (va : Word) (i : Nat) (hi : i < 25) : (s.mva va).getLsbD i = va.getLsbD i := by
  unfold State.mva
  split
  · simp only [BitVec.getLsbD_append, hi, decide_true, BitVec.getLsbD_extractLsb', Bool.true_and, Nat.zero_add,
      if_true]
  · rfl

theorem State.misaligned_mva (s : State) (w : Width) (va : Word) : misaligned w (s.mva va) = misaligned w va := by
  cases w
  · rfl
  · simp only [misaligned, bitAt]; exact s.mva_low va 0 (by omega)
  · simp only [misaligned]
    have : field (s.mva va) 0 2 = field va 0 2 := by
      apply BitVec.eq_of_getLsbD_eq
      intro i hi
      simp only [field, BitVec.getLsbD_extractLsb', Nat.zero_add, s.mva_low va i (by omega)]
    rw [this]

/-- Memory that answers without an error is read and written as memory. -/
theorem State.allMemory_of {s : State} {pa : Word} {n : Nat}
    (h : ∀ i < n, s.regionAt (pa + BitVec.ofNat 32 i) = none) : s.allMemory pa n = true := by
  induction n with
  | zero => rfl
  | succ n ih => simp only [State.allMemory, h n (by omega), ih (fun i hi => h i (by omega)), Bool.and_true]; rfl

theorem State.anyError_of {s : State} {k : BusKind} {pa : Word} {n : Nat}
    (h : ∀ i < n, s.busError k (pa + BitVec.ofNat 32 i) = false) : s.anyError k pa n = false := by
  induction n with
  | zero => rfl
  | succ n ih => simp only [State.anyError, h n (by omega), ih (fun i hi => h i (by omega)), Bool.or_self]

/-- A read of the bus that only memory answers. -/
theorem State.busRead_memory {s : State} {k : BusKind} {look : Word → Byte} {pa : Word} {n : Nat}
    (hm : s.allMemory pa n = true) (he : s.anyError k pa n = false) :
    s.busRead k look pa n = { aborts := false, byte := fun i => look (pa + BitVec.ofNat 32 i), after := s } := by
  simp only [State.busRead, hm, he, Bool.not_false, Bool.and_self, if_true]

/-- The target of a direct access. -/
def flatTarget (mva : Word) : Target := { mva := mva, pa := mva, x := false, c := false, b := false }

theorem State.Direct.prepare {s : State} {va : Word} {w : Width} (h : s.Direct va w) (p write : Bool) :
    s.prepare va w p write = .ok (flatTarget (s.mva va)) (s.noteAccess w (s.mva va) write) := by
  have e15 : (s.noteAccess w (s.mva va) write).cp15 = s.cp15 := by
    unfold State.noteAccess State.noteMatch; split <;> rfl
  have ha : ((s.noteAccess w (s.mva va) write).alignChecked && misaligned w (s.mva va)) = false := by
    rw [s.misaligned_mva]
    have := h.aligned
    simp only [State.alignChecked, e15] at *
    cases hb : bitAt s.cp15.control 1
    · rfl
    · simp [this hb]
  have hm : (s.noteAccess w (s.mva va) write).mmuOn = false := by
    simpa [State.mmuOn, e15] using h.mmuOff
  simp only [State.prepare, State.translateData, ha, hm, Bool.false_eq_true, if_false]
  rfl

theorem State.settleFills_empty {s : State} (hf : s.fillBuf = []) : s.settleFills = s := by
  simp only [State.settleFills, hf, State.completeFills]

theorem State.drainAll_empty {s : State} (hf : s.fillBuf = []) (hw : s.writeBuf = []) : s.drainAll = s := by
  simp only [State.drainAll, State.settleFills_empty hf, State.drainWrites, hw, State.deliverAll]
  cases s; simp_all

/-- A direct access waits for nothing, finds no line, and is one that stalls until complete. -/
theorem State.Direct.reaches {s : State} {va : Word} {w : Width} (h : s.Direct va w) (write : Bool) :
    (s.count .dcacheAccess).fence (flatTarget (s.mva va)) write = s.count .dcacheAccess ∧
      (s.count .dcacheAccess).pendingFill (lineOf (flatTarget (s.mva va)).mva) = none ∧
      (s.count .dcacheAccess).settleLine (lineOf (flatTarget (s.mva va)).mva) = s.count .dcacheAccess ∧
      (s.count .dcacheAccess).dataHit (lineOf (flatTarget (s.mva va)).mva) = none := by
  have hf : (s.count .dcacheAccess).fillBuf = [] := h.noFill
  have hp : (s.count .dcacheAccess).pendBuf = [] := h.noPend
  refine ⟨?_, ?_, ?_, h.noLine⟩
  · have : (flatTarget (s.mva va)).fences write = true := by cases write <;> rfl
    simp only [State.fence, this, if_true]
    exact State.drainAll_empty hf h.noWrite
  · simp only [State.pendingFill, hf, List.find?_nil]
  · simp only [State.settleLine, hp, List.any_nil, Bool.false_eq_true, if_false]

/-- A load of a direct access (R150, R211). -/
theorem State.Direct.loadAt {s : State} {va : Word} {w : Width} (h : s.Direct va w) :
    ∃ s1, s.loadAt (flatTarget (s.mva va)) w = .ok (s.directValue va w, s1) ∧
      s1 = { s with cp14 := s1.cp14 } ∧ SameElsewhere s s1 := by
  refine ⟨(s.count .dcacheAccess).count .dcacheMiss, ?_, rfl, (SameElsewhere.count s _).trans (.count _ _)⟩
  obtain ⟨e1, e2, e3, e4⟩ := h.reaches false
  have e0 : s.attributeError (flatTarget (s.mva va)) = none := rfl
  have e5 : ((s.count .dcacheAccess).count .dcacheMiss).cacheable (flatTarget (s.mva va)) = false := rfl
  have e6 : (flatTarget (s.mva va)).stalls = true := rfl
  have hr : ((s.count .dcacheAccess).count .dcacheMiss).busRead .read ((s.count .dcacheAccess).count .dcacheMiss).dataByte
      ((flatTarget (s.mva va)).lanePa ((s.count .dcacheAccess).count .dcacheMiss).bigEndian w) w.bytes = _ :=
    State.busRead_memory (State.allMemory_of h.memory) (State.anyError_of (fun i hi => (h.answers i hi).1))
  have e7 : ∀ pa, ((s.count .dcacheAccess).count .dcacheMiss).dataByte pa = s.memByte pa := by
    intro pa
    have hn : ((s.count .dcacheAccess).count .dcacheMiss).writeBuf = [] := h.noWrite
    simp only [State.dataByte, hn, bufferedByte, Option.getD_none]; rfl
  simp only [State.loadAt, e0, e1, e2, e3, State.loadLookup, e4, State.loadMiss, e5, Bool.false_eq_true, if_false,
    State.loadMemory, e6, if_true, State.readNow, hr, e7]
  rfl

/-- Bytes put into a state that differs elsewhere. -/
theorem State.putBytes_mem_eq {s c : State} (pa v : Word) (n : Nat) (h : c.mem = s.mem) :
    c.putBytes pa v n = { c with mem := (s.putBytes pa v n).mem } := by
  induction n with
  | zero => simp only [State.putBytes, ← h]
  | succ n ih => simp only [State.putBytes, ih, State.putByte]

/-- Bytes stored in a state that differs elsewhere: memory and the record of old code change. -/
theorem State.storeBytes_eq {s c : State} (pa v : Word) (n : Nat) (h : c.mem = s.mem) :
    c.storeBytes pa v n = { c with mem := (s.putBytes pa v n).mem, stale := (c.storeBytes pa v n).stale } := by
  simp only [State.storeBytes, State.putBytes_mem_eq pa v n h]
  unfold State.noteOld
  split <;> rfl

theorem SameElsewhere.noteStore (s : State) (t : Target) (w : Width) : SameElsewhere s (s.noteStore t w) :=
  ⟨rfl, fun _ => ⟨rfl, rfl, rfl⟩, fun _ => ⟨rfl, rfl, rfl, rfl⟩⟩

/-- A store of a direct access (R150, R230). -/
theorem State.Direct.storeAt {s : State} {va : Word} {w : Width} (h : s.Direct va w) (v : Word) :
    ∃ s1, s.storeAt (flatTarget (s.mva va)) w v = .ok s1 ∧
      s1 = { s with
        mem := (s.putBytes (s.directLane va w) v w.bytes).mem
        cp14 := s1.cp14
        stale := s1.stale
        storing := s1.storing } ∧
      SameElsewhere s s1 := by
  obtain ⟨n, hn⟩ : ∃ n, n = s.noteStore (flatTarget (s.mva va)) w := ⟨_, rfl⟩
  have hd : n.Direct va w := h.of_same (by rw [hn]; rfl) (by rw [hn]; rfl) (by rw [hn]; rfl) (by rw [hn]; rfl)
    (by rw [hn]; rfl) (by rw [hn]; rfl) (by rw [hn]; rfl) (by rw [hn]; rfl)
  have hmva : n.mva va = s.mva va := by rw [hn]; rfl
  have hbig : n.bigEndian = s.bigEndian := by rw [hn]; rfl
  have hmem : n.mem = s.mem := by rw [hn]; rfl
  have hs : SameElsewhere s n := by rw [hn]; exact .noteStore s _ w
  refine ⟨((n.count .dcacheAccess).count .dcacheMiss).storeBytes (s.directLane va w) v w.bytes, ?_, ?_,
    ((hs.trans (.count _ _)).trans (.count _ _)).trans (.storeBytes _ _ _ _)⟩
  · obtain ⟨e1, e2, e3, e4⟩ := hd.reaches true
    rw [hmva] at e1 e2 e3 e4
    have e0 : s.attributeError (flatTarget (s.mva va)) = none := rfl
    have e5 : ((n.count .dcacheAccess).count .dcacheMiss).cacheable (flatTarget (s.mva va)) = false := rfl
    have e6 : (flatTarget (s.mva va)).stalls = true := rfl
    have hm : ((n.count .dcacheAccess).count .dcacheMiss).allMemory
        ((flatTarget (s.mva va)).lanePa s.bigEndian w) w.bytes = true :=
      State.allMemory_of (by rw [← hbig, ← hmva]; exact hd.memory)
    have he : ((n.count .dcacheAccess).count .dcacheMiss).anyError .write
        ((flatTarget (s.mva va)).lanePa s.bigEndian w) w.bytes = false :=
      State.anyError_of (by rw [← hbig, ← hmva]; exact fun i hi => (hd.answers i hi).2)
    have hb2 : ((n.count .dcacheAccess).count .dcacheMiss).bigEndian = s.bigEndian := hbig
    simp only [State.storeAt, ← hn, e0, e1, e2, e3, State.storeLookup, e4, State.storeMiss, e5, Bool.false_and,
      Bool.false_eq_true, if_false, State.storeMemory, e6, if_true, State.storeNow, hb2, hm, he, Bool.not_false,
      Bool.and_self]
    rfl
  · rw [State.storeBytes_eq (s := s) (c := (n.count .dcacheAccess).count .dcacheMiss) _ _ _ hmem, hn]
    rfl

/-- What the access itself changes, in a state where it reaches memory: the counters and a data breakpoint. -/
structure OnlyNoted (s t : State) : Prop where
  eq : t = { s with cp14 := t.cp14, pending := t.pending }
  elsewhere : SameElsewhere s t

theorem OnlyNoted.noteAccess (s : State) (w : Width) (mva : Word) (store : Bool) :
    OnlyNoted s (s.noteAccess w mva store) := by
  refine ⟨?_, .noteAccess s w mva store⟩
  unfold State.noteAccess State.noteMatch; split <;> rfl

theorem OnlyNoted.trans {s t u : State} (h : OnlyNoted s t) (k : OnlyNoted t u) : OnlyNoted s u := by
  refine ⟨?_, h.elsewhere.trans k.elsewhere⟩
  have a := k.eq
  rw [h.eq] at a
  exact a

theorem OnlyNoted.core {s t : State} (h : OnlyNoted s t) : t.core = s.core := by rw [h.eq]

theorem OnlyNoted.mem {s t : State} (h : OnlyNoted s t) : t.mem = s.mem := by rw [h.eq]

theorem OnlyNoted.btb {s t : State} (h : OnlyNoted s t) : t.btb = s.btb := by rw [h.eq]

theorem OnlyNoted.direct {s t : State} (h : OnlyNoted s t) {va : Word} {w : Width} (d : s.Direct va w) : t.Direct va w := by
  refine d.of_same ?_ ?_ ?_ ?_ ?_ ?_ ?_ ?_ <;> rw [h.eq]

theorem OnlyNoted.mva {s t : State} (h : OnlyNoted s t) (va : Word) : t.mva va = s.mva va := by rw [h.eq]; rfl

theorem OnlyNoted.directValue {s t : State} (h : OnlyNoted s t) (va : Word) (w : Width) :
    t.directValue va w = s.directValue va w := by rw [h.eq]; rfl

/-- `MemRead` where the access reaches memory (R150): the bytes of memory, and nothing else but what it notes. -/
theorem State.Direct.memRead {s : State} {va : Word} {w : Width} (h : s.Direct va w) (p : Bool) :
    ∃ s1, s.memRead va w p = .ok (s.directValue va w) s1 ∧ OnlyNoted s s1 := by
  have hn := OnlyNoted.noteAccess s w (s.mva va) false
  obtain ⟨s1, h1, h2, h3⟩ := (hn.direct h).loadAt
  rw [hn.mva, hn.directValue] at h1
  refine ⟨s1, ?_, hn.trans ⟨?_, h3⟩⟩
  · simp only [State.memRead, h.prepare, h1]
  · rw [h2]

/-- `MemWrite` where the access reaches memory (R150): the bytes of memory are put, and nothing else changes but what it
notes. -/
theorem State.Direct.memWrite {s : State} {va : Word} {w : Width} (h : s.Direct va w) (v : Word) (p : Bool) :
    ∃ s1, s.memWrite va w v p = .ok () s1 ∧ SameElsewhere s s1 ∧
      s1 = { s with
        mem := (s.putBytes (s.directLane va w) v w.bytes).mem
        cp14 := s1.cp14
        pending := s1.pending
        stale := s1.stale
        storing := s1.storing } := by
  have hn := OnlyNoted.noteAccess s w (s.mva va) true
  obtain ⟨s1, h1, h2, h3⟩ := (hn.direct h).storeAt v
  rw [hn.mva] at h1
  have hlane : (s.noteAccess w (s.mva va) true).directLane va w = s.directLane va w := by rw [hn.eq]; rfl
  refine ⟨s1, ?_, hn.elsewhere.trans h3, ?_⟩
  · simp only [State.memWrite, h.prepare, h1]
  · have hmem : ((s.noteAccess w (s.mva va) true).putBytes (s.directLane va w) v w.bytes).mem =
        (s.putBytes (s.directLane va w) v w.bytes).mem := by
      rw [State.putBytes_mem_eq (s := s) _ _ _ (by rw [hn.eq])]
    rw [h2, hlane, hmem]
    rw [hn.eq]

end Sys2Proof.Machine
end

