-- ==== Sys2Proof/Laws/Nop.lean ====
section
/-! SUPPORT. The NOPs (00_scope.md R18, 30_encoding.md R296(d)): an instruction that writes nothing only goes on, and what a NOP
after an access that aborted in Special Debug State leaves (61_debug_and_jtag.md R771). -/

namespace Sys2Proof.Machine

/-- Writing a register's own value back changes nothing. -/
theorem State.setReg_reg (s : State) (n : Reg) : s.setReg n (s.reg n) = s := by
  unfold State.setReg State.reg
  split
  · rfl
  · simp [State.setBankedReg, State.bankedReg]

/-- Clearing no bit of a word. -/
theorem and_not_zero (w : Word) : w &&& ~~~0 = w := by
  have e : ~~~(0 : Word) = BitVec.allOnes 32 := by decide
  rw [e, BitVec.and_allOnes]

/-- A merge under an empty mask. -/
theorem merge_zero (w v : Word) : merge 0 w v = w := by
  rw [merge, and_not_zero]
  simp

/-- Writing a saved status register's own value back changes nothing. -/
theorem State.setSpsrOf_self (s : State) {m : Mode} {w : Word} (h : s.spsrOf m = some w) : s.setSpsrOf m w = s := by
  unfold State.spsrOf at h
  unfold State.setSpsrOf
  cases hm : m.spsrIndex with
  | none => rfl
  | some i => simp [hm] at h; simp [← h]

/-- MSR with an empty field mask writes nothing (45_arm_branch_status.md R551). -/
theorem State.msr_empty {s t : State} {r : Bool} {v : Word} (h : s.msr r 0 v = .next t) : s.advance = .next t := by
  cases r with
  | false =>
    have e1 : psrMask 0 &&& 0xFFFFFFDF = 0 := by decide
    have e2 : psrMask 0 &&& 0xFF000000 = 0 := by decide
    have e3 : bitAt (0 : BitVec 4) 0 = false := by decide
    have e4 : s.setCpsr s.core.cpsr = s := rfl
    simp only [State.msr, State.msrCpsr, e1, e2, e3, e4, merge_zero, Bool.false_eq_true, if_false] at h
    split at h <;> exact h
  | true =>
    have e : psrMask 0 = 0 := by decide
    simp only [State.msr, State.msrSpsr, e, if_true, merge_zero] at h
    split at h
    · cases h
    · rename_i w hw
      rwa [State.setSpsrOf_self s hw] at h

/-- A shifter operand that is 0 whatever the registers hold. -/
theorem State.shifter_zeroOperand (s : State) {op2 : ShifterOp} (h : zeroOperand op2 = true) : (s.shifter op2).1 = 0 := by
  cases op2 with
  | imm rotate immed =>
    obtain rfl : immed = 0 := by simpa [zeroOperand] using h
    simp only [State.shifter, rotatedImm]
    revert rotate; decide
  | shiftImm amount kind rm =>
    obtain ⟨rfl, rfl⟩ : amount = 0 ∧ kind = .lsr := by simpa [zeroOperand] using h
    exact BitVec.ushiftRight_eq_zero (Nat.le_refl 32)
  | shiftReg rs kind rm => cases h

/-- A shifter operand that is a register as it stands. -/
theorem State.shifter_plain (s : State) (r : Reg) : (s.shifter (.shiftImm 0 .lsl r)).1 = s.reg r := by
  simp [State.shifter, immShift, shiftLsl]

/-- A data-processing instruction without S whose result is what its destination holds writes nothing. -/
theorem State.dataProc_self {s t : State} {c : Cond} {rn rd : Reg} {op2 : ShifterOp} {alu : Word → Word → Bool → AluOut}
    (h : s.dataProc c false rn rd op2 alu = .next t) (hd : rd ≠ 15)
    (hv : (alu (s.reg rn) (s.shifter op2).1 (s.shifter op2).2).value = s.reg rd) : s.advance = .next t := by
  unfold State.dataProc at h
  split at h
  · split at h
    · cases h
    · simpa only [State.dataResult, if_neg hd, hv, State.setReg_reg, Bool.false_eq_true, if_false] using h
  · exact h

/-- What an instruction that writes nothing does: the program goes on. -/
theorem writesNothing_next {i : Instr} {s t : State} (h : writesNothing i = true) (he : exec i s = .next t) :
    s.advance = .next t := by
  have hx : ∀ x : Word, (subtract x 0).value = x := fun x => by
    apply BitVec.eq_of_toNat_eq
    simp [subtract, addWithCarry]
    omega
  unfold writesNothing at h
  split at h <;> simp only [Bool.and_eq_true, Bool.or_eq_true, beq_iff_eq, bne_iff_ne, Bool.false_eq_true] at h
  case h_1 => -- ADD
    obtain ⟨⟨rfl, hd⟩, hz⟩ := h
    simp only [exec, execAdd] at he
    exact State.dataProc_self he hd (by simp [State.shifter_zeroOperand s hz, addWithCarry])
  case h_2 => -- SUB
    obtain ⟨⟨rfl, hd⟩, hz⟩ := h
    simp only [exec, execSub] at he
    exact State.dataProc_self he hd (by rw [State.shifter_zeroOperand s hz, hx])
  case h_3 => -- EOR
    obtain ⟨⟨rfl, hd⟩, hz⟩ := h
    simp only [exec, execEor] at he
    exact State.dataProc_self he hd (by simp [State.shifter_zeroOperand s hz, logical])
  case h_4 => -- BIC
    obtain ⟨⟨rfl, hd⟩, hz⟩ := h
    simp only [exec, execBic] at he
    exact State.dataProc_self he hd (by rw [State.shifter_zeroOperand s hz]; exact and_not_zero _)
  case h_5 => -- ORR
    simp only [exec, execOrr] at he
    obtain ⟨⟨rfl, hd⟩, hz | rfl⟩ := h
    · exact State.dataProc_self he hd (by simp [State.shifter_zeroOperand s hz, logical])
    · exact State.dataProc_self he hd (by simp only [State.shifter_plain, logical, BitVec.or_self])
  case h_6 => -- AND
    obtain ⟨⟨rfl, hd⟩, rfl⟩ := h
    simp only [exec, execAnd] at he
    exact State.dataProc_self he hd (by simp only [State.shifter_plain, logical, BitVec.and_self])
  case h_7 => -- MOV
    obtain ⟨hd, rfl⟩ := h
    simp only [exec, execMov] at he
    exact State.dataProc_self he hd (by simp only [State.shifter_plain, logical])
  case h_8 => -- MSR, a register
    subst h
    simp only [exec, execMsrReg] at he
    split at he
    · split at he
      · cases he
      · exact State.msr_empty he
    · exact he
  case h_9 => -- MSR, an immediate
    subst h
    simp only [exec, execMsrImm] at he
    split at he
    · exact State.msr_empty he
    · exact he
  case h_10 => -- MOV(3)
    obtain ⟨e, hd⟩ := h
    simpa only [exec, execTMovHigh, if_neg hd, ← e, State.setReg_reg] using he
  case h_11 => -- ADD(7)
    subst h
    simpa [exec, execTIncSp, State.setReg_reg] using he
  case h_12 => -- SUB(4)
    subst h
    simpa [exec, execTDecSp, State.setReg_reg] using he
/-- What settling an aborted access of Special Debug State does: a NOP leaves every register, and any other instruction finds
free values in the registers that the access writes (61_debug_and_jtag.md R771, 93 U41). -/
theorem State.settleShadow_eq (s : State) (i : Instr) :
    s.settleShadow i = { (if s.sdsShadow = 0 ∨ s.isNop i then s else s.freeRegs s.mode (listRegs s.sdsShadow)) with
      sdsShadow := 0 } := by
  unfold State.settleShadow
  by_cases h : s.sdsShadow = 0
  · rw [if_pos h, if_pos (.inl h)]
    cases s
    simpa using h
  · simp only [h, if_false, false_or]

end Sys2Proof.Machine
end

