-- ==== Sys2Proof/Laws/PerInstr.lean ====
section
/-! SUPPORT. The families of statements that are made per instruction, with one lemma for each constructor. -/

namespace Sys2Proof.Laws

/-- The rows of the opcode table whose class is `thumb16` (30_encoding.md R312). -/
def thumbRow : Instr → Bool
  | .pld _ _ _ _ | .blxImm _ _ | .undefUncond _ | .bkpt _ _ | .undefBkptCond _ _ _ | .mrs _ _ _
  | .msrReg _ _ _ _ | .bx _ _ | .blxReg _ _ | .clz _ _ _ | .qadd _ _ _ _ | .qsub _ _ _ _ | .qdadd _ _ _ _
  | .qdsub _ _ _ _ | .smlaxy _ _ _ _ _ _ _ | .smlawy _ _ _ _ _ _ | .smulwy _ _ _ _ _ _ | .smlalxy _ _ _ _ _ _ _
  | .smulxy _ _ _ _ _ _ _ | .mul _ _ _ _ _ _ | .mla _ _ _ _ _ _ | .umull _ _ _ _ _ _ | .umlal _ _ _ _ _ _
  | .smull _ _ _ _ _ _ | .smlal _ _ _ _ _ _ | .swp _ _ _ _ | .swpb _ _ _ _ | .strh _ _ _ _ _ _
  | .ldrd _ _ _ _ _ _ | .strd _ _ _ _ _ _ | .ldrh _ _ _ _ _ _ | .ldrsb _ _ _ _ _ _ | .ldrsh _ _ _ _ _ _
  | .undefMulSpace _ _ | .undefArch _ _ | .mia _ _ _ | .miaph _ _ _ | .miabb _ _ _ | .miabt _ _ _
  | .miatb _ _ _ | .miatt _ _ _ | .mar _ _ _ | .mra _ _ _ | .cp0TransferOther _ _ _ _ _
  | .cp0Other _ _ _ _ _ _ _ _ | .mcrr _ _ _ _ _ _ | .mrrc _ _ _ _ _ _ | .undefLdcStc _ _ _
  | .ldc _ _ _ _ _ _ _ _ _ | .stc _ _ _ _ _ _ _ _ _ | .cdp _ _ _ _ _ _ _ | .invIDCacheBtb _ _
  | .invICacheBtb _ _ | .invICacheLine _ _ | .invDCache _ _ | .invDCacheLine _ _ | .cleanDCacheLine _ _
  | .drainWriteBuffer _ _ | .invBtb _ _ | .allocDCacheLine _ _ | .invIDTlb _ _ | .invITlb _ _
  | .invITlbEntry _ _ | .invDTlb _ _ | .invDTlbEntry _ _ | .lockICacheLine _ _ | .unlockICache _ _
  | .readDCacheLock _ _ | .writeDCacheLock _ _ | .unlockDCache _ _ | .lockITlbEntry _ _ | .lockDTlbEntry _ _
  | .unlockITlb _ _ | .unlockDTlb _ _ | .mcr _ _ _ _ _ _ _ | .mrc _ _ _ _ _ _ _ | .swi _ _ | .b _ _ | .bl _ _
  | .ldm _ _ _ _ _ | .ldmUser _ _ _ _ _ | .ldmRet _ _ _ _ _ | .stm _ _ _ _ _ | .stmUser _ _ _ _ _
  | .ldrt _ _ _ _ _ | .ldrbt _ _ _ _ _ | .strt _ _ _ _ _ | .strbt _ _ _ _ _ | .ldr _ _ _ _ _ _
  | .ldrb _ _ _ _ _ _ | .str _ _ _ _ _ _ | .strb _ _ _ _ _ _ | .msrImm _ _ _ _ _ | .and _ _ _ _ _
  | .eor _ _ _ _ _ | .sub _ _ _ _ _ | .rsb _ _ _ _ _ | .add _ _ _ _ _ | .adc _ _ _ _ _ | .sbc _ _ _ _ _
  | .rsc _ _ _ _ _ | .tst _ _ _ _ | .teq _ _ _ _ | .cmp _ _ _ _ | .cmn _ _ _ _ | .orr _ _ _ _ _
  | .mov _ _ _ _ _ | .bic _ _ _ _ _ | .mvn _ _ _ _ _ | .undefRest _ _ => false
  | .tBx _ _ | .tBlxReg _ _ | .tLslImm _ _ _ | .tLsrImm _ _ _ | .tAsrImm _ _ _ | .tAddReg _ _ _
  | .tSubReg _ _ _ | .tAddImm3 _ _ _ | .tSubImm3 _ _ _ | .tMovImm _ _ | .tCmpImm _ _ | .tAddImm8 _ _
  | .tSubImm8 _ _ | .tAnd _ _ | .tEor _ _ | .tLslReg _ _ | .tLsrReg _ _ | .tAsrReg _ _ | .tAdc _ _ | .tSbc _ _
  | .tRor _ _ | .tTst _ _ | .tNeg _ _ | .tCmpReg _ _ | .tCmn _ _ | .tOrr _ _ | .tMul _ _ | .tBic _ _
  | .tMvn _ _ | .tAddHigh _ _ _ _ | .tCmpHigh _ _ _ _ | .tMovHigh _ _ _ _ | .tLdrPc _ _ | .tStrReg _ _ _
  | .tStrhReg _ _ _ | .tStrbReg _ _ _ | .tLdrsb _ _ _ | .tLdrReg _ _ _ | .tLdrhReg _ _ _ | .tLdrbReg _ _ _
  | .tLdrsh _ _ _ | .tStrImm _ _ _ | .tLdrImm _ _ _ | .tStrbImm _ _ _ | .tLdrbImm _ _ _ | .tStrhImm _ _ _
  | .tLdrhImm _ _ _ | .tStrSp _ _ | .tLdrSp _ _ | .tAddPc _ _ | .tAddSp _ _ | .tIncSp _ | .tDecSp _
  | .tPush _ _ | .tPop _ _ | .tBkpt _ | .tUndefMisc _ | .tStmia _ _ | .tLdmia _ _ | .tUndefDE _ | .tSwi _
  | .tBCond _ _ | .tB _ | .tUndefBlx _ | .tBlxSuffix _ | .tBlHead _ | .tBlSuffix _ | .tUndefRest _ => true

/-- A code is a Thumb halfword. -/
def isHalfword : Code → Bool
  | .arm _ => false
  | .thumb _ => true

/-- The code of an instruction is a Thumb halfword exactly for a Thumb row of the table (30_encoding.md R280, R300). -/
def CodeSize.Statement (i : Instr) : Prop := isHalfword (encode i) = thumbRow i

theorem CodeSize.pld x0 x1 x2 x3 : CodeSize.Statement (.pld x0 x1 x2 x3) := rfl
theorem CodeSize.blxImm x0 x1 : CodeSize.Statement (.blxImm x0 x1) := rfl
theorem CodeSize.undefUncond x0 : CodeSize.Statement (.undefUncond x0) := rfl
theorem CodeSize.bkpt x0 x1 : CodeSize.Statement (.bkpt x0 x1) := rfl
theorem CodeSize.undefBkptCond x0 x1 x2 : CodeSize.Statement (.undefBkptCond x0 x1 x2) := rfl
theorem CodeSize.mrs x0 x1 x2 : CodeSize.Statement (.mrs x0 x1 x2) := rfl
theorem CodeSize.msrReg x0 x1 x2 x3 : CodeSize.Statement (.msrReg x0 x1 x2 x3) := rfl
theorem CodeSize.bx x0 x1 : CodeSize.Statement (.bx x0 x1) := rfl
theorem CodeSize.blxReg x0 x1 : CodeSize.Statement (.blxReg x0 x1) := rfl
theorem CodeSize.clz x0 x1 x2 : CodeSize.Statement (.clz x0 x1 x2) := rfl
theorem CodeSize.qadd x0 x1 x2 x3 : CodeSize.Statement (.qadd x0 x1 x2 x3) := rfl
theorem CodeSize.qsub x0 x1 x2 x3 : CodeSize.Statement (.qsub x0 x1 x2 x3) := rfl
theorem CodeSize.qdadd x0 x1 x2 x3 : CodeSize.Statement (.qdadd x0 x1 x2 x3) := rfl
theorem CodeSize.qdsub x0 x1 x2 x3 : CodeSize.Statement (.qdsub x0 x1 x2 x3) := rfl
theorem CodeSize.smlaxy x0 x1 x2 x3 x4 x5 x6 : CodeSize.Statement (.smlaxy x0 x1 x2 x3 x4 x5 x6) := rfl
theorem CodeSize.smlawy x0 x1 x2 x3 x4 x5 : CodeSize.Statement (.smlawy x0 x1 x2 x3 x4 x5) := rfl
theorem CodeSize.smulwy x0 x1 x2 x3 x4 x5 : CodeSize.Statement (.smulwy x0 x1 x2 x3 x4 x5) := rfl
theorem CodeSize.smlalxy x0 x1 x2 x3 x4 x5 x6 : CodeSize.Statement (.smlalxy x0 x1 x2 x3 x4 x5 x6) := rfl
theorem CodeSize.smulxy x0 x1 x2 x3 x4 x5 x6 : CodeSize.Statement (.smulxy x0 x1 x2 x3 x4 x5 x6) := rfl
theorem CodeSize.mul x0 x1 x2 x3 x4 x5 : CodeSize.Statement (.mul x0 x1 x2 x3 x4 x5) := rfl
theorem CodeSize.mla x0 x1 x2 x3 x4 x5 : CodeSize.Statement (.mla x0 x1 x2 x3 x4 x5) := rfl
theorem CodeSize.umull x0 x1 x2 x3 x4 x5 : CodeSize.Statement (.umull x0 x1 x2 x3 x4 x5) := rfl
theorem CodeSize.umlal x0 x1 x2 x3 x4 x5 : CodeSize.Statement (.umlal x0 x1 x2 x3 x4 x5) := rfl
theorem CodeSize.smull x0 x1 x2 x3 x4 x5 : CodeSize.Statement (.smull x0 x1 x2 x3 x4 x5) := rfl
theorem CodeSize.smlal x0 x1 x2 x3 x4 x5 : CodeSize.Statement (.smlal x0 x1 x2 x3 x4 x5) := rfl
theorem CodeSize.swp x0 x1 x2 x3 : CodeSize.Statement (.swp x0 x1 x2 x3) := rfl
theorem CodeSize.swpb x0 x1 x2 x3 : CodeSize.Statement (.swpb x0 x1 x2 x3) := rfl
theorem CodeSize.strh x0 x1 x2 x3 x4 x5 : CodeSize.Statement (.strh x0 x1 x2 x3 x4 x5) := rfl
theorem CodeSize.ldrd x0 x1 x2 x3 x4 x5 : CodeSize.Statement (.ldrd x0 x1 x2 x3 x4 x5) := rfl
theorem CodeSize.strd x0 x1 x2 x3 x4 x5 : CodeSize.Statement (.strd x0 x1 x2 x3 x4 x5) := rfl
theorem CodeSize.ldrh x0 x1 x2 x3 x4 x5 : CodeSize.Statement (.ldrh x0 x1 x2 x3 x4 x5) := rfl
theorem CodeSize.ldrsb x0 x1 x2 x3 x4 x5 : CodeSize.Statement (.ldrsb x0 x1 x2 x3 x4 x5) := rfl
theorem CodeSize.ldrsh x0 x1 x2 x3 x4 x5 : CodeSize.Statement (.ldrsh x0 x1 x2 x3 x4 x5) := rfl
theorem CodeSize.undefMulSpace x0 x1 : CodeSize.Statement (.undefMulSpace x0 x1) := rfl
theorem CodeSize.undefArch x0 x1 : CodeSize.Statement (.undefArch x0 x1) := rfl
theorem CodeSize.mia x0 x1 x2 : CodeSize.Statement (.mia x0 x1 x2) := rfl
theorem CodeSize.miaph x0 x1 x2 : CodeSize.Statement (.miaph x0 x1 x2) := rfl
theorem CodeSize.miabb x0 x1 x2 : CodeSize.Statement (.miabb x0 x1 x2) := rfl
theorem CodeSize.miabt x0 x1 x2 : CodeSize.Statement (.miabt x0 x1 x2) := rfl
theorem CodeSize.miatb x0 x1 x2 : CodeSize.Statement (.miatb x0 x1 x2) := rfl
theorem CodeSize.miatt x0 x1 x2 : CodeSize.Statement (.miatt x0 x1 x2) := rfl
theorem CodeSize.mar x0 x1 x2 : CodeSize.Statement (.mar x0 x1 x2) := rfl
theorem CodeSize.mra x0 x1 x2 : CodeSize.Statement (.mra x0 x1 x2) := rfl
theorem CodeSize.cp0TransferOther x0 x1 x2 x3 x4 : CodeSize.Statement (.cp0TransferOther x0 x1 x2 x3 x4) := rfl
theorem CodeSize.cp0Other x0 x1 x2 x3 x4 x5 x6 x7 : CodeSize.Statement (.cp0Other x0 x1 x2 x3 x4 x5 x6 x7) := rfl
theorem CodeSize.mcrr x0 x1 x2 x3 x4 x5 : CodeSize.Statement (.mcrr x0 x1 x2 x3 x4 x5) := rfl
theorem CodeSize.mrrc x0 x1 x2 x3 x4 x5 : CodeSize.Statement (.mrrc x0 x1 x2 x3 x4 x5) := rfl
theorem CodeSize.undefLdcStc x0 x1 x2 : CodeSize.Statement (.undefLdcStc x0 x1 x2) := rfl
theorem CodeSize.ldc x0 x1 x2 x3 x4 x5 x6 x7 x8 : CodeSize.Statement (.ldc x0 x1 x2 x3 x4 x5 x6 x7 x8) := rfl
theorem CodeSize.stc x0 x1 x2 x3 x4 x5 x6 x7 x8 : CodeSize.Statement (.stc x0 x1 x2 x3 x4 x5 x6 x7 x8) := rfl
theorem CodeSize.cdp x0 x1 x2 x3 x4 x5 x6 : CodeSize.Statement (.cdp x0 x1 x2 x3 x4 x5 x6) := rfl
theorem CodeSize.invIDCacheBtb x0 x1 : CodeSize.Statement (.invIDCacheBtb x0 x1) := rfl
theorem CodeSize.invICacheBtb x0 x1 : CodeSize.Statement (.invICacheBtb x0 x1) := rfl
theorem CodeSize.invICacheLine x0 x1 : CodeSize.Statement (.invICacheLine x0 x1) := rfl
theorem CodeSize.invDCache x0 x1 : CodeSize.Statement (.invDCache x0 x1) := rfl
theorem CodeSize.invDCacheLine x0 x1 : CodeSize.Statement (.invDCacheLine x0 x1) := rfl
theorem CodeSize.cleanDCacheLine x0 x1 : CodeSize.Statement (.cleanDCacheLine x0 x1) := rfl
theorem CodeSize.drainWriteBuffer x0 x1 : CodeSize.Statement (.drainWriteBuffer x0 x1) := rfl
theorem CodeSize.invBtb x0 x1 : CodeSize.Statement (.invBtb x0 x1) := rfl
theorem CodeSize.allocDCacheLine x0 x1 : CodeSize.Statement (.allocDCacheLine x0 x1) := rfl
theorem CodeSize.invIDTlb x0 x1 : CodeSize.Statement (.invIDTlb x0 x1) := rfl
theorem CodeSize.invITlb x0 x1 : CodeSize.Statement (.invITlb x0 x1) := rfl
theorem CodeSize.invITlbEntry x0 x1 : CodeSize.Statement (.invITlbEntry x0 x1) := rfl
theorem CodeSize.invDTlb x0 x1 : CodeSize.Statement (.invDTlb x0 x1) := rfl
theorem CodeSize.invDTlbEntry x0 x1 : CodeSize.Statement (.invDTlbEntry x0 x1) := rfl
theorem CodeSize.lockICacheLine x0 x1 : CodeSize.Statement (.lockICacheLine x0 x1) := rfl
theorem CodeSize.unlockICache x0 x1 : CodeSize.Statement (.unlockICache x0 x1) := rfl
theorem CodeSize.readDCacheLock x0 x1 : CodeSize.Statement (.readDCacheLock x0 x1) := rfl
theorem CodeSize.writeDCacheLock x0 x1 : CodeSize.Statement (.writeDCacheLock x0 x1) := rfl
theorem CodeSize.unlockDCache x0 x1 : CodeSize.Statement (.unlockDCache x0 x1) := rfl
theorem CodeSize.lockITlbEntry x0 x1 : CodeSize.Statement (.lockITlbEntry x0 x1) := rfl
theorem CodeSize.lockDTlbEntry x0 x1 : CodeSize.Statement (.lockDTlbEntry x0 x1) := rfl
theorem CodeSize.unlockITlb x0 x1 : CodeSize.Statement (.unlockITlb x0 x1) := rfl
theorem CodeSize.unlockDTlb x0 x1 : CodeSize.Statement (.unlockDTlb x0 x1) := rfl
theorem CodeSize.mcr x0 x1 x2 x3 x4 x5 x6 : CodeSize.Statement (.mcr x0 x1 x2 x3 x4 x5 x6) := rfl
theorem CodeSize.mrc x0 x1 x2 x3 x4 x5 x6 : CodeSize.Statement (.mrc x0 x1 x2 x3 x4 x5 x6) := rfl
theorem CodeSize.swi x0 x1 : CodeSize.Statement (.swi x0 x1) := rfl
theorem CodeSize.b x0 x1 : CodeSize.Statement (.b x0 x1) := rfl
theorem CodeSize.bl x0 x1 : CodeSize.Statement (.bl x0 x1) := rfl
theorem CodeSize.ldm x0 x1 x2 x3 x4 : CodeSize.Statement (.ldm x0 x1 x2 x3 x4) := rfl
theorem CodeSize.ldmUser x0 x1 x2 x3 x4 : CodeSize.Statement (.ldmUser x0 x1 x2 x3 x4) := rfl
theorem CodeSize.ldmRet x0 x1 x2 x3 x4 : CodeSize.Statement (.ldmRet x0 x1 x2 x3 x4) := rfl
theorem CodeSize.stm x0 x1 x2 x3 x4 : CodeSize.Statement (.stm x0 x1 x2 x3 x4) := rfl
theorem CodeSize.stmUser x0 x1 x2 x3 x4 : CodeSize.Statement (.stmUser x0 x1 x2 x3 x4) := rfl
theorem CodeSize.ldrt x0 x1 x2 x3 x4 : CodeSize.Statement (.ldrt x0 x1 x2 x3 x4) := rfl
theorem CodeSize.ldrbt x0 x1 x2 x3 x4 : CodeSize.Statement (.ldrbt x0 x1 x2 x3 x4) := rfl
theorem CodeSize.strt x0 x1 x2 x3 x4 : CodeSize.Statement (.strt x0 x1 x2 x3 x4) := rfl
theorem CodeSize.strbt x0 x1 x2 x3 x4 : CodeSize.Statement (.strbt x0 x1 x2 x3 x4) := rfl
theorem CodeSize.ldr x0 x1 x2 x3 x4 x5 : CodeSize.Statement (.ldr x0 x1 x2 x3 x4 x5) := rfl
theorem CodeSize.ldrb x0 x1 x2 x3 x4 x5 : CodeSize.Statement (.ldrb x0 x1 x2 x3 x4 x5) := rfl
theorem CodeSize.str x0 x1 x2 x3 x4 x5 : CodeSize.Statement (.str x0 x1 x2 x3 x4 x5) := rfl
theorem CodeSize.strb x0 x1 x2 x3 x4 x5 : CodeSize.Statement (.strb x0 x1 x2 x3 x4 x5) := rfl
theorem CodeSize.msrImm x0 x1 x2 x3 x4 : CodeSize.Statement (.msrImm x0 x1 x2 x3 x4) := rfl
theorem CodeSize.and x0 x1 x2 x3 x4 : CodeSize.Statement (.and x0 x1 x2 x3 x4) := rfl
theorem CodeSize.eor x0 x1 x2 x3 x4 : CodeSize.Statement (.eor x0 x1 x2 x3 x4) := rfl
theorem CodeSize.sub x0 x1 x2 x3 x4 : CodeSize.Statement (.sub x0 x1 x2 x3 x4) := rfl
theorem CodeSize.rsb x0 x1 x2 x3 x4 : CodeSize.Statement (.rsb x0 x1 x2 x3 x4) := rfl
theorem CodeSize.add x0 x1 x2 x3 x4 : CodeSize.Statement (.add x0 x1 x2 x3 x4) := rfl
theorem CodeSize.adc x0 x1 x2 x3 x4 : CodeSize.Statement (.adc x0 x1 x2 x3 x4) := rfl
theorem CodeSize.sbc x0 x1 x2 x3 x4 : CodeSize.Statement (.sbc x0 x1 x2 x3 x4) := rfl
theorem CodeSize.rsc x0 x1 x2 x3 x4 : CodeSize.Statement (.rsc x0 x1 x2 x3 x4) := rfl
theorem CodeSize.tst x0 x1 x2 x3 : CodeSize.Statement (.tst x0 x1 x2 x3) := rfl
theorem CodeSize.teq x0 x1 x2 x3 : CodeSize.Statement (.teq x0 x1 x2 x3) := rfl
theorem CodeSize.cmp x0 x1 x2 x3 : CodeSize.Statement (.cmp x0 x1 x2 x3) := rfl
theorem CodeSize.cmn x0 x1 x2 x3 : CodeSize.Statement (.cmn x0 x1 x2 x3) := rfl
theorem CodeSize.orr x0 x1 x2 x3 x4 : CodeSize.Statement (.orr x0 x1 x2 x3 x4) := rfl
theorem CodeSize.mov x0 x1 x2 x3 x4 : CodeSize.Statement (.mov x0 x1 x2 x3 x4) := rfl
theorem CodeSize.bic x0 x1 x2 x3 x4 : CodeSize.Statement (.bic x0 x1 x2 x3 x4) := rfl
theorem CodeSize.mvn x0 x1 x2 x3 x4 : CodeSize.Statement (.mvn x0 x1 x2 x3 x4) := rfl
theorem CodeSize.undefRest x0 x1 : CodeSize.Statement (.undefRest x0 x1) := rfl
theorem CodeSize.tBx x0 x1 : CodeSize.Statement (.tBx x0 x1) := rfl
theorem CodeSize.tBlxReg x0 x1 : CodeSize.Statement (.tBlxReg x0 x1) := rfl
theorem CodeSize.tLslImm x0 x1 x2 : CodeSize.Statement (.tLslImm x0 x1 x2) := rfl
theorem CodeSize.tLsrImm x0 x1 x2 : CodeSize.Statement (.tLsrImm x0 x1 x2) := rfl
theorem CodeSize.tAsrImm x0 x1 x2 : CodeSize.Statement (.tAsrImm x0 x1 x2) := rfl
theorem CodeSize.tAddReg x0 x1 x2 : CodeSize.Statement (.tAddReg x0 x1 x2) := rfl
theorem CodeSize.tSubReg x0 x1 x2 : CodeSize.Statement (.tSubReg x0 x1 x2) := rfl
theorem CodeSize.tAddImm3 x0 x1 x2 : CodeSize.Statement (.tAddImm3 x0 x1 x2) := rfl
theorem CodeSize.tSubImm3 x0 x1 x2 : CodeSize.Statement (.tSubImm3 x0 x1 x2) := rfl
theorem CodeSize.tMovImm x0 x1 : CodeSize.Statement (.tMovImm x0 x1) := rfl
theorem CodeSize.tCmpImm x0 x1 : CodeSize.Statement (.tCmpImm x0 x1) := rfl
theorem CodeSize.tAddImm8 x0 x1 : CodeSize.Statement (.tAddImm8 x0 x1) := rfl
theorem CodeSize.tSubImm8 x0 x1 : CodeSize.Statement (.tSubImm8 x0 x1) := rfl
theorem CodeSize.tAnd x0 x1 : CodeSize.Statement (.tAnd x0 x1) := rfl
theorem CodeSize.tEor x0 x1 : CodeSize.Statement (.tEor x0 x1) := rfl
theorem CodeSize.tLslReg x0 x1 : CodeSize.Statement (.tLslReg x0 x1) := rfl
theorem CodeSize.tLsrReg x0 x1 : CodeSize.Statement (.tLsrReg x0 x1) := rfl
theorem CodeSize.tAsrReg x0 x1 : CodeSize.Statement (.tAsrReg x0 x1) := rfl
theorem CodeSize.tAdc x0 x1 : CodeSize.Statement (.tAdc x0 x1) := rfl
theorem CodeSize.tSbc x0 x1 : CodeSize.Statement (.tSbc x0 x1) := rfl
theorem CodeSize.tRor x0 x1 : CodeSize.Statement (.tRor x0 x1) := rfl
theorem CodeSize.tTst x0 x1 : CodeSize.Statement (.tTst x0 x1) := rfl
theorem CodeSize.tNeg x0 x1 : CodeSize.Statement (.tNeg x0 x1) := rfl
theorem CodeSize.tCmpReg x0 x1 : CodeSize.Statement (.tCmpReg x0 x1) := rfl
theorem CodeSize.tCmn x0 x1 : CodeSize.Statement (.tCmn x0 x1) := rfl
theorem CodeSize.tOrr x0 x1 : CodeSize.Statement (.tOrr x0 x1) := rfl
theorem CodeSize.tMul x0 x1 : CodeSize.Statement (.tMul x0 x1) := rfl
theorem CodeSize.tBic x0 x1 : CodeSize.Statement (.tBic x0 x1) := rfl
theorem CodeSize.tMvn x0 x1 : CodeSize.Statement (.tMvn x0 x1) := rfl
theorem CodeSize.tAddHigh x0 x1 x2 x3 : CodeSize.Statement (.tAddHigh x0 x1 x2 x3) := rfl
theorem CodeSize.tCmpHigh x0 x1 x2 x3 : CodeSize.Statement (.tCmpHigh x0 x1 x2 x3) := rfl
theorem CodeSize.tMovHigh x0 x1 x2 x3 : CodeSize.Statement (.tMovHigh x0 x1 x2 x3) := rfl
theorem CodeSize.tLdrPc x0 x1 : CodeSize.Statement (.tLdrPc x0 x1) := rfl
theorem CodeSize.tStrReg x0 x1 x2 : CodeSize.Statement (.tStrReg x0 x1 x2) := rfl
theorem CodeSize.tStrhReg x0 x1 x2 : CodeSize.Statement (.tStrhReg x0 x1 x2) := rfl
theorem CodeSize.tStrbReg x0 x1 x2 : CodeSize.Statement (.tStrbReg x0 x1 x2) := rfl
theorem CodeSize.tLdrsb x0 x1 x2 : CodeSize.Statement (.tLdrsb x0 x1 x2) := rfl
theorem CodeSize.tLdrReg x0 x1 x2 : CodeSize.Statement (.tLdrReg x0 x1 x2) := rfl
theorem CodeSize.tLdrhReg x0 x1 x2 : CodeSize.Statement (.tLdrhReg x0 x1 x2) := rfl
theorem CodeSize.tLdrbReg x0 x1 x2 : CodeSize.Statement (.tLdrbReg x0 x1 x2) := rfl
theorem CodeSize.tLdrsh x0 x1 x2 : CodeSize.Statement (.tLdrsh x0 x1 x2) := rfl
theorem CodeSize.tStrImm x0 x1 x2 : CodeSize.Statement (.tStrImm x0 x1 x2) := rfl
theorem CodeSize.tLdrImm x0 x1 x2 : CodeSize.Statement (.tLdrImm x0 x1 x2) := rfl
theorem CodeSize.tStrbImm x0 x1 x2 : CodeSize.Statement (.tStrbImm x0 x1 x2) := rfl
theorem CodeSize.tLdrbImm x0 x1 x2 : CodeSize.Statement (.tLdrbImm x0 x1 x2) := rfl
theorem CodeSize.tStrhImm x0 x1 x2 : CodeSize.Statement (.tStrhImm x0 x1 x2) := rfl
theorem CodeSize.tLdrhImm x0 x1 x2 : CodeSize.Statement (.tLdrhImm x0 x1 x2) := rfl
theorem CodeSize.tStrSp x0 x1 : CodeSize.Statement (.tStrSp x0 x1) := rfl
theorem CodeSize.tLdrSp x0 x1 : CodeSize.Statement (.tLdrSp x0 x1) := rfl
theorem CodeSize.tAddPc x0 x1 : CodeSize.Statement (.tAddPc x0 x1) := rfl
theorem CodeSize.tAddSp x0 x1 : CodeSize.Statement (.tAddSp x0 x1) := rfl
theorem CodeSize.tIncSp x0 : CodeSize.Statement (.tIncSp x0) := rfl
theorem CodeSize.tDecSp x0 : CodeSize.Statement (.tDecSp x0) := rfl
theorem CodeSize.tPush x0 x1 : CodeSize.Statement (.tPush x0 x1) := rfl
theorem CodeSize.tPop x0 x1 : CodeSize.Statement (.tPop x0 x1) := rfl
theorem CodeSize.tBkpt x0 : CodeSize.Statement (.tBkpt x0) := rfl
theorem CodeSize.tUndefMisc x0 : CodeSize.Statement (.tUndefMisc x0) := rfl
theorem CodeSize.tStmia x0 x1 : CodeSize.Statement (.tStmia x0 x1) := rfl
theorem CodeSize.tLdmia x0 x1 : CodeSize.Statement (.tLdmia x0 x1) := rfl
theorem CodeSize.tUndefDE x0 : CodeSize.Statement (.tUndefDE x0) := rfl
theorem CodeSize.tSwi x0 : CodeSize.Statement (.tSwi x0) := rfl
theorem CodeSize.tBCond x0 x1 : CodeSize.Statement (.tBCond x0 x1) := rfl
theorem CodeSize.tB x0 : CodeSize.Statement (.tB x0) := rfl
theorem CodeSize.tUndefBlx x0 : CodeSize.Statement (.tUndefBlx x0) := rfl
theorem CodeSize.tBlxSuffix x0 : CodeSize.Statement (.tBlxSuffix x0) := rfl
theorem CodeSize.tBlHead x0 : CodeSize.Statement (.tBlHead x0) := rfl
theorem CodeSize.tBlSuffix x0 : CodeSize.Statement (.tBlSuffix x0) := rfl
theorem CodeSize.tUndefRest x0 : CodeSize.Statement (.tUndefRest x0) := rfl

end Sys2Proof.Laws
end

