-- ==== Sys2Proof/Tests/Slice0.lean ====
section
/-! SUPPORT. Tests: the checks of WellFormed, the decoding of a word of every row of the opcode table, one step of most
instructions on values of the spec's own test vectors, exceptions, and a witness for the hypotheses of every statement. -/

namespace Sys2Proof.Tests

/- The tests are checked one after the other. -/
set_option Elab.async false

open Sys2Proof Sys2Proof.Machine

/-! WellFormed: a term that each check refuses. -/

theorem test_ill_formed : ([
    .pld true 1 (.imm 4) true,
    .undefUncond 0xA000000,
    .undefBkptCond .al 0 0,
    .undefMulSpace .al 0x0000291,
    .undefArch .al 0x0000000,
    .cp0TransferOther .al true 1 2 0,
    .cp0Other .al 1 false 0xC 2 0 true 1,
    .mcrr .al 1 2 0 0 0,
    .mrrc .al 1 2 0 0 0,
    .ldc .al false false false false 1 8 14 0,
    .stc .al false false true false 1 8 14 0,
    .cdp .al 0 0 0 0 0 0,
    .mcr .al 0 1 2 0 0 0,
    .mcr .al 0 7 2 15 4 10,
    .mrc .al 0 1 2 0 0 0,
    .mrc .al 0 9 2 15 0 2,
    .ldr .al .postW true 1 2 (.imm 4),
    .ldrb .al .postW true 1 2 (.imm 4),
    .str .al .postW true 1 2 (.imm 4),
    .strb .al .postW true 1 2 (.imm 4),
    .undefRest .al 0,
    .tUndefMisc 0x400,
    .tBCond .al 0,
    .tUndefRest 0] : List Instr).map wellFormed = List.replicate 24 false := by decide +kernel

/-! Decoding: a word of every row, from the row's fixed bits and its fields (30_encoding.md R286-R301, opcode_table.json). -/

theorem test_decode_misc :
    ([0xF7D3F2B7, 0xFB123456, 0xFE123456, 0xE1212374, 0x11212374, 0xE14F5000, 0xE169F004, 0x112FFF13, 0x112FFF33,
        0xE16F5F16] : List Word).map (fun w => decode (.arm w)) =
      [.pld true 3 (.scaled 5 .lsr 7) true, .blxImm true 0x123456, .undefUncond 0xE123456, .bkpt 0x123 4,
        .undefBkptCond .ne 0x123 4, .mrs .al true 5, .msrReg .al true 9 4, .bx .ne 3, .blxReg .ne 3,
        .clz .al 5 6] := by decide +kernel

theorem test_decode_dsp :
    ([0xB1045056, 0xB1245056, 0xB1445056, 0xB1645056, 0xE10123C4, 0xE12123C4, 0xE12103E4, 0xE14123A4,
        0xE16103A4] : List Word).map (fun w => decode (.arm w)) =
      [.qadd .lt 4 5 6, .qsub .lt 4 5 6, .qdadd .lt 4 5 6, .qdsub .lt 4 5 6, .smlaxy .al 1 2 3 .t .b 4,
        .smlawy .al 1 2 3 .t 4, .smulwy .al 1 0 3 .t 4, .smlalxy .al 1 2 3 .b .t 4,
        .smulxy .al 1 0 3 .b .t 4] := by decide +kernel

theorem test_decode_multiply :
    ([0xE0110394, 0xE0312394, 0xE0912394, 0xE0B12394, 0xE0D12394, 0xE0F12394, 0xE1012093,
        0xE1412093] : List Word).map (fun w => decode (.arm w)) =
      [.mul .al true 1 0 3 4, .mla .al true 1 2 3 4, .umull .al true 1 2 3 4, .umlal .al true 1 2 3 4,
        .smull .al true 1 2 3 4, .smlal .al true 1 2 3 4, .swp .al 1 2 3, .swpb .al 1 2 3] := by decide +kernel

theorem test_decode_mode3 :
    ([0xE1E125BA, 0xE14125DA, 0xE08120FA, 0xE13120BA, 0xE1D125DA, 0xE05125FA, 0xE0400091,
        0xE7F000F0] : List Word).map (fun w => decode (.arm w)) =
      [.strh .al .preIndexed true 1 2 (.imm 0x5A), .ldrd .al .offset false 1 2 (.imm 0x5A),
        .strd .al .postIndexed true 1 2 (.reg 0 10), .ldrh .al .preIndexed false 1 2 (.reg 0 10),
        .ldrsb .al .offset true 1 2 (.imm 0x5A), .ldrsh .al .postIndexed false 1 2 (.imm 0x5A),
        .undefMulSpace .al 0x0400091, .undefArch .al 0x7F000F0] := by decide +kernel

theorem test_decode_cp0 :
    ([0xEE202011, 0xEE282011, 0xEE2C2011, 0xEE2D2011, 0xEE2E2011, 0xEE2F2011, 0xCC412000, 0xCC512000, 0xEC512003,
        0xEE212013] : List Word).map (fun w => decode (.arm w)) =
      [.mia .al 2 1, .miaph .al 2 1, .miabb .al 2 1, .miabt .al 2 1, .miatb .al 2 1, .miatt .al 2 1, .mar .gt 1 2,
        .mra .gt 1 2, .cp0TransferOther .al true 1 2 3, .cp0Other .al 1 false 1 2 0 true 3] := by decide +kernel

theorem test_decode_coprocessor :
    ([0xEC412567, 0xEC512567, 0xEC112345, 0xEDB18E12, 0xECC18E12,
        0xEE912564] : List Word).map (fun w => decode (.arm w)) =
      [.mcrr .al 1 2 5 6 7, .mrrc .al 1 2 5 6 7, .undefLdcStc .al true 0x12345,
        .ldc .al true true false true 1 8 14 0x12, .stc .al false true true false 1 8 14 0x12,
        .cdp .al 9 1 2 5 3 4] := by decide +kernel

theorem test_decode_cp15_caches :
    ([0xEE075F17, 0xEE075F15, 0xEE075F35, 0xEE075F16, 0xEE075F36, 0xEE075F3A, 0xEE075F9A, 0xEE075FD5,
        0xEE075FB2] : List Word).map (fun w => decode (.arm w)) =
      [.invIDCacheBtb .al 5, .invICacheBtb .al 5, .invICacheLine .al 5, .invDCache .al 5, .invDCacheLine .al 5,
        .cleanDCacheLine .al 5, .drainWriteBuffer .al 5, .invBtb .al 5, .allocDCacheLine .al 5] := by decide +kernel

theorem test_decode_cp15_tlbs_and_locks :
    ([0xEE085F17, 0xEE085F15, 0xEE085F35, 0xEE085F16, 0xEE085F36, 0xEE095F11, 0xEE095F31, 0xEE195F12, 0xEE095F12,
        0xEE095F32, 0xEE0A5F14, 0xEE0A5F18, 0xEE0A5F34, 0xEE0A5F38] : List Word).map (fun w => decode (.arm w)) =
      [.invIDTlb .al 5, .invITlb .al 5, .invITlbEntry .al 5, .invDTlb .al 5, .invDTlbEntry .al 5,
        .lockICacheLine .al 5, .unlockICache .al 5, .readDCacheLock .al 5, .writeDCacheLock .al 5,
        .unlockDCache .al 5, .lockITlbEntry .al 5, .lockDTlbEntry .al 5, .unlockITlb .al 5,
        .unlockDTlb .al 5] := by decide +kernel

theorem test_decode_transfer_and_branch :
    ([0xEE223F95, 0xEE323F95, 0xEF123456, 0x4AFEDCBA, 0x4BFEDCBA] : List Word).map (fun w => decode (.arm w)) =
      [.mcr .al 1 2 3 15 4 5, .mrc .al 1 2 3 15 4 5, .swi .al 0x123456, .b .mi 0xFEDCBA,
        .bl .mi 0xFEDCBA] := by decide +kernel

theorem test_decode_multiple :
    ([0xE9B18034, 0xE8F10034, 0xE9518034, 0xE8218034, 0xE9418034] : List Word).map (fun w => decode (.arm w)) =
      [.ldm .al .ib true 1 0x8034, .ldmUser .al .ia true 1 0x0034, .ldmRet .al .db false 1 0x0034,
        .stm .al .da true 1 0x8034, .stmUser .al .db false 1 0x8034] := by decide +kernel

theorem test_decode_mode2 :
    ([0xE4B12ABC, 0xE4F12ABC, 0xE4A12ABC, 0xE4E12ABC, 0xE7B124C4, 0xE5512ABC, 0xE4812ABC, 0xE7C124E4,
        0xE329F345] : List Word).map (fun w => decode (.arm w)) =
      [.ldrt .al true 1 2 (.imm 0xABC), .ldrbt .al true 1 2 (.imm 0xABC), .strt .al true 1 2 (.imm 0xABC),
        .strbt .al true 1 2 (.imm 0xABC), .ldr .al .preIndexed true 1 2 (.scaled 9 .asr 4),
        .ldrb .al .offset false 1 2 (.imm 0xABC), .str .al .postIndexed true 1 2 (.imm 0xABC),
        .strb .al .offset true 1 2 (.scaled 9 .ror 4), .msrImm .al false 9 3 0x45] := by decide +kernel

theorem test_decode_data_processing :
    ([0xE21124FF, 0xE0312187, 0xE0512657, 0xE27124FF, 0xE0912187, 0xE0B12657, 0xE2D124FF, 0xE0F12187,
        0xE1110657] : List Word).map (fun w => decode (.arm w)) =
      [.and .al true 1 2 (.imm 4 0xFF), .eor .al true 1 2 (.shiftImm 3 .lsl 7),
        .sub .al true 1 2 (.shiftReg 6 .asr 7), .rsb .al true 1 2 (.imm 4 0xFF),
        .add .al true 1 2 (.shiftImm 3 .lsl 7), .adc .al true 1 2 (.shiftReg 6 .asr 7),
        .sbc .al true 1 2 (.imm 4 0xFF), .rsc .al true 1 2 (.shiftImm 3 .lsl 7),
        .tst .al 1 0 (.shiftReg 6 .asr 7)] := by decide +kernel

theorem test_decode_data_processing_rest :
    ([0xE33104FF, 0xE1510187, 0xE1710657, 0xE39124FF, 0xE1B02187, 0xE1D12657, 0xE3F024FF,
        0xE3000000] : List Word).map (fun w => decode (.arm w)) =
      [.teq .al 1 0 (.imm 4 0xFF), .cmp .al 1 0 (.shiftImm 3 .lsl 7), .cmn .al 1 0 (.shiftReg 6 .asr 7),
        .orr .al true 1 2 (.imm 4 0xFF), .mov .al true 0 2 (.shiftImm 3 .lsl 7),
        .bic .al true 1 2 (.shiftReg 6 .asr 7), .mvn .al true 0 2 (.imm 4 0xFF),
        .undefRest .al 0x3000000] := by decide +kernel

theorem test_decode_thumb_move_shift :
    ([0x4758, 0x47D8, 0x04DD, 0x0CDD, 0x14DD, 0x199D, 0x1B9D, 0x1D9D, 0x1F9D, 0x25AB, 0x2DAB, 0x35AB,
        0x3DAB] : List Half).map (fun w => decode (.thumb w)) =
      [.tBx true 3, .tBlxReg true 3, .tLslImm 19 3 5, .tLsrImm 19 3 5, .tAsrImm 19 3 5, .tAddReg 6 3 5,
        .tSubReg 6 3 5, .tAddImm3 6 3 5, .tSubImm3 6 3 5, .tMovImm 5 0xAB, .tCmpImm 5 0xAB, .tAddImm8 5 0xAB,
        .tSubImm8 5 0xAB] := by decide +kernel

theorem test_decode_thumb_alu :
    ([0x401D, 0x405D, 0x409D, 0x40DD, 0x411D, 0x415D, 0x419D, 0x41DD, 0x421D, 0x425D, 0x429D, 0x42DD, 0x431D,
        0x435D, 0x439D, 0x43DD, 0x449D, 0x459D, 0x469D] : List Half).map (fun w => decode (.thumb w)) =
      [.tAnd 3 5, .tEor 3 5, .tLslReg 3 5, .tLsrReg 3 5, .tAsrReg 3 5, .tAdc 3 5, .tSbc 3 5, .tRor 3 5, .tTst 3 5,
        .tNeg 3 5, .tCmpReg 3 5, .tCmn 3 5, .tOrr 3 5, .tMul 3 5, .tBic 3 5, .tMvn 3 5, .tAddHigh true false 3 5,
        .tCmpHigh true false 3 5, .tMovHigh true false 3 5] := by decide +kernel

theorem test_decode_thumb_load_store :
    ([0x4DAB, 0x519D, 0x539D, 0x559D, 0x579D, 0x599D, 0x5B9D, 0x5D9D, 0x5F9D, 0x64DD, 0x6CDD, 0x74DD, 0x7CDD,
        0x84DD, 0x8CDD, 0x95AB, 0x9DAB] : List Half).map (fun w => decode (.thumb w)) =
      [.tLdrPc 5 0xAB, .tStrReg 6 3 5, .tStrhReg 6 3 5, .tStrbReg 6 3 5, .tLdrsb 6 3 5, .tLdrReg 6 3 5,
        .tLdrhReg 6 3 5, .tLdrbReg 6 3 5, .tLdrsh 6 3 5, .tStrImm 19 3 5, .tLdrImm 19 3 5, .tStrbImm 19 3 5,
        .tLdrbImm 19 3 5, .tStrhImm 19 3 5, .tLdrhImm 19 3 5, .tStrSp 5 0xAB, .tLdrSp 5 0xAB] := by decide +kernel

theorem test_decode_thumb_rest :
    ([0xA5AB, 0xADAB, 0xB055, 0xB0D5, 0xB596, 0xBD96, 0xBEAB, 0xB123, 0xC596, 0xCD96, 0xDEAB, 0xDFAB, 0xD8AB,
        0xE5A5, 0xEAAB, 0xEAAA, 0xF5A5, 0xFDA5, 0x4701] : List Half).map (fun w => decode (.thumb w)) =
      [.tAddPc 5 0xAB, .tAddSp 5 0xAB, .tIncSp 0x55, .tDecSp 0x55, .tPush true 0x96, .tPop true 0x96, .tBkpt 0xAB,
        .tUndefMisc 0x123, .tStmia 5 0x96, .tLdmia 5 0x96, .tUndefDE 0xAB, .tSwi 0xAB, .tBCond .hi 0xAB, .tB 0x5A5,
        .tUndefBlx 0x155, .tBlxSuffix 0x155, .tBlHead 0x5A5, .tBlSuffix 0x5A5,
        .tUndefRest 0x4701] := by decide +kernel

/-! One step on values of the spec's test vectors. -/

/-- A machine right after reset but for the CPSR, the PC 0x8000 and some registers of the current mode. -/
def machine (cpsr : Word) (regs : List (Reg × Word)) : State :=
  regs.foldl (fun s p => s.setReg p.1 p.2) (State.reset.withCore { Core.reset with cpsr := cpsr, pc := 0x8000 })

/-- Words of memory. -/
def words (s : State) (l : List (Word × Word)) : State := l.foldl (fun s p => s.putBytes p.1 p.2 4) s

/-- A test vector in System mode: what is there before, and what has changed after; `flags` are N, Z, C, V and Q. -/
structure Case where
  word : Nat
  thumb : Bool := false
  pc : Word := 0x8000
  flags : BitVec 5 := 0
  acc : Acc := 0
  regs : List (Reg × Word) := []
  mem : List (Word × Word) := []
  flags' : BitVec 5 := flags
  acc' : Acc := acc
  regs' : List (Reg × Word) := []
  mem' : List (Word × Word) := []
  pc' : Word := pc + (if thumb then 2 else 4)
  thumb' : Bool := thumb

/-- The state before. -/
def Case.start (c : Case) : State :=
  let s := (machine (c.flags ++ (if c.thumb then 0x3F#27 else 0x1F#27)) c.regs).setAcc c.acc
  words ((s.setPc c.pc).setCp15 { s.cp15 with cpar := 1 }) c.mem

/-- The register of a list, else 0. -/
def given (l : List (Reg × Word)) (n : Reg) : Word := ((l.find? (fun p => p.1 == n)).map Prod.snd).getD 0

/-- The step gives the values after, and every other register keeps its value. -/
def Case.ok (c : Case) : Bool :=
  match step (c.start.withFetchWord (if c.thumb then 16 else 32) c.word) with
  | .next t =>
    field t.core.cpsr 27 5 == c.flags' && t.core.pc == c.pc' && t.thumb == c.thumb' && t.core.acc0 == c.acc' &&
      ([0, 1, 2, 3, 4, 5, 6, 7, 8, 9, 10, 11, 12, 13, 14] : List Reg).all (fun n => t.reg n == given (c.regs' ++ c.regs) n) &&
      c.mem'.all (fun p => t.memWord p.1 == p.2)
  | .fault _ => false
  | .refused _ => false

/-- 97_test_vectors_instructions.md §2.10, `blx 0x9000`. -/
theorem test_blxImm : Case.ok
    { word := 0xFA0003FE, regs' := [(14, 0x8004)], pc' := 0x9000, thumb' := true } = true := by
  decide +kernel

/-- 97_test_vectors_instructions.md §2.10, `bx r1`. -/
theorem test_bx : Case.ok { word := 0xE12FFF11, regs := [(1, 0x9001)], pc' := 0x9000, thumb' := true } = true := by
  decide +kernel

/-- 97_test_vectors_instructions.md §2.10, `blx r1`. -/
theorem test_blxReg : Case.ok
    { word := 0xE12FFF31, regs := [(1, 0x9001)], regs' := [(14, 0x8004)], pc' := 0x9000,
      thumb' := true } = true := by
  decide +kernel

/-- 97_test_vectors_instructions.md §2.6, `clz r0, r1`. -/
theorem test_clz : Case.ok { word := 0xE16F0F11, regs := [(1, 0)], regs' := [(0, 0x20)] } = true := by
  decide +kernel

/-- 97_test_vectors_instructions.md §2.6, `qadd r0, r1, r2`. -/
theorem test_qadd : Case.ok
    { word := 0xE1020051, flags' := 0b00001, regs := [(1, 0x7fffffff), (2, 1)],
      regs' := [(0, 0x7fffffff)] } = true := by
  decide +kernel

/-- 97_test_vectors_instructions.md §2.6, `qsub r0, r1, r2`. -/
theorem test_qsub : Case.ok
    { word := 0xE1220051, flags' := 0b00001, regs := [(1, 0x80000000), (2, 1)],
      regs' := [(0, 0x80000000)] } = true := by
  decide +kernel

/-- 97_test_vectors_instructions.md §2.6, `qdadd r0, r1, r2`. -/
theorem test_qdadd : Case.ok
    { word := 0xE1420051, flags' := 0b00001, regs := [(1, 1), (2, 0x40000000)],
      regs' := [(0, 0x7fffffff)] } = true := by
  decide +kernel

/-- 97_test_vectors_instructions.md §2.6, `qdsub r0, r1, r2`. -/
theorem test_qdsub : Case.ok
    { word := 0xE1620051, flags' := 0b00001, regs := [(1, 0), (2, 0x40000000)],
      regs' := [(0, 0x80000001)] } = true := by
  decide +kernel

/-- 97_test_vectors_instructions.md §2.5, `smlabb r0, r1, r2, r3`. -/
theorem test_smlaxy : Case.ok
    { word := 0xE1003281, flags' := 0b00001, regs := [(1, 0x7fff), (2, 0x7fff), (3, 0x7fffffff)],
      regs' := [(0, 0xbfff0000)] } = true := by
  decide +kernel

/-- 97_test_vectors_instructions.md §2.5, `smlawb r0, r1, r2, r3`. -/
theorem test_smlawy : Case.ok
    { word := 0xE1203281, flags' := 0b00001, regs := [(1, 0x7fffffff), (2, 0x7fff), (3, 0x7fffffff)],
      regs' := [(0, 0xbfff7ffe)] } = true := by
  decide +kernel

/-- 97_test_vectors_instructions.md §2.5, `smulwb r0, r1, r2`. -/
theorem test_smulwy : Case.ok
    { word := 0xE12002A1, regs := [(1, 0x12345678), (2, 0x14000)], regs' := [(0, 0x48d159e)] } = true := by
  decide +kernel

/-- 97_test_vectors_instructions.md §2.5, `smlalbb r0, r1, r2, r3`. -/
theorem test_smlalxy : Case.ok
    { word := 0xE1410382, regs := [(0, 0xffffffff), (1, 0), (2, 1), (3, 1)],
      regs' := [(0, 0), (1, 1)] } = true := by
  decide +kernel

/-- 97_test_vectors_instructions.md §2.5, `smulbb r0, r1, r2`. -/
theorem test_smulxy : Case.ok
    { word := 0xE1600281, regs := [(1, 0x18000), (2, 0x28000)], regs' := [(0, 0x40000000)] } = true := by
  decide +kernel

/-- 97_test_vectors_instructions.md §2.4, `muls r0, r1, r2`. -/
theorem test_mul : Case.ok
    { word := 0xE0100291, flags := 0b00110, flags' := 0b10110, regs := [(1, 0xffffffff), (2, 2)],
      regs' := [(0, 0xfffffffe)] } = true := by
  decide +kernel

/-- 97_test_vectors_instructions.md §2.4, `mla r0, r1, r2, r3`. -/
theorem test_mla : Case.ok
    { word := 0xE0203291, regs := [(1, 3), (2, 4), (3, 5)], regs' := [(0, 0x11)] } = true := by
  decide +kernel

/-- 97_test_vectors_instructions.md §2.4, `umull r0, r1, r2, r3`. -/
theorem test_umull : Case.ok
    { word := 0xE0810392, regs := [(2, 0xffffffff), (3, 0xffffffff)],
      regs' := [(0, 1), (1, 0xfffffffe)] } = true := by
  decide +kernel

/-- 97_test_vectors_instructions.md §2.4, `umlal r0, r1, r2, r3`. -/
theorem test_umlal : Case.ok
    { word := 0xE0A10392, regs := [(0, 0xffffffff), (1, 0), (2, 1), (3, 1)],
      regs' := [(0, 0), (1, 1)] } = true := by
  decide +kernel

/-- 97_test_vectors_instructions.md §2.4, `smulls r0, r1, r2, r3`. -/
theorem test_smull : Case.ok
    { word := 0xE0D10392, flags' := 0b10000, regs := [(2, 0xfffffffe), (3, 3)],
      regs' := [(0, 0xfffffffa), (1, 0xffffffff)] } = true := by
  decide +kernel

/-- 97_test_vectors_instructions.md §2.4, `smlals r0, r1, r2, r3`. -/
theorem test_smlal : Case.ok
    { word := 0xE0F10392, flags := 0b00100, regs := [(0, 0), (1, 0x80000000), (2, 0xffffffff), (3, 1)],
      regs' := [(0, 0xffffffff), (1, 0x7fffffff)] } = true := by
  decide +kernel

/-- 97_test_vectors_instructions.md §2.9, `swp r0, r1, [r2]`. -/
theorem test_swp : Case.ok
    { word := 0xE1020091, regs := [(1, 0x55), (2, 0x1000)], mem := [(0x1000, 0x11223344)],
      regs' := [(0, 0x11223344)], mem' := [(0x1000, 0x55)] } = true := by
  decide +kernel

/-- 97_test_vectors_instructions.md §2.9, `swpb r0, r1, [r2]`. -/
theorem test_swpb : Case.ok
    { word := 0xE1420091, regs := [(1, 0x1ff), (2, 0x1002)], mem := [(0x1000, 0x11223344)], regs' := [(0, 0x22)],
      mem' := [(0x1000, 0x11ff3344)] } = true := by
  decide +kernel

/-- 97_test_vectors_instructions.md §2.8, `strh r0, [r1], #2`. -/
theorem test_strh : Case.ok
    { word := 0xE0C100B2, regs := [(0, 0xdeadbeef), (1, 0x1000)], mem := [(0x1000, 0x11223344)],
      regs' := [(1, 0x1002)], mem' := [(0x1000, 0x1122beef)] } = true := by
  decide +kernel

/-- 97_test_vectors_instructions.md §2.7, `ldrd r2, [r1, #8]!`. -/
theorem test_ldrd : Case.ok
    { word := 0xE1E120D8, regs := [(1, 0xff8)],
      mem := [(0x1000, 0x11223344), (0x1004, 0x80ff7f01), (0x1008, 0xcafebabe)],
      regs' := [(1, 0x1000), (2, 0x11223344), (3, 0x80ff7f01)] } = true := by
  decide +kernel

/-- 97_test_vectors_instructions.md §2.8, `strd r2, [r1], #8`. -/
theorem test_strd : Case.ok
    { word := 0xE0C120F8, regs := [(1, 0x1008), (2, 0x1020304), (3, 0x5060708)], regs' := [(1, 0x1010)],
      mem' := [(0x1008, 0x1020304), (0x100c, 0x5060708)] } = true := by
  decide +kernel

/-- 97_test_vectors_instructions.md §2.7, `ldrh r0, [r1, #6]!`. -/
theorem test_ldrh : Case.ok
    { word := 0xE1F100B6, regs := [(1, 0x1000)],
      mem := [(0x1000, 0x11223344), (0x1004, 0x80ff7f01), (0x1008, 0xcafebabe)],
      regs' := [(0, 0x80ff), (1, 0x1006)] } = true := by
  decide +kernel

/-- 97_test_vectors_instructions.md §2.7, `ldrsb r0, [r1, #7]`. -/
theorem test_ldrsb : Case.ok
    { word := 0xE1D100D7, regs := [(1, 0x1000)],
      mem := [(0x1000, 0x11223344), (0x1004, 0x80ff7f01), (0x1008, 0xcafebabe)],
      regs' := [(0, 0xffffff80)] } = true := by
  decide +kernel

/-- 97_test_vectors_instructions.md §2.7, `ldrsh r0, [r1], #2`. -/
theorem test_ldrsh : Case.ok
    { word := 0xE0D100F2, regs := [(1, 0x1004)],
      mem := [(0x1000, 0x11223344), (0x1004, 0x80ff7f01), (0x1008, 0xcafebabe)],
      regs' := [(0, 0x7f01), (1, 0x1006)] } = true := by
  decide +kernel

/-- 97_test_vectors_instructions.md §2.13, `mia acc0, r1, r2`. -/
theorem test_mia : Case.ok
    { word := 0xEE202011, regs := [(1, 3), (2, 0xfffffffe)], acc' := 0xfffffffffa } = true := by
  decide +kernel

/-- 97_test_vectors_instructions.md §2.13, `miaph acc0, r1, r2`. -/
theorem test_miaph : Case.ok
    { word := 0xEE282011, regs := [(1, 0x20003), (2, 0x40005)], acc' := 0x18, acc := 1 } = true := by
  decide +kernel

/-- 97_test_vectors_instructions.md §2.13, `miabb acc0, r1, r2`. -/
theorem test_miabb : Case.ok
    { word := 0xEE2C2011, regs := [(1, 0x12348000), (2, 0x56780002)], acc' := 0xffffff0000 } = true := by
  decide +kernel

/-- 97_test_vectors_instructions.md §2.13, `miabt acc0, r1, r2`. -/
theorem test_miabt : Case.ok
    { word := 0xEE2D2011, regs := [(1, 0x12348000), (2, 0x56780002)], acc' := 0xffd4c40000 } = true := by
  decide +kernel

/-- 97_test_vectors_instructions.md §2.13, `miatb acc0, r1, r2`. -/
theorem test_miatb : Case.ok
    { word := 0xEE2E2011, regs := [(1, 0x12348000), (2, 0x56780002)], acc' := 0x2468 } = true := by
  decide +kernel

/-- 97_test_vectors_instructions.md §2.13, `miatt acc0, r1, r2`. -/
theorem test_miatt : Case.ok
    { word := 0xEE2F2011, regs := [(1, 0x12348000), (2, 0x56780002)], acc' := 0x6260060 } = true := by
  decide +kernel

/-- 97_test_vectors_instructions.md §2.13, `mar acc0, r3, r4`. -/
theorem test_mar : Case.ok
    { word := 0xEC443000, regs := [(3, 0x89abcdef), (4, 0x12345667)], acc' := 0x6789abcdef } = true := by
  decide +kernel

/-- 97_test_vectors_instructions.md §2.13, `mra r3, r4, acc0`. -/
theorem test_mra : Case.ok
    { word := 0xEC543000, regs' := [(3, 0x89abcdef), (4, 0x67)], acc' := 0x6789abcdef,
      acc := 0x6789abcdef } = true := by
  decide +kernel

/-- 97_test_vectors_instructions.md §2.10, `b 0x8000`. -/
theorem test_b : Case.ok { word := 0xEAFFFFFE, pc' := 0x8000 } = true := by
  decide +kernel

/-- 97_test_vectors_instructions.md §2.10, `bl 0x9000`. -/
theorem test_bl : Case.ok
    { word := 0xEB0003FE, regs := [(14, 0x1234)], regs' := [(14, 0x8004)], pc' := 0x9000 } = true := by
  decide +kernel

/-- 97_test_vectors_instructions.md §2.9, `ldmia r13!, (r4, pc)`. -/
theorem test_ldm : Case.ok
    { word := 0xE8BD8010, regs := [(13, 0x2000)],
      mem := [(0x1000, 0xa0), (0x1004, 0xa1), (0x1008, 0xa2), (0x100c, 0xa3), (0x1010, 0xa4), (0x2000, 0x44), (0x2004, 0x9001)],
      regs' := [(4, 0x44), (13, 0x2008)], pc' := 0x9000, thumb' := true } = true := by
  decide +kernel

/-- 97_test_vectors_instructions.md §2.9, `stmdb r13!, (r1, r2, r14)`. -/
theorem test_stm : Case.ok
    { word := 0xE92D4006, regs := [(1, 0x11), (2, 0x22), (13, 0x1010), (14, 0x8123)], regs' := [(13, 0x1004)],
      mem' := [(0x1004, 0x11), (0x1008, 0x22), (0x100c, 0x8123)] } = true := by
  decide +kernel

/-- 97_test_vectors_instructions.md §2.7, `ldrt r0, [r1], #4`. -/
theorem test_ldrt : Case.ok
    { word := 0xE4B10004, regs := [(1, 0x1000)],
      mem := [(0x1000, 0x11223344), (0x1004, 0x80ff7f01), (0x1008, 0xcafebabe)],
      regs' := [(0, 0x11223344), (1, 0x1004)] } = true := by
  decide +kernel

/-- 97_test_vectors_instructions.md §2.7, `ldrbt r0, [r1], #1`. -/
theorem test_ldrbt : Case.ok
    { word := 0xE4F10001, regs := [(1, 0x1003)],
      mem := [(0x1000, 0x11223344), (0x1004, 0x80ff7f01), (0x1008, 0xcafebabe)],
      regs' := [(0, 0x11), (1, 0x1004)] } = true := by
  decide +kernel

/-- 97_test_vectors_instructions.md §2.7, `ldr pc, [r1, #0x10]`. -/
theorem test_ldr : Case.ok
    { word := 0xE591F010, regs := [(1, 0x1000)],
      mem := [(0x1000, 0x11223344), (0x1004, 0x80ff7f01), (0x1008, 0xcafebabe), (0x1010, 0x9001)], pc' := 0x9000,
      thumb' := true } = true := by
  decide +kernel

/-- 97_test_vectors_instructions.md §2.7, `ldrb r0, [r1]`. -/
theorem test_ldrb : Case.ok
    { word := 0xE5D10000, regs := [(1, 0x1000)],
      mem := [(0x1000, 0x11223344), (0x1004, 0x80ff7f01), (0x1008, 0xcafebabe)], regs' := [(0, 0x44)] } = true := by
  decide +kernel

/-- 97_test_vectors_instructions.md §2.8, `str r0, [r1, #-4]!`. -/
theorem test_str : Case.ok
    { word := 0xE5210004, regs := [(0, 0xdeadbeef), (1, 0x1004)], regs' := [(1, 0x1000)],
      mem' := [(0x1000, 0xdeadbeef)] } = true := by
  decide +kernel

/-- 97_test_vectors_instructions.md §2.8, `strb r0, [r1, #1]`. -/
theorem test_strb : Case.ok
    { word := 0xE5C10001, regs := [(0, 0xdeadbeef), (1, 0x1000)], mem := [(0x1000, 0x11223344)],
      mem' := [(0x1000, 0x1122ef44)] } = true := by
  decide +kernel

/-- 97_test_vectors_instructions.md §2.3, `ands r0, r1, r2, lsl #4`. -/
theorem test_and : Case.ok
    { word := 0xE0110202, flags' := 0b10100, regs := [(1, 0xffffffff), (2, 0xf8000000)],
      regs' := [(0, 0x80000000)] } = true := by
  decide +kernel

/-- 97_test_vectors_instructions.md §2.3, `eors r0, r1, r1`. -/
theorem test_eor : Case.ok
    { word := 0xE0310001, flags := 0b10000, flags' := 0b01000, regs := [(1, 0x12345678)] } = true := by
  decide +kernel

/-- 97_test_vectors_instructions.md §2.3, `subs r0, r1, r2`. -/
theorem test_sub : Case.ok
    { word := 0xE0510002, flags' := 0b00110, regs := [(1, 0x80000000), (2, 1)],
      regs' := [(0, 0x7fffffff)] } = true := by
  decide +kernel

/-- 97_test_vectors_instructions.md §2.3, `rsbs r0, r1, #0`. -/
theorem test_rsb : Case.ok
    { word := 0xE2710000, flags' := 0b10010, regs := [(1, 0x80000000)], regs' := [(0, 0x80000000)] } = true := by
  decide +kernel

/-- 97_test_vectors_instructions.md §2.3, `adds r0, r1, r2`. -/
theorem test_add : Case.ok
    { word := 0xE0910002, flags' := 0b10010, regs := [(1, 0x7fffffff), (2, 1)],
      regs' := [(0, 0x80000000)] } = true := by
  decide +kernel

/-- 97_test_vectors_instructions.md §2.3, `adcs r0, r1, r2`. -/
theorem test_adc : Case.ok
    { word := 0xE0B10002, flags := 0b00100, flags' := 0b10010, regs := [(1, 0x7fffffff), (2, 0)],
      regs' := [(0, 0x80000000)] } = true := by
  decide +kernel

/-- 97_test_vectors_instructions.md §2.3, `sbcs r0, r1, r2`. -/
theorem test_sbc : Case.ok
    { word := 0xE0D10002, flags' := 0b00110, regs := [(1, 0x80000000), (2, 0)],
      regs' := [(0, 0x7fffffff)] } = true := by
  decide +kernel

/-- 97_test_vectors_instructions.md §2.3, `rscs r0, r1, r2`. -/
theorem test_rsc : Case.ok
    { word := 0xE0F10002, flags := 0b00100, flags' := 0b10000, regs := [(1, 3), (2, 1)],
      regs' := [(0, 0xfffffffe)] } = true := by
  decide +kernel

/-- 97_test_vectors_instructions.md §2.3, `tst r1, #0x80000000`. -/
theorem test_tst : Case.ok { word := 0xE3110102, flags' := 0b10100, regs := [(1, 0x80000000)] } = true := by
  decide +kernel

/-- 97_test_vectors_instructions.md §2.3, `teq r1, r2`. -/
theorem test_teq : Case.ok { word := 0xE1310002, flags' := 0b10000, regs := [(1, 0x80000000), (2, 1)] } = true := by
  decide +kernel

/-- 97_test_vectors_instructions.md §2.3, `cmp r1, r2`. -/
theorem test_cmp : Case.ok { word := 0xE1510002, flags' := 0b10010, regs := [(1, 0), (2, 0x80000000)] } = true := by
  decide +kernel

/-- 97_test_vectors_instructions.md §2.3, `cmn r1, r2`. -/
theorem test_cmn : Case.ok { word := 0xE1710002, flags' := 0b01100, regs := [(1, 1), (2, 0xffffffff)] } = true := by
  decide +kernel

/-- 97_test_vectors_instructions.md §2.3, `orrs r0, r1, r2`. -/
theorem test_orr : Case.ok
    { word := 0xE1910002, flags' := 0b10000, regs := [(1, 0x80000000), (2, 1)],
      regs' := [(0, 0x80000001)] } = true := by
  decide +kernel

/-- 97_test_vectors_instructions.md §2.2, `movs r0, r1, lsl #0`. -/
theorem test_mov : Case.ok
    { word := 0xE1B00001, flags := 0b00100, flags' := 0b10100, regs := [(1, 0x80000001)],
      regs' := [(0, 0x80000001)] } = true := by
  decide +kernel

/-- 97_test_vectors_instructions.md §2.3, `bics r0, r1, #0xFF`. -/
theorem test_bic : Case.ok { word := 0xE3D100FF, flags' := 0b01000, regs := [(1, 0xff)] } = true := by
  decide +kernel

/-- 97_test_vectors_instructions.md §2.3, `mvn r0, #0`. -/
theorem test_mvn : Case.ok { word := 0xE3E00000, flags := 0b11000, regs' := [(0, 0xffffffff)] } = true := by
  decide +kernel

/-- 97_test_vectors_instructions.md §2.12.4, `bx r1`. -/
theorem test_tBx : Case.ok
    { word := 0x4708, thumb := true, regs := [(1, 0x9000)], pc' := 0x9000, thumb' := false } = true := by
  decide +kernel

/-- 97_test_vectors_instructions.md §2.12.4, `blx r1`. -/
theorem test_tBlxReg : Case.ok
    { word := 0x4788, thumb := true, regs := [(1, 0x9000)], regs' := [(14, 0x8003)], pc' := 0x9000,
      thumb' := false } = true := by
  decide +kernel

/-- 97_test_vectors_instructions.md §2.12.1, `lsls r0, r1, #0`. -/
theorem test_tLslImm : Case.ok
    { word := 0x0008, thumb := true, flags := 0b00100, flags' := 0b10100, regs := [(1, 0x80000001)],
      regs' := [(0, 0x80000001)] } = true := by
  decide +kernel

/-- 97_test_vectors_instructions.md §2.12.1, `lsrs r0, r1, #1`. -/
theorem test_tLsrImm : Case.ok
    { word := 0x0848, thumb := true, flags' := 0b00100, regs := [(1, 3)], regs' := [(0, 1)] } = true := by
  decide +kernel

/-- 97_test_vectors_instructions.md §2.12.1, `asrs r0, r1, #32`. -/
theorem test_tAsrImm : Case.ok
    { word := 0x1008, thumb := true, flags' := 0b10100, regs := [(1, 0x80000000)],
      regs' := [(0, 0xffffffff)] } = true := by
  decide +kernel

/-- 97_test_vectors_instructions.md §2.12.2, `adds r0, r1, r2`. -/
theorem test_tAddReg : Case.ok
    { word := 0x1888, thumb := true, flags' := 0b01110, regs := [(1, 0x80000000), (2, 0x80000000)] } = true := by
  decide +kernel

/-- 97_test_vectors_instructions.md §2.12.2, `subs r0, r1, r2`. -/
theorem test_tSubReg : Case.ok
    { word := 0x1A88, thumb := true, flags' := 0b01100, regs := [(1, 7), (2, 7)] } = true := by
  decide +kernel

/-- 97_test_vectors_instructions.md §2.12.2, `mov r0, r1 (MOV(2): the same encoding as adds r0, r1, #0)`. -/
theorem test_tAddImm3 : Case.ok
    { word := 0x1C08, thumb := true, flags := 0b00110, flags' := 0b10000, regs := [(1, 0x80000000)],
      regs' := [(0, 0x80000000)] } = true := by
  decide +kernel

/-- 97_test_vectors_instructions.md §2.12.2, `subs r0, r1, #1`. -/
theorem test_tSubImm3 : Case.ok
    { word := 0x1E48, thumb := true, flags' := 0b10000, regs := [(1, 0)], regs' := [(0, 0xffffffff)] } = true := by
  decide +kernel

/-- 97_test_vectors_instructions.md §2.12.2, `movs r0, #0`. -/
theorem test_tMovImm : Case.ok
    { word := 0x2000, thumb := true, flags := 0b00110, flags' := 0b01110, regs := [(0, 5)],
      regs' := [(0, 0)] } = true := by
  decide +kernel

/-- 97_test_vectors_instructions.md §2.12.2, `cmp r0, #1`. -/
theorem test_tCmpImm : Case.ok { word := 0x2801, thumb := true, flags' := 0b10000, regs := [(0, 0)] } = true := by
  decide +kernel

/-- 97_test_vectors_instructions.md §2.12.2, `adds r0, #255`. -/
theorem test_tAddImm8 : Case.ok
    { word := 0x30FF, thumb := true, flags' := 0b10010, regs := [(0, 0x7fffff01)],
      regs' := [(0, 0x80000000)] } = true := by
  decide +kernel

/-- 97_test_vectors_instructions.md §2.12.2, `subs r0, #1`. -/
theorem test_tSubImm8 : Case.ok
    { word := 0x3801, thumb := true, flags' := 0b00110, regs := [(0, 0x80000000)],
      regs' := [(0, 0x7fffffff)] } = true := by
  decide +kernel

/-- 97_test_vectors_instructions.md §2.12.2, `ands r0, r1`. -/
theorem test_tAnd : Case.ok
    { word := 0x4008, thumb := true, flags := 0b00010, flags' := 0b10010,
      regs := [(0, 0xf0f0f0f0), (1, 0xff00ff00)], regs' := [(0, 0xf000f000)] } = true := by
  decide +kernel

/-- 97_test_vectors_instructions.md §2.12.2, `eors r0, r1`. -/
theorem test_tEor : Case.ok
    { word := 0x4048, thumb := true, flags := 0b00100, flags' := 0b01100,
      regs := [(0, 0x12345678), (1, 0x12345678)], regs' := [(0, 0)] } = true := by
  decide +kernel

/-- 97_test_vectors_instructions.md §2.12.1, `lsls r0, r1`. -/
theorem test_tLslReg : Case.ok
    { word := 0x4088, thumb := true, flags' := 0b01100, regs := [(0, 1), (1, 0x20)],
      regs' := [(0, 0)] } = true := by
  decide +kernel

/-- 97_test_vectors_instructions.md §2.12.1, `lsrs r0, r1`. -/
theorem test_tLsrReg : Case.ok
    { word := 0x40C8, thumb := true, regs := [(0, 0x80000000), (1, 0x1f)], regs' := [(0, 1)] } = true := by
  decide +kernel

/-- 97_test_vectors_instructions.md §2.12.1, `asrs r0, r1`. -/
theorem test_tAsrReg : Case.ok
    { word := 0x4108, thumb := true, flags' := 0b10100, regs := [(0, 0x80000000), (1, 0x28)],
      regs' := [(0, 0xffffffff)] } = true := by
  decide +kernel

/-- 97_test_vectors_instructions.md §2.12.2, `adcs r0, r1`. -/
theorem test_tAdc : Case.ok
    { word := 0x4148, thumb := true, flags := 0b00100, flags' := 0b01100, regs := [(0, 0xffffffff), (1, 0)],
      regs' := [(0, 0)] } = true := by
  decide +kernel

/-- 97_test_vectors_instructions.md §2.12.2, `sbcs r0, r1`. -/
theorem test_tSbc : Case.ok
    { word := 0x4188, thumb := true, flags' := 0b10000, regs := [(0, 5), (1, 5)],
      regs' := [(0, 0xffffffff)] } = true := by
  decide +kernel

/-- 97_test_vectors_instructions.md §2.12.1, `rors r0, r1`. -/
theorem test_tRor : Case.ok
    { word := 0x41C8, thumb := true, regs := [(0, 0x80000001), (1, 4)], regs' := [(0, 0x18000000)] } = true := by
  decide +kernel

/-- 97_test_vectors_instructions.md §2.12.2, `tst r0, r1`. -/
theorem test_tTst : Case.ok
    { word := 0x4208, thumb := true, flags := 0b00100, flags' := 0b01100,
      regs := [(0, 0xff00), (1, 0xff)] } = true := by
  decide +kernel

/-- 97_test_vectors_instructions.md §2.12.2, `negs r0, r1`. -/
theorem test_tNeg : Case.ok
    { word := 0x4248, thumb := true, flags' := 0b10010, regs := [(1, 0x80000000)],
      regs' := [(0, 0x80000000)] } = true := by
  decide +kernel

/-- 97_test_vectors_instructions.md §2.12.2, `cmp r0, r1`. -/
theorem test_tCmpReg : Case.ok
    { word := 0x4288, thumb := true, flags' := 0b10010, regs := [(0, 0), (1, 0x80000000)] } = true := by
  decide +kernel

/-- 97_test_vectors_instructions.md §2.12.2, `cmn r0, r1`. -/
theorem test_tCmn : Case.ok
    { word := 0x42C8, thumb := true, flags' := 0b01100, regs := [(0, 1), (1, 0xffffffff)] } = true := by
  decide +kernel

/-- 97_test_vectors_instructions.md §2.12.2, `orrs r0, r1`. -/
theorem test_tOrr : Case.ok
    { word := 0x4308, thumb := true, flags' := 0b10000, regs := [(0, 0x80000000), (1, 1)],
      regs' := [(0, 0x80000001)] } = true := by
  decide +kernel

/-- 97_test_vectors_instructions.md §2.12.2, `muls r0, r1, r0`. -/
theorem test_tMul : Case.ok
    { word := 0x4348, thumb := true, flags := 0b00100, flags' := 0b01100, regs := [(0, 0x10000), (1, 0x10000)],
      regs' := [(0, 0)] } = true := by
  decide +kernel

/-- 97_test_vectors_instructions.md §2.12.2, `bics r0, r1`. -/
theorem test_tBic : Case.ok
    { word := 0x4388, thumb := true, flags' := 0b01000, regs := [(0, 0xff), (1, 0xff)],
      regs' := [(0, 0)] } = true := by
  decide +kernel

/-- 97_test_vectors_instructions.md §2.12.2, `mvns r0, r1`. -/
theorem test_tMvn : Case.ok
    { word := 0x43C8, thumb := true, flags' := 0b01000, regs := [(1, 0xffffffff)] } = true := by
  decide +kernel

/-- 97_test_vectors_instructions.md §2.12.2, `add r8, r1`. -/
theorem test_tAddHigh : Case.ok
    { word := 0x4488, thumb := true, flags := 0b00100, regs := [(1, 5), (8, 3)], regs' := [(8, 8)] } = true := by
  decide +kernel

/-- 97_test_vectors_instructions.md §2.12.2, `cmp r0, r8`. -/
theorem test_tCmpHigh : Case.ok
    { word := 0x4540, thumb := true, flags' := 0b01100, regs := [(0, 5), (8, 5)] } = true := by
  decide +kernel

/-- 97_test_vectors_instructions.md §2.12.2, `mov pc, lr`. -/
theorem test_tMovHigh : Case.ok
    { word := 0x46F7, thumb := true, regs := [(14, 0x9001)], pc' := 0x9000 } = true := by
  decide +kernel

/-- 97_test_vectors_instructions.md §2.12.3, `ldr r0, [pc, #4]`. -/
theorem test_tLdrPc : Case.ok
    { word := 0x4801, thumb := true,
      mem := [(0x1000, 0x11223344), (0x1004, 0x80ff7f01), (0x1008, 0xcafebabe), (0x8008, 0xabcd1234)],
      regs' := [(0, 0xabcd1234)] } = true := by
  decide +kernel

/-- 97_test_vectors_instructions.md §2.12.3, `str r0, [r1, r2]`. -/
theorem test_tStrReg : Case.ok
    { word := 0x5088, thumb := true, regs := [(0, 0xdeadbeef), (1, 0x1000), (2, 8)],
      mem := [(0x1000, 0x11223344), (0x1004, 0x80ff7f01), (0x1008, 0xcafebabe)],
      mem' := [(0x1008, 0xdeadbeef)] } = true := by
  decide +kernel

/-- 97_test_vectors_instructions.md §2.12.3, `strh r0, [r1, r2]`. -/
theorem test_tStrhReg : Case.ok
    { word := 0x5288, thumb := true, regs := [(0, 0xdeadbeef), (1, 0x1000), (2, 0)],
      mem := [(0x1000, 0x11223344), (0x1004, 0x80ff7f01), (0x1008, 0xcafebabe)],
      mem' := [(0x1000, 0x1122beef)] } = true := by
  decide +kernel

/-- 97_test_vectors_instructions.md §2.12.3, `strb r0, [r1, r2]`. -/
theorem test_tStrbReg : Case.ok
    { word := 0x5488, thumb := true, regs := [(0, 0xdeadbeef), (1, 0x1000), (2, 2)],
      mem := [(0x1000, 0x11223344), (0x1004, 0x80ff7f01), (0x1008, 0xcafebabe)],
      mem' := [(0x1000, 0x11ef3344)] } = true := by
  decide +kernel

/-- 97_test_vectors_instructions.md §2.12.3, `ldrsb r0, [r1, r2]`. -/
theorem test_tLdrsb : Case.ok
    { word := 0x5688, thumb := true, regs := [(1, 0x1000), (2, 7)],
      mem := [(0x1000, 0x11223344), (0x1004, 0x80ff7f01), (0x1008, 0xcafebabe)],
      regs' := [(0, 0xffffff80)] } = true := by
  decide +kernel

/-- 97_test_vectors_instructions.md §2.12.3, `ldr r0, [r1, r2]`. -/
theorem test_tLdrReg : Case.ok
    { word := 0x5888, thumb := true, regs := [(1, 0x1000), (2, 8)],
      mem := [(0x1000, 0x11223344), (0x1004, 0x80ff7f01), (0x1008, 0xcafebabe)],
      regs' := [(0, 0xcafebabe)] } = true := by
  decide +kernel

/-- 97_test_vectors_instructions.md §2.12.3, `ldrh r0, [r1, r2]`. -/
theorem test_tLdrhReg : Case.ok
    { word := 0x5A88, thumb := true, regs := [(1, 0x1000), (2, 2)],
      mem := [(0x1000, 0x11223344), (0x1004, 0x80ff7f01), (0x1008, 0xcafebabe)],
      regs' := [(0, 0x1122)] } = true := by
  decide +kernel

/-- 97_test_vectors_instructions.md §2.12.3, `ldrb r0, [r1, r2]`. -/
theorem test_tLdrbReg : Case.ok
    { word := 0x5C88, thumb := true, regs := [(1, 0x1000), (2, 3)],
      mem := [(0x1000, 0x11223344), (0x1004, 0x80ff7f01), (0x1008, 0xcafebabe)], regs' := [(0, 0x11)] } = true := by
  decide +kernel

/-- 97_test_vectors_instructions.md §2.12.3, `ldrsh r0, [r1, r2]`. -/
theorem test_tLdrsh : Case.ok
    { word := 0x5E88, thumb := true, regs := [(1, 0x1000), (2, 6)],
      mem := [(0x1000, 0x11223344), (0x1004, 0x80ff7f01), (0x1008, 0xcafebabe)],
      regs' := [(0, 0xffff80ff)] } = true := by
  decide +kernel

/-- 97_test_vectors_instructions.md §2.12.3, `str r0, [r1, #4]`. -/
theorem test_tStrImm : Case.ok
    { word := 0x6048, thumb := true, regs := [(0, 0xdeadbeef), (1, 0x1000)],
      mem := [(0x1000, 0x11223344), (0x1004, 0x80ff7f01), (0x1008, 0xcafebabe)],
      mem' := [(0x1004, 0xdeadbeef)] } = true := by
  decide +kernel

/-- 97_test_vectors_instructions.md §2.12.3, `ldr r0, [r1, #4]`. -/
theorem test_tLdrImm : Case.ok
    { word := 0x6848, thumb := true, regs := [(1, 0x1000)],
      mem := [(0x1000, 0x11223344), (0x1004, 0x80ff7f01), (0x1008, 0xcafebabe)],
      regs' := [(0, 0x80ff7f01)] } = true := by
  decide +kernel

/-- 97_test_vectors_instructions.md §2.12.3, `strb r0, [r1, #1]`. -/
theorem test_tStrbImm : Case.ok
    { word := 0x7048, thumb := true, regs := [(0, 0xdeadbeef), (1, 0x1000)],
      mem := [(0x1000, 0x11223344), (0x1004, 0x80ff7f01), (0x1008, 0xcafebabe)],
      mem' := [(0x1000, 0x1122ef44)] } = true := by
  decide +kernel

/-- 97_test_vectors_instructions.md §2.12.3, `ldrb r0, [r1, #7]`. -/
theorem test_tLdrbImm : Case.ok
    { word := 0x79C8, thumb := true, regs := [(1, 0x1000)],
      mem := [(0x1000, 0x11223344), (0x1004, 0x80ff7f01), (0x1008, 0xcafebabe)], regs' := [(0, 0x80)] } = true := by
  decide +kernel

/-- 97_test_vectors_instructions.md §2.12.3, `strh r0, [r1, #2]`. -/
theorem test_tStrhImm : Case.ok
    { word := 0x8048, thumb := true, regs := [(0, 0xdeadbeef), (1, 0x1000)],
      mem := [(0x1000, 0x11223344), (0x1004, 0x80ff7f01), (0x1008, 0xcafebabe)],
      mem' := [(0x1000, 0xbeef3344)] } = true := by
  decide +kernel

/-- 97_test_vectors_instructions.md §2.12.3, `ldrh r0, [r1, #6]`. -/
theorem test_tLdrhImm : Case.ok
    { word := 0x88C8, thumb := true, regs := [(1, 0x1000)],
      mem := [(0x1000, 0x11223344), (0x1004, 0x80ff7f01), (0x1008, 0xcafebabe)],
      regs' := [(0, 0x80ff)] } = true := by
  decide +kernel

/-- 97_test_vectors_instructions.md §2.12.3, `str r0, [sp, #4]`. -/
theorem test_tStrSp : Case.ok
    { word := 0x9001, thumb := true, regs := [(0, 0xdeadbeef), (13, 0x1000)],
      mem := [(0x1000, 0x11223344), (0x1004, 0x80ff7f01), (0x1008, 0xcafebabe)],
      mem' := [(0x1004, 0xdeadbeef)] } = true := by
  decide +kernel

/-- 97_test_vectors_instructions.md §2.12.3, `ldr r0, [sp, #8]`. -/
theorem test_tLdrSp : Case.ok
    { word := 0x9802, thumb := true, regs := [(13, 0x1000)],
      mem := [(0x1000, 0x11223344), (0x1004, 0x80ff7f01), (0x1008, 0xcafebabe)],
      regs' := [(0, 0xcafebabe)] } = true := by
  decide +kernel

/-- 97_test_vectors_instructions.md §2.12.2, `add r0, pc, #4`. -/
theorem test_tAddPc : Case.ok { word := 0xA001, thumb := true, regs' := [(0, 0x8008)] } = true := by
  decide +kernel

/-- 97_test_vectors_instructions.md §2.12.2, `add r0, sp, #8`. -/
theorem test_tAddSp : Case.ok
    { word := 0xA802, thumb := true, regs := [(13, 0x2001000)], regs' := [(0, 0x2001008)] } = true := by
  decide +kernel

/-- 97_test_vectors_instructions.md §2.12.2, `add sp, #16`. -/
theorem test_tIncSp : Case.ok
    { word := 0xB004, thumb := true, regs := [(13, 0x2001000)], regs' := [(13, 0x2001010)] } = true := by
  decide +kernel

/-- 97_test_vectors_instructions.md §2.12.2, `sub sp, #16`. -/
theorem test_tDecSp : Case.ok
    { word := 0xB084, thumb := true, regs := [(13, 0x2001000)], regs' := [(13, 0x2000ff0)] } = true := by
  decide +kernel

/-- 97_test_vectors_instructions.md §2.12.3, `push (r4, lr)`. -/
theorem test_tPush : Case.ok
    { word := 0xB510, thumb := true, regs := [(4, 0x44), (13, 0x1008), (14, 0x8123)],
      mem := [(0x1000, 0x11223344), (0x1004, 0x80ff7f01), (0x1008, 0xcafebabe)], regs' := [(13, 0x1000)],
      mem' := [(0x1000, 0x44), (0x1004, 0x8123)] } = true := by
  decide +kernel

/-- 97_test_vectors_instructions.md §2.12.3, `pop (r4, pc)`. -/
theorem test_tPop : Case.ok
    { word := 0xBD10, thumb := true, regs := [(13, 0x2000)],
      mem := [(0x1000, 0x11223344), (0x1004, 0x80ff7f01), (0x1008, 0xcafebabe), (0x2000, 0x44), (0x2004, 0x9000)],
      regs' := [(4, 0x44), (13, 0x2008)], pc' := 0x9000, thumb' := false } = true := by
  decide +kernel

/-- 97_test_vectors_instructions.md §2.12.3, `stmia r0!, (r1, r2)`. -/
theorem test_tStmia : Case.ok
    { word := 0xC006, thumb := true, regs := [(0, 0x1000), (1, 0x11), (2, 0x22)],
      mem := [(0x1000, 0x11223344), (0x1004, 0x80ff7f01), (0x1008, 0xcafebabe)], regs' := [(0, 0x1008)],
      mem' := [(0x1000, 0x11), (0x1004, 0x22)] } = true := by
  decide +kernel

/-- 97_test_vectors_instructions.md §2.12.3, `ldmia r0!, (r1, r2)`. -/
theorem test_tLdmia : Case.ok
    { word := 0xC806, thumb := true, regs := [(0, 0x1000)],
      mem := [(0x1000, 0x11223344), (0x1004, 0x80ff7f01), (0x1008, 0xcafebabe)],
      regs' := [(0, 0x1008), (1, 0x11223344), (2, 0x80ff7f01)] } = true := by
  decide +kernel

/-- 97_test_vectors_instructions.md §2.12.4, `beq 0x8010`. -/
theorem test_tBCond : Case.ok { word := 0xD006, thumb := true, flags := 0b01000, pc' := 0x8010 } = true := by
  decide +kernel

/-- 97_test_vectors_instructions.md §2.12.4, `b 0x7804 (offset field 0x400 = -2048 bytes)`. -/
theorem test_tB : Case.ok { word := 0xE400, thumb := true, pc' := 0x7804 } = true := by
  decide +kernel

/-! Instructions that the vectors above do not reach, and the exceptions: the values are from the rules named. -/

/-- The outcome is a next state with a property. -/
def after (r : Result) (p : State → Bool) : Bool :=
  match r with
  | .next t => p t
  | .fault _ => false
  | .refused _ => false

theorem after_next {r : Result} {p : State → Bool} (h : after r p = true) : ∃ t, r = .next t ∧ p t = true := by
  cases r with
  | next t => exact ⟨t, rfl, h⟩
  | fault _ => cases h
  | refused _ => cases h

/-- Supervisor mode in ARM state, a little of memory, and R1 = 0x1000, R2 = 0x1008, R3 = 5. -/
def priv : State := words (machine 0x13 [(1, 0x1000), (2, 0x1008), (3, 5)]) [(0x1000, 0x11223344), (0x1004, 0x55667788)]

/-- The same in User mode. -/
def user : State := priv.setCpsr 0x10

/-- The same in Thumb state. -/
def thumb : State := priv.setCpsr 0x33

/-- A debug handler. -/
def handler : State := { priv.setCpsr 0xD5 with sds := true, cp14 := { priv.cp14 with dcsr := 0xC0000000 } }

/-- Halt mode outside Special Debug State: the breakpoint registers are locked. -/
def halted : State := priv.setCp14 { priv.cp14 with dcsr := 0xC0000000 }

/-- The exception that a state took: the mode, the PC, R14 and the SPSR. -/
def took (m : Mode) (pc link spsr : Word) (t : State) : Bool :=
  t.mode == m && t.core.pc == pc && t.reg 14 == link && t.spsrOf m == some spsr && bitAt t.core.cpsr 7 && !t.thumb

/-- 60_exceptions.md R672, 30_encoding.md R296. -/
theorem test_undefined_arm : ([.undefUncond 0xE123456, .undefBkptCond .al 1 2, .undefMulSpace .al 0x0400091,
    .undefArch .al 0x7F000F0, .cp0TransferOther .al true 1 2 3, .cp0Other .al 1 false 1 2 0 true 3, .mcrr .al 1 2 5 6 7,
    .mrrc .al 1 2 5 6 7, .undefLdcStc .al true 0x12345, .cdp .al 9 1 2 5 3 4, .undefRest .al 0x3000000,
    .mcr .al 0 0 1 10 0 0, .mrc .al 0 0 1 10 0 0, .ldc .al true true false true 1 8 15 0,
    .stc .al true true false true 1 8 15 0] : List Instr).all
      (fun i => after (exec i priv) (took .und 4 0x8004 0x13)) = true := by
  decide +kernel

/-- 60_exceptions.md R672, 30_encoding.md R301. -/
theorem test_undefined_thumb : ([.tUndefMisc 0x123, .tUndefDE 0xAB, .tUndefBlx 0x155, .tUndefRest 0x4701] : List Instr).all
    (fun i => after (exec i thumb) (took .und 4 0x8002 0x33)) = true := by
  decide +kernel

/-- 60_exceptions.md R673. -/
theorem test_swi : after (exec (.swi .al 0x11) user) (took .svc 8 0x8004 0x10) = true := by decide +kernel

/-- 60_exceptions.md R673. -/
theorem test_tSwi : after (exec (.tSwi 0x11) thumb) (took .svc 8 0x8002 0x33) = true := by decide +kernel

/-- 41_coprocessor_access.md R360: every function of CP15 traps in User mode. -/
theorem test_functions_in_user_mode : (functionInstrs .al 1).all (fun i => after (exec i user) (took .und 4 0x8004 0x10)) =
    true := by
  decide +kernel

/-- 61_debug_and_jtag.md R766: a breakpoint with debug off does nothing. -/
theorem test_bkpt_off : after (exec (.bkpt 1 2) priv) (fun t => t.core.pc == 0x8004) &&
    after (exec (.tBkpt 1) thumb) (fun t => t.core.pc == 0x8002) = true := by
  decide +kernel

/-- 61_debug_and_jtag.md R772: a breakpoint in Halt mode. -/
theorem test_bkpt_halt : after (exec (.bkpt 1 2) { priv with cp14 := { priv.cp14 with dcsr := 0xC0000000 } })
    (fun t => t.core.pc == 0 && t.reg 14 == 0x8004 && t.mode == .dbg && t.sds && field t.cp14.dcsr 2 3 == 3) = true := by
  decide +kernel

/-- 45_arm_branch_status.md R550. -/
theorem test_mrs : after (exec (.mrs .al false 5) priv) (fun t => t.reg 5 == 0x13) = true := by decide +kernel

/-- 45_arm_branch_status.md R551: MSR CPSR_c enters a mode; the registers of its bank are there. -/
theorem test_msrReg : after (exec (.msrReg .al false 1 3) (priv.setReg 3 0xD2)) (fun t => t.mode == .irq && t.core.cpsr == 0xD2 &&
    t.reg 14 == 0) = true := by
  decide +kernel

/-- 45_arm_branch_status.md R551: User mode writes the flags only. -/
theorem test_msrImm_user : after (exec (.msrImm .al false 9 4 0xF0) user) (fun t => t.core.cpsr == 0xF0000010) = true := by
  decide +kernel

/-- 44_arm_load_store.md R515. -/
theorem test_pld : after (exec (.pld true 1 (.imm 4) false) priv) (fun t => t.core == { priv.core with pc := 0x8004 } &&
    t.fillBuf == []) = true := by
  decide +kernel

/-- 44_arm_load_store.md R499. -/
theorem test_strt : after (exec (.strt .al true 1 3 (.imm 4)) priv) (fun t => t.memWord 0x1000 == 5 && t.reg 1 == 0x1004) =
    true := by
  decide +kernel

/-- 44_arm_load_store.md R499. -/
theorem test_strbt : after (exec (.strbt .al true 1 3 (.imm 1)) priv) (fun t => t.memWord 0x1000 == 0x11223305 &&
    t.reg 1 == 0x1001) = true := by
  decide +kernel

/-- 44_arm_load_store.md R522: LDM(2) writes the User bank. -/
theorem test_ldmUser : after (exec (.ldmUser .al .ia false 1 0x6000) priv) (fun t => t.bankedReg .usr 13 == 0x11223344 &&
    t.bankedReg .usr 14 == 0x55667788 && t.reg 13 == 0) = true := by
  decide +kernel

/-- 44_arm_load_store.md R523: LDM(3) returns from the exception. -/
theorem test_ldmRet : after (exec (.ldmRet .al .ia true 1 1) (priv.setSpsrOf .svc 0x60000030)) (fun t => t.reg 0 == 0x11223344 &&
    t.core.pc == 0x55667788 && t.core.cpsr == 0x60000030 && t.reg 1 == 0x1008) = true := by
  decide +kernel

/-- 44_arm_load_store.md R524: STM(2) stores the User bank. -/
theorem test_stmUser : after (exec (.stmUser .al .ib false 1 0x6000) (priv.setBankedReg .usr 14 7)) (fun t =>
    t.memWord 0x1004 == 0 && t.memWord 0x1008 == 7 && t.memWord 0x1000 == 0x11223344) = true := by
  decide +kernel

/-- 46_thumb.md R648: both halves of `bl` and `blx`, the values of 97_test_vectors_instructions.md §2.12.4. -/
theorem test_tBl : after (exec (.tBlHead 1) thumb) (fun t => t.reg 14 == 0x9004) &&
    after (exec (.tBlSuffix 0) (thumb.setReg 14 0x9004)) (fun t => t.core.pc == 0x9004 && t.reg 14 == 0x8003 && t.thumb) &&
    after (exec (.tBlxSuffix 0) (thumb.setReg 14 0x9006)) (fun t => t.core.pc == 0x9004 && t.reg 14 == 0x8003 && !t.thumb) =
      true := by
  decide +kernel

/-- 41_coprocessor_access.md R368, R369. -/
theorem test_ldc_stc : after (exec (.ldc .al true true false true 1 8 14 1) priv) (fun t => t.cp14.tx == 0x55667788 &&
    bitAt t.cp14.txrxctrl 28 && t.reg 1 == 0x1004) &&
    after (exec (.stc .al true true false false 1 1 14 0) (priv.setCp14 { priv.cp14 with ccnt := 9 })) (fun t =>
      t.memWord 0x1000 == 9) = true := by
  decide +kernel

/-- 41_coprocessor_access.md R363, R364; 10_state.md R64. -/
theorem test_mcr_mrc : after (exec (.mcr .al 0 1 3 15 0 0) (priv.setReg 3 0xFFFFFFFF)) (fun t => t.cp15.control == 0x3BFF) &&
    after (exec (.mrc .al 0 0 5 15 1 0) priv) (fun t => t.reg 5 == 0x0B1AA1AA) = true := by
  decide +kernel

/-- 41_coprocessor_access.md R370-R375: the functions that need no unit enabled complete. -/
theorem test_functions : ((functionInstrs .al 1).take 14 ++ ([.readDCacheLock .al 5, .writeDCacheLock .al 3] : List Instr)).all
    (fun i => after (exec i priv) (fun t => t.core.pc == 0x8004)) = true := by
  decide +kernel

/-- Supervisor mode, interrupts masked, with the MMU and both caches on; a section descriptor maps the first megabyte to itself, cacheable
and bufferable, and the second to memory that nothing caches. -/
def mapped : State :=
  words ({ priv with cp15 := { priv.cp15 with control := 0x107D, ttbr := 0x4000, dacr := 1 } }.setCpsr 0xD3)
    [(0x4000, 0x00000C0E), (0x4004, 0x00100C02)]

/-- 20_memory.md R178, R194, R216; 41_coprocessor_access.md R376, R377: locking and unlocking. -/
theorem test_locks : after (exec (.lockITlbEntry .al 1) mapped) (fun t => t.itlb.lk == 1 && (t.itlb.lookup 0x1000).isSome) &&
    after (exec (.lockDTlbEntry .al 1) (mapped.setCpsr 0x13)) (fun t => t.dtlb.lk == 1) &&
    ([.unlockITlb .al 1, .unlockDTlb .al 1, .unlockDCache .al 1, .unlockICache .al 1] : List Instr).all (fun i =>
      after (exec i mapped) (fun t => t.core.pc == 0x8004)) = true := by
  decide +kernel

/-- A routine that locks lines runs from memory that is not cacheable, 128 bytes from any that is (20_memory.md R193). -/
def locker : State :=
  match exec (.lockITlbEntry .al 1) (mapped.setPc 0x100100) with
  | .next t => { t with itlb := t.itlb.fill { TlbEntry.empty with valid := true, tag := 0x100000, base := 0x100000, aps := 0xFF } }
  | .fault _ => mapped
  | .refused _ => mapped

/-- 20_memory.md R193. -/
theorem test_lockICacheLine : after (exec (.lockICacheLine .al 1) locker) (fun t =>
    (findIline 32 (lineOf 0x1000) t.icache.lines).isSome && t.icache.lk[0] == 1) = true := by
  decide +kernel

/-- A line that a lock operation fetched and did not lock. -/
def leftOver : ILine :=
  { tag := 1, valid := true, locked := false, data := Vector.replicate 32 0, badParity := 0, downloaded := false, byLock := true }

/-- 28 lines of every set are locked, and a 29th lock left a line that is not. -/
def fullyLocked : State :=
  { locker with icache := { lines := [(28, leftOver)], rr := Vector.replicate 32 29, lk := Vector.replicate 32 28 } }

/-- 20_memory.md R193: a 30th lock allocates its line without the lock. -/
theorem test_lock_beyond_28 : after (exec (.lockICacheLine .al 1) fullyLocked) (fun t =>
    (findIline 32 (lineOf 0x1000) t.icache.lines).map (fun e => (e.1, e.2.locked)) == some (29, false) &&
      t.icache.lk[0] == 28 && t.icache.rr[0] == 30) = true := by
  decide +kernel

/-- 61_debug_and_jtag.md R771: STC and SWPB that abort in Special Debug State. -/
theorem test_sds_aborts : after (exec (.stc .al true true false true 1 1 14 1)
    { (priv.setCp15 { priv.cp15 with control := 0x7A }).setReg 1 0x1001 with sds := true }) (fun t =>
      t.reg 1 == 0x1005 && bitAt t.cp14.dcsr 5) &&
    after (exec (.swpb .al 1 4 3) { (mapped.setReg 1 0x200000).setReg 4 6 with sds := true }) (fun t =>
      t.reg 4 == 6 && t.sdsShadow == 0x10 && bitAt t.cp14.dcsr 5) = true := by
  decide +kernel

/-- 70_reset_and_hazards.md R901: a store that leaves memory as it was has written its bytes all the same. -/
theorem test_written_bytes : after (exec (.str .al .offset true 1 3 (.imm 0)) (priv.setReg 3 0x11223344)) (fun t =>
    t.mem == priv.mem && priv.writtenBytes t == [0x1000, 0x1001, 0x1002, 0x1003]) = true := by
  decide +kernel

/-- 20_memory.md R188, 60_exceptions.md R674: a line fetched ahead is in the cache, and its fetch at the PC is a hit; one fetched
ahead from a page without a translation changes only what the walk counts; one out of reach is not fetched. -/
theorem test_fetch_ahead : let s := mapped.setPc 0x8000
    after (step { s with inputs := [[.fetchAhead 0x8060]] }) (fun t => (findIline 32 (lineOf 0x8060) t.icache.lines).isSome) &&
    !(findIline 32 (lineOf 0x8060) s.icache.lines).isSome &&
    ((mapped.setPc 0x1FFFF0).fetchAhead 0x200000 == mapped.setPc 0x1FFFF0) && (s.fetchAhead 0x8080 == s) &&
    (s.fetchAhead 0x8060).mem == s.mem = true := by
  decide +kernel

/-- 61_debug_and_jtag.md R777: in Monitor mode an LDC that hits a data breakpoint and clears GE is reported. -/
theorem test_break_and_clear :
    let s := words (machine 0x13 [(1, 0x1000)]) [(0x1000, 0)]
    let s := { s.setCp14 { s.cp14 with dcsr := 0x80000000 } with cp15 := { s.cp15 with dbr0 := 0x1000, dbcon := 2 } }
    after (exec (.ldc .al true true false false 1 10 14 0) s) (fun t => !t.debugOn &&
      after (step t) (fun u => took .abt 0x10 (t.core.pc + 4) t.core.cpsr u && field u.cp14.dcsr 2 3 == 2)) = true := by
  decide +kernel

/-- 61_debug_and_jtag.md R803, 98_test_vectors_system.md §3.14: the count starts when the trace is enabled, with the MCR that does. -/
theorem test_trace_count : after (exec (.mcr .al 0 10 3 14 0 0)
    { priv.setReg 3 0x80000001 with trace := { priv.trace with cnt := 9 } }) (fun t => t.traceOn && t.trace.cnt == 1) = true := by
  decide +kernel

/-- A Supervisor mode that records its branches. -/
def tracing : State := priv.setCp14 { priv.cp14 with dcsr := 0x80000001 }

/-- 00_scope.md R18, 30_encoding.md R296(d), 61_debug_and_jtag.md R771: after an access that aborted in Special Debug State, the
NOPs `add r0, r0, #0`, `mov r0, r0` and `addeq r0, r0, #1` with Z = 0 leave its registers; `adds r0, r0, #0` and
`add r0, r1, #0` are no NOPs. -/
theorem test_nop_after_abort :
    let s := { handler.setReg 4 6 with sdsShadow := 0x10 }
    let kept (w : Word) := (s.settleShadow (decode (.arm w))).freeCtr == s.freeCtr && (s.settleShadow (decode (.arm w))).reg 4 == 6
    kept 0xE2800000 && kept 0xE1A00000 && kept 0x02800001 && !kept 0xE2900000 && !kept 0xE2810000 = true := by
  decide +kernel

/-- 98_test_vectors_system.md §3.14, row 4: the bytes and the message of `mov pc, r14` to 0x00008124 with count 2; 61_debug_and_jtag.md
R808, R812: a return from an exception and a BX from ARM to ARM state record their target as exactly. -/
theorem test_trace_targets :
    let s := { (tracing.setReg 14 0x8124).setSpsrOf .svc 0x13 with trace := { tracing.trace with cnt := 2, sinceCkpt := some 0 } }
    let recorded (i : Instr) := after (exec i s) (fun t =>
      (t.trace.buf.toList.take 5) == [0x00, 0x00, 0x81, 0x24, 0x92])
    recorded (.mov .al false 0 15 (.shiftImm 0 .lsl 14)) && recorded (.mov .al true 0 15 (.shiftImm 0 .lsl 14)) &&
      recorded (.bx .al 14) = true := by
  decide +kernel

/-- 95_test_vectors.md §1.27 and 98_test_vectors_system.md §3.12, rows 13 and 14: `swp r0, r2, [r1]` at the address of DBR0, with
DBCON.E0 = 0b11, 0b01 and 0b10. -/
theorem test_swap_breakpoint : ([3, 1, 2] : List Word).map (fun e0 =>
    let s := priv.setCp14 { priv.cp14 with dcsr := 0x80000000 }
    after (exec (.swp .al 1 0 2) { s with cp15 := { s.cp15 with dbr0 := 0x1000, dbcon := e0 } }) (fun t =>
      t.pending.dataBkpt)) = [false, true, true] := by
  decide +kernel

/-- How `State.withFetchWord` places `mov r0, #1`, and how one step runs it. -/
theorem test_first_step : after (step (State.reset.withFetchWord 32 0xE3A00001)) (fun t => t.reg 0 == 1 && t.core.pc == 4) &&
    after (step (State.reset.withFetchWord 16 0x2001)) (fun t => t.reg 0 == 1 && t.core.pc == 2) = true := by
  decide +kernel

/-- 60_exceptions.md R676, R677, R720: an interrupt input at the boundary, and the one that ends Idle. -/
theorem test_interrupt : after (step { user with inputs := [[.irq true]] }) (took .irq 0x18 0x8004 0x10) &&
    after (step { user with inputs := [[.irq true, .fiq true]] }) (took .fiq 0x1C 0x8004 0x10) &&
    after (step { user with inputs := [[.irq true]], power := .idle }) (took .irq 0x18 0x8004 0x10) = true := by
  decide +kernel

/-- 92_eei_decisions.md D1: a store to a device is a call, and memory is as before. -/
theorem test_device : after (exec (.str .al .offset true 1 3 (.imm 0))
    { priv with platform := [{ first := 0x1000, last := 0x1FFF, kind := .device }] }) (fun t =>
      t.deviceOps.length == 1 && t.memWord 0x1000 == 0x11223344 && t.core.pc == 0x8004) = true := by
  decide +kernel

/-- 70_reset_and_hazards.md R935: another bus master writes between the two words of LDM. -/
theorem test_bus_between : after (exec (.ldm .al .ia false 1 0x0030)
    { priv with midBus := [[(0x1000, 1), (0x1004, 0x99)]] }) (fun t =>
      t.reg 4 == 0x11223344 && t.reg 5 == 0x55667799 && t.midBus == []) = true := by
  decide +kernel

/-- 10_state.md R43: a load through R13 in DEBUG mode is refused, an addition to R13 and an MIA of it run. -/
theorem test_debug_stack : handler.badStackUse (.ldr .al .offset true 13 0 (.imm 0)) = true ∧
    handler.badStackUse (.add .al false 13 13 (.imm 0 4)) = false ∧ priv.badStackUse (.ldr .al .offset true 13 0 (.imm 0)) = false ∧
    handler.badStackUse (.mov .al false 0 0 (.shiftImm 0 .ror 13)) = true ∧ handler.badStackUse (.mia .al 13 13) = false := by
  decide +kernel

/-- 61_debug_and_jtag.md R842, R769: Update-DR under SELDCSR writes H and the trap bits and keeps GE. -/
theorem test_seldcsr :
    (match (halted.setJtag { halted.jtag with tap := .exit1Dr, ir := 0b01001, dbgSr := 0x280F80000 }).tck true false with
      | .ok t => t.cp14.dcsr == 0xC01F0000 && t.jtag.tap == .updateDr
      | .error _ => false) = true := by
  decide +kernel

/-- 61_debug_and_jtag.md R832: five TCKs with TMS = 1 reach Test-Logic-Reset from every state. -/
theorem test_tap_reset : ([.testLogicReset, .runTestIdle, .selectDr, .captureDr, .shiftDr, .exit1Dr, .pauseDr, .exit2Dr,
    .updateDr, .selectIr, .captureIr, .shiftIr, .exit1Ir, .pauseIr, .exit2Ir, .updateIr] : List TapState).all (fun t =>
      (((((t.next true).next true).next true).next true).next true) == .testLogicReset) = true := by
  decide +kernel

/-- 70_reset_and_hazards.md R900, R901: the reset pin resets the core and holds it. -/
theorem test_reset_pin : after (step { user with inputs := [[.resetPin true]] }) (fun t =>
    t.core.pc == 0 && t.cp15.control == 0x78 && t.jtag.held && !t.executes) = true := by
  decide +kernel

/-! Witnesses: for every statement with hypotheses, a state and operands that meet them all. -/

/-- Whether an access reaches memory. -/
def directOk (s : State) (va : Word) (w : Width) : Bool :=
  !s.mmuOn && s.fillBuf == [] && s.writeBuf == [] && s.pendBuf == [] && s.dataHit (lineOf (s.mva va)) == none &&
    (List.range w.bytes).all (fun i =>
      let a := laneAddr s.bigEndian w (s.mva va) + BitVec.ofNat 32 i
      s.regionAt a == none && !s.busError .read a && !s.busError .write a) &&
    (!s.alignChecked || !misaligned w va)

theorem direct_of {s : State} {va : Word} {w : Width} (h : directOk s va w = true) : s.Direct va w := by
  simp only [directOk, Bool.and_eq_true, Bool.not_eq_true', beq_iff_eq, List.all_eq_true, List.mem_range,
    Bool.or_eq_true] at h
  obtain ⟨⟨⟨⟨⟨⟨h1, h2⟩, h3⟩, h4⟩, h5⟩, h6⟩, h7⟩ := h
  exact ⟨h1, h2, h3, h4, h5, fun i hi => (h6 i hi).1.1, fun i hi => ⟨(h6 i hi).1.2, (h6 i hi).2⟩,
    fun ha => by rcases h7 with h7 | h7 <;> simp_all⟩

theorem direct_loads {s : State} {l : List LoadRow} (h : l.all (fun r => directOk s r.va r.width) = true) :
    ∀ r ∈ l, s.Direct r.va r.width := fun r hr => direct_of (List.all_eq_true.mp h r hr)

theorem direct_stores {s : State} {l : List StoreRow} (h : l.all (fun r => directOk s r.va r.width) = true) :
    ∀ r ∈ l, s.Direct r.va r.width := fun r hr => direct_of (List.all_eq_true.mp h r hr)

theorem direct_block_of {s : State} {va : Word} {n : Nat}
    (h : (s.midBus == [] && (List.range n).all (fun i => directOk s (va + BitVec.ofNat 32 (4 * i)) .word)) = true) :
    s.DirectBlock va n :=
  ⟨eq_of_beq (Bool.and_eq_true_iff.mp h).1, fun i hi => direct_of ((List.all_eq_true.mp (Bool.and_eq_true_iff.mp h).2) i (List.mem_range.mpr hi))⟩

theorem answers_of {s : State} {k : BusKind} {pa : Word} {n : Nat}
    (h : (List.range n).all (fun i =>
      s.regionAt (pa + BitVec.ofNat 32 i) == none && !s.busError k (pa + BitVec.ofNat 32 i)) = true) : s.Answers k pa n :=
  fun i hi => by
    have := List.all_eq_true.mp h i (List.mem_range.mpr hi)
    simpa using this

/-- An instruction at the last word of the address space has no next. -/
theorem witness_last_word : ¬ (priv.setPc 0xFFFFFFFC).hasNext ∧ (priv.setPc 0xFFFFFFF8).hasNext := by decide +kernel

theorem witness_DecodeOfEncodeArm : wellFormed (.ldr .al .preIndexed true 1 2 (.scaled 9 .asr 4)) = true ∧
    encode (.ldr .al .preIndexed true 1 2 (.scaled 9 .asr 4)) = .arm 0xE7B124C4 := by decide +kernel

theorem witness_DecodeOfEncodeThumb : wellFormed (.tLdrImm 19 3 5) = true ∧ encode (.tLdrImm 19 3 5) = .thumb 0x6CDD := by
  decide +kernel

theorem fetch_of {f : Fetch} {p : Word → State → Bool}
    (h : (match f with | .ok w s => p w s | .abort _ _ => false | .stop _ => false) = true) :
    ∃ w s, f = .ok w s ∧ p w s = true := by
  cases f with
  | ok w s => exact ⟨w, s, rfl, h⟩
  | abort _ _ => cases h
  | stop _ => cases h

/-- `mov r0, #1` at the PC. -/
def atMov : State := priv.withFetchWord 32 0xE3A00001

/-- A store to [R13] in a debug handler. -/
def atStack : State := handler.withFetchWord 32 0xE58D0000

theorem witness_StepRunsDecodedInstruction : atMov.quiet = true ∧ wellFormed (.mov .al false 0 0 (.imm 0 1)) = true ∧
    (∃ w s1, atMov.fetchWord = .ok w s1 ∧ (decode (s1.codeOf w) == .mov .al false 0 0 (.imm 0 1) &&
      !s1.staleBtb (.mov .al false 0 0 (.imm 0 1)) && !s1.badStackUse (.mov .al false 0 0 (.imm 0 1)) &&
      s1.sdsShadow == 0) = true) ∧
    atStack.quiet = true ∧
    ∃ w s1, atStack.fetchWord = .ok w s1 ∧ (!s1.staleBtb (decode (s1.codeOf w)) && s1.badStackUse (decode (s1.codeOf w))) =
      true := by
  and_intros <;> first | decide +kernel | exact fetch_of (by decide +kernel)

theorem witness_FetchReadsMemory : atMov.mmuOn = false ∧ atMov.instrHit atMov.fetchMva = none ∧
    atMov.pendBuf = [] ∧ atMov.writeBuf = [] ∧
    (∀ e ∈ atMov.dcache.lines ++ atMov.miniDCache.lines, e.2.dirtyLow = false ∧ e.2.dirtyHigh = false) ∧
    atMov.stale = Stale.none ∧ atMov.Answers .fetch (lineOf atMov.fetchMva ++ 0#5) 32 := by
  and_intros <;> first | decide +kernel | exact answers_of (by decide +kernel)

/-- A core held in reset, whose pins no longer hold it: with the JTAG instruction LDIC, in Halt mode, and with neither. -/
theorem witness_ProcessorResetValues :
    ([(0b00111, 0), (0b11110, 0x40000000), (0b11110, 0)] : List (BitVec 5 × Word)).all (fun x =>
      let s := { priv with jtag := { priv.jtag with held := true, ir := x.1 }, cp14 := { priv.cp14 with dcsr := x.2 } }
      s.jtag.held && !s.jtag.resetPin && !s.jtag.holdRst && s.jtag.ir == x.1 && s.haltMode == (x.2 != 0)) = true := by
  decide +kernel

/-- The invariants' statements and User mode: a step, and an instruction of User mode, that go on. -/
theorem witness_steps : (priv.memCanonical && priv.legalMode && priv.controlLegal && priv.pcAligned && priv.buffersBounded) =
      true ∧
    (∃ t, step atMov = .next t ∧ (t.core.pc == 0x8004) = true) ∧
    user.mode = .usr ∧ user.sds = false ∧ (∃ t, exec (.swi .al 0) user = .next t ∧ (t.mode == .svc) = true) ∧
    (∃ t, exec (.add .al true 1 2 (.imm 0 1)) user = .next t ∧ (t.mode == .usr) = true) := by
  and_intros <;> first | decide +kernel | exact after_next (by decide +kernel)

/-- R8 to R12 and R13, R14 at the ends of their ranges of numbers. -/
theorem witness_RegistersAreBanked : physReg .svc 7 = physReg .fiq 7 ∧ physReg .svc 8 ≠ physReg .fiq 8 ∧
    physReg .svc 12 ≠ physReg .fiq 12 ∧ physReg .svc 12 = physReg .usr 12 ∧ physReg .sys 13 = physReg .usr 13 ∧
    physReg .svc 14 ≠ physReg .abt 14 := by decide +kernel

theorem witness_FailedConditionDoesNothing : condOf (.b .eq 0) = some .eq ∧ condOf (.mov .eq true 0 0 (.imm 0 1)) = some .eq ∧
    condOf (.bx .eq 0) = some .eq ∧ priv.passed .eq = false ∧ priv.hasNext := by decide +kernel

/-- The shifter operand at the ends of the ranges of the shift amounts (the tables of 42_arm_data_processing.md R402,
R403), with R1 = 0x1000 and R3 the amount. -/
theorem witness_ShifterOperandValues :
    ([(0, 0x1000, false), (1, 0x2000, false), (31, 0, false)] : List (BitVec 5 × Word × Bool)).all (fun r =>
      priv.shifter (.shiftImm r.1 .lsl 1) == r.2) = true ∧
    ([(0, 0, false), (1, 0x800, false), (13, 0, true), (31, 0, false)] : List (BitVec 5 × Word × Bool)).all (fun r =>
      priv.shifter (.shiftImm r.1 .lsr 1) == r.2 && priv.shifter (.shiftImm r.1 .asr 1) == r.2) = true ∧
    priv.shifter (.shiftImm 0 .ror 1) = (0x800, false) ∧ priv.shifter (.shiftImm 31 .ror 1) = (0x2000, false) ∧
    ([(0, 0x80000001, false), (1, 2, true), (31, 0x80000000, false), (32, 0, true), (33, 0, false), (255, 0, false),
      (256, 0x80000001, false)] : List (Word × Word × Bool)).all (fun r =>
        (machine 0x13 [(1, 0x80000001), (3, r.1)]).shifter (.shiftReg 3 .lsl 1) == r.2) = true ∧
    ([(31, 1, false), (32, 0, true), (33, 0, false)] : List (Word × Word × Bool)).all (fun r =>
        (machine 0x13 [(1, 0x80000001), (3, r.1)]).shifter (.shiftReg 3 .lsr 1) == r.2) = true ∧
    ([(31, 0xFFFFFFFF, false), (32, 0xFFFFFFFF, true), (255, 0xFFFFFFFF, true)] : List (Word × Word × Bool)).all (fun r =>
        (machine 0x13 [(1, 0x80000001), (3, r.1)]).shifter (.shiftReg 3 .asr 1) == r.2) = true ∧
    ([(31, 3, false), (32, 0x80000001, true), (33, 0xC0000000, true)] : List (Word × Word × Bool)).all (fun r =>
        (machine 0x13 [(1, 0x80000001), (3, r.1)]).shifter (.shiftReg 3 .ror 1) == r.2) = true ∧
    priv.shifter (.imm 0 0xFF) = (0xFF, false) ∧ priv.shifter (.imm 15 0xFF) = (0x3FC, false) ∧
    priv.shifter (.imm 4 0xFF) = (0xFF000000, true) := by
  decide +kernel

theorem witness_DataProcessingResult : priv.passed .al = true ∧ (14 : Reg) ≠ 15 ∧
    (ShifterOp.shiftReg 14 .lsl 14).namesPc 14 14 = false ∧ (ShifterOp.shiftReg 15 .lsl 1).namesPc 0 0 = true ∧
    (ShifterOp.shiftReg 1 .lsl 1).namesPc 0 15 = true ∧ (dataRows priv .al true 1 0 (.imm 0 1)).length = 12 ∧ priv.hasNext := by decide +kernel

theorem witness_CompareAndTestResult : priv.passed .al = true ∧ (0 : Reg) ≠ 15 ∧
    (ShifterOp.imm 0 1).namesPc 15 0 = false ∧ (testRows priv .al 15 0 (.imm 0 1)).length = 4 ∧ priv.hasNext := by decide +kernel

/-- The branch, the refused branch, the return and the mode without an SPSR. -/
theorem witness_DataProcessingToPc : priv.passed .al = true ∧ priv.thumb = false ∧ (ShifterOp.imm 0 4).namesPc 1 15 = false ∧
    ((dataRows priv .al false 1 15 (.imm 0 4)).map (fun r => r.value.toNat % 4)).contains 0 ∧
    ((dataRows priv .al false 1 15 (.imm 0 1)).map (fun r => r.value.toNat % 4)).contains 1 ∧
    (priv.setSpsrOf .svc 0x10).spsrOf .svc = some 0x10 ∧ Mode.ofBits (field (0x10 : Word) 0 5) = some .usr ∧
    user.spsrOf user.mode = none := by decide +kernel

/-- 0, 1 and 0x80000000 are counted to 32, 31 and 0; the sums at both ends of the range of a signed word. -/
theorem witness_ClzAndSaturation : priv.passed .al = true ∧ priv.hasNext ∧
    (machine 0x13 [(1, 0x80000000)]).reg 1 = 0x80000000 ∧ clamp32 2147483648 = 2147483647 ∧
    clamp32 2147483647 = 2147483647 ∧ clamp32 (-2147483648) = -2147483648 ∧ clamp32 (-2147483649) = -2147483648 := by decide +kernel

theorem witness_MultiplyResult : priv.passed .al = true ∧ (0 : Reg) ≠ 15 ∧ (14 : Reg) ≠ 15 ∧ (0 : Reg) ≠ 1 ∧ priv.hasNext := by decide +kernel

theorem witness_LongMultiplyResult : priv.passed .al = true ∧
    ([(0, 1, 2, 3), (14, 13, 12, 12)] : List (Reg × Reg × Reg × Reg)).all (fun r => r.1 != 15 && r.2.1 != 15 &&
      r.2.2.1 != 15 && r.2.2.2 != 15 && r.1 != r.2.1 && r.1 != r.2.2.2 && r.2.1 != r.2.2.2) = true ∧ priv.hasNext := by decide +kernel

theorem witness_HalfMultiplyResult : priv.passed .al = true ∧
    ([(0, 1, 2, 3), (14, 13, 14, 14)] : List (Reg × Reg × Reg × Reg)).all (fun r => r.1 != 15 && r.2.1 != 15 &&
      r.2.2.1 != 15 && r.2.2.2 != 15 && r.1 != r.2.1) = true ∧ priv.hasNext := by decide +kernel

/-- Coprocessor 0 allowed. -/
def withCp0 : State := priv.setCp15 { priv.cp15 with cpar := 1 }

theorem witness_AccumulatorInstructions : withCp0.passed .al = true ∧ bitAt withCp0.cp15.cpar 0 = true ∧ withCp0.hasNext ∧
    (2 : Reg) ≠ 15 ∧ (1 : Reg) ≠ 2 ∧ (∃ t, exec (.mar .al 2 1) withCp0 = .next t ∧
      after (exec (.mra .al 2 1) t) (fun u => u.reg 1 == 0x1000) = true) := by
  and_intros <;> first | decide +kernel | exact after_next (by decide +kernel)

/-- Each kind of forbidden operand. -/
theorem witness_ForbiddenOperandsAreRefused : priv.passed .al = true ∧ bitAt withCp0.cp15.cpar 0 = true ∧ priv.mode ≠ .dbg ∧
    (Offset2.scaled 0 .lsl 15).namesPc = true ∧ (Offset3.reg 0 15).namesPc = true ∧ Indexing.preIndexed ≠ .offset ∧
    priv.alignChecked = false ∧ (accessAddress .offset true (priv.reg 1) 1).toNat % 2 = 1 ∧ (14 : Reg).toNat % 2 = 0 ∧
    (Offset3.reg 0 2).reg? = some 2 ∧ bitAt (0x8002 : BitVec 16) (1 : Reg).toNat = true ∧ user.spsrOf user.mode = none ∧
    priv.spsrOf priv.mode ≠ none ∧ handler.mode = .dbg ∧ handler.passed .al = true ∧
    (Offset2.scaled 0 .ror 1).isRrx = true ∧ priv.mode ≠ .usr ∧ user.mode = .usr := by
  decide +kernel

theorem witness_UndefinedAndSwiAreTaken : priv.passed .al = true ∧ priv.sds = false ∧ handler.passed .al = true ∧
    handler.sds = true := by decide +kernel

theorem witness_ForbiddenTraps : priv.passed .al = true ∧ priv.sds = false ∧ bitAt priv.cp15.cpar 0 = false ∧ user.mode = .usr ∧
    user.passed .al = true ∧ user.sds = false ∧ (13 : BitVec 4) ≠ 14 ∧ (13 : BitVec 4) ≠ 15 ∧ (15 : Reg).toNat % 2 = 1 := by
  decide +kernel

/-- Monitor mode. -/
def monitored : State := priv.setCp14 { priv.cp14 with dcsr := 0x80000000 }

/-- Debug off, Halt mode, Monitor mode. -/
theorem witness_BreakpointIsTaken : bitAt priv.cp14.dcsr 31 = false ∧ priv.hasNext ∧
    (bitAt halted.cp14.dcsr 31 = true ∧ halted.sds = false ∧ bitAt halted.cp14.dcsr 30 = true) ∧
    (bitAt monitored.cp14.dcsr 31 = true ∧ monitored.sds = false ∧ bitAt monitored.cp14.dcsr 30 = false) ∧
    handler.sds = true := by decide +kernel

theorem witness_ArmBranches : priv.thumb = false ∧ priv.passed .al = true := by decide +kernel

/-- The outcome is a refusal. -/
def stops (r : Result) (e : Refusal) : Bool :=
  match r with
  | .next _ => false
  | .fault _ => false
  | .refused x => x == e

/-- The targets 0b00, 0b01, 0b10 and 0b11 of an interworking branch. -/
theorem witness_ExchangeBranches : priv.passed .al = true ∧ priv.thumb = false ∧ (14 : Reg) ≠ 15 ∧ thumb.thumb = true ∧
    highReg true 6 ≠ 15 ∧ highReg true 7 = 15 ∧
    after (exec (.bx .al 3) (priv.setReg 3 0x9000)) (fun t => t.core.pc == 0x9000 && !t.thumb) = true ∧
    after (exec (.bx .al 3) (priv.setReg 3 0x9001)) (fun t => t.core.pc == 0x9000 && t.thumb) = true ∧
    after (exec (.bx .al 3) (priv.setReg 3 0x9003)) (fun t => t.core.pc == 0x9002 && t.thumb) = true ∧
    stops (exec (.bx .al 3) (priv.setReg 3 0x9002)) .unalignedTarget = true := by decide +kernel

theorem witness_ThumbBranches : thumb.thumb = true ∧ thumb.passed .ne = true ∧ thumb.hasNext := by decide +kernel

theorem witness_StatusRead : priv.passed .al = true ∧ priv.hasNext ∧ (14 : Reg) ≠ 15 ∧ priv.spsrOf priv.mode = some 0 ∧
    user.mode = .usr ∧ (user.setCpsr 0x1F).mode = .sys := by decide +kernel

/-- A legal mode, DEBUG mode in DEBUG mode, and User mode outside Special Debug State. -/
theorem witness_StatusWrite : priv.passed .al = true ∧ priv.hasNext ∧ priv.mode ≠ .usr ∧
    Mode.ofBits (field (0xD2 : Word) 0 5) = some .irq ∧ Mode.ofBits (field (0x10 : Word) 0 5) = some .usr ∧ priv.sds = false ∧
    Mode.ofBits (field (0x15 : Word) 0 5) = some .dbg ∧ handler.mode = .dbg ∧ priv.spsrOf priv.mode = some 0 ∧
    user.spsrOf user.mode = none := by decide +kernel

theorem witness_ArmLoads : priv.passed .al = true ∧ (0 : Reg) ≠ 15 ∧ priv.mode ≠ .dbg ∧ priv.hasNext ∧
    (∀ r ∈ loadRows2 priv .al .offset true 1 0 (.imm 3), priv.Direct r.va r.width) ∧
    (∀ r ∈ loadRows2 priv .al .postIndexed true 1 0 (.scaled 0 .ror 2), priv.Direct r.va r.width) ∧
    (∀ r ∈ loadRows3 priv .al .preIndexed true 1 0 (.imm 2), priv.Direct r.va r.width) ∧
    (∀ r ∈ loadRows3 priv .al .preIndexed true 1 0 (.imm 2), r.va.toNat % 2 = 0) := by
  and_intros <;> first | decide +kernel | exact direct_loads (by decide +kernel)

theorem witness_ArmStores : priv.passed .al = true ∧ priv.memCanonical = true ∧ priv.hasNext ∧ (3 : Reg) ≠ 15 ∧
    (∀ r ∈ storeRows2 priv .al .postIndexed true 1 3 (.imm 3), priv.Direct r.va r.width) ∧
    priv.Direct (accessAddress .preIndexed false (priv.reg 1) (priv.offset3 (.imm 2))) .half ∧
    (accessAddress .preIndexed false (priv.reg 1) (priv.offset3 (.imm 2))).toNat % 2 = 0 := by
  and_intros <;> first | decide +kernel | exact direct_of (by decide +kernel) | exact direct_stores (by decide +kernel)

/-- An aligned and an unaligned address. -/
theorem witness_LoadAndStoreOfPc : priv.passed .al = true ∧ priv.memCanonical = true ∧ priv.mode ≠ .dbg ∧ priv.hasNext ∧
    (1 : Reg) ≠ 15 ∧ priv.Direct (accessAddress .preIndexed true (priv.reg 1) (priv.offset2 (.imm 4))) .word ∧
    (accessAddress .preIndexed true (priv.reg 1) (priv.offset2 (.imm 4))).toNat % 4 = 0 ∧
    priv.Direct (accessAddress .preIndexed true (priv.reg 1) (priv.offset2 (.imm 1))) .word ∧
    (accessAddress .preIndexed true (priv.reg 1) (priv.offset2 (.imm 1))).toNat % 4 ≠ 0 ∧ priv.alignChecked = false := by
  and_intros <;> first | decide +kernel | exact direct_of (by decide +kernel)

theorem witness_DoublewordTransfers : priv.passed .al = true ∧ priv.memCanonical = true ∧ priv.midBus = [] ∧ priv.hasNext ∧
    (12 : Reg).toNat % 2 = 0 ∧ (12 : Reg) ≠ 14 ∧ (1 : Reg) ≠ 15 ∧ (1 : Reg) ≠ 12 + 1 ∧
    (accessAddress .preIndexed true (priv.reg 1) (priv.offset3 (.imm 8))).toNat % 8 = 0 ∧ priv.Direct 0x1008 .word ∧
    priv.Direct (0x1008 + 4) .word := by
  and_intros <;> first | decide +kernel | exact direct_of (by decide +kernel)

theorem allowed_of {r : Except Refusal (Option AbortCause)}
    (h : (match r with | .ok none => true | .ok (some _) => false | .error _ => false) = true) : r = .ok none := by
  cases r with
  | ok o => cases o with
    | none => rfl
    | some _ => cases h
  | error _ => cases h

/-- A section entry of the data TLB, cacheable and bufferable. -/
def section0 : TlbEntry := { TlbEntry.empty with valid := true, aps := 0xFF, c := true, b := true }

/-- The section is in the data TLB. -/
def preloading : State := { mapped with dtlb := mapped.dtlb.fill section0 }

/-- The check of an access lets it pass. -/
def allows (r : Except Refusal (Option AbortCause)) : Bool :=
  match r with
  | .ok none => true
  | .ok (some _) => false
  | .error _ => false

/-- A section that User mode may not touch. -/
def closed : TlbEntry := { section0 with aps := 0x55 }

/-- That section is in the data TLB. -/
def guarded : State := { mapped with dtlb := mapped.dtlb.fill closed }

/-- A page that is neither cached nor buffered, in the data TLB. -/
def plainPage : TlbEntry := { TlbEntry.empty with valid := true, aps := 0xFF, base := 0x00100000 }
def paged : State := { mapped with dtlb := mapped.dtlb.fill plainPage }

theorem paged_of {s : State} {va : Word} {e : TlbEntry} {w : Bool}
    (h : (s.mmuOn && s.dtlb.lookup (s.mva va) == some e && allows (s.checkAccess e (s.mva va) s.privileged w) && !e.x && !e.c &&
      !e.b && va.toNat % 4 == 0 && s.fillBuf == [] && s.writeBuf == [] && s.pendBuf == [] &&
      s.dataHit (lineOf (s.mva va)) == none && (List.range 4).all (fun i =>
        s.regionAt (e.pa (s.mva va) + BitVec.ofNat 32 i) == none &&
        !s.busError (if w then .write else .read) (e.pa (s.mva va) + BitVec.ofNat 32 i))) = true) : s.Paged va e w := by
  simp only [Bool.and_eq_true, beq_iff_eq, Bool.not_eq_true'] at h
  obtain ⟨⟨⟨⟨⟨⟨⟨⟨⟨⟨⟨h1, h2⟩, h3⟩, h4⟩, h5⟩, h6⟩, h7⟩, h8⟩, h9⟩, h10⟩, h11⟩, h12⟩ := h
  exact ⟨h1, h2, allowed_of h3, ⟨h4, h5, h6⟩, h7, h8, h9, h10, h11, answers_of h12⟩

/-- The section, of the mini-data cache where MD is 0b11, and the four requests that fill the fill buffer. -/
def miniSection : TlbEntry := { section0 with x := true, b := false }
def miniReserved : State :=
  { mapped with dtlb := mapped.dtlb.fill miniSection, cp15 := { mapped.cp15 with aux := 0x30 } }
def request (l : BitVec 27) : FillEntry :=
  { alloc := true, line := l, paLine := l, mini := false, data := Vector.replicate 32 0, aborts := false }
def fullFills : State := { preloading with fillBuf := [request 1, request 2, request 3, request 4] }

/-- The line is filled; then each case in which nothing happens: no entry, a page User mode may not touch, a page that is not
cached, a line on its way and one that is resident, a reserved mini-data cache; and a full fill buffer with clean caches. -/
theorem witness_PreloadIsAHint : priv.mmuOn = false ∧ priv.hasNext ∧ preloading.hasNext ∧ preloading.mmuOn = true ∧
    preloading.dcacheOn = true ∧ preloading.dtlb.lookup 0x1004 = some section0 ∧
    preloading.checkAccess section0 0x1004 preloading.privileged false = .ok none ∧ section0.c = true ∧ section0.x = false ∧
    preloading.dataHit (lineOf 0x1004) = none ∧ preloading.pendingFill (lineOf 0x1004) = none ∧
    preloading.fillBuf.length < 4 ∧ bitAt preloading.cp15.aux 0 = false ∧ (∀ x ∈ preloading.writeBuf, x.coalesces = true) ∧
    preloading.Answers .read (lineOf (section0.pa 0x1004) ++ 0#5) 32 ∧ mapped.dtlb.lookup 0x1004 = none ∧
    allows ((guarded.setCpsr 0x10).checkAccess closed 0x1004 (guarded.setCpsr 0x10).privileged false) = false ∧
    plainPage.c = false ∧ paged.dtlb.lookup 0x1004 = some plainPage ∧
    (({ preloading with fillBuf := [request (lineOf 0x1004)] } : State).pendingFill (lineOf 0x1004)).isSome = true ∧
    (({ preloading with dcache := { preloading.dcache with
      lines := [(0, .fresh (lineOf 0x1004) (lineOf 0x1004) false (Vector.replicate 32 0))] } } : State).dataHit
        (lineOf 0x1004)).isSome = true ∧
    miniReserved.dtlb.lookup 0x1004 = some miniSection ∧ (miniSection.x && !miniSection.b) = true ∧ miniReserved.miniPolicy = 3 ∧
    fullFills.dataHit (lineOf 0x1004) = none ∧ fullFills.pendingFill (lineOf 0x1004) = none ∧ fullFills.platform = [] ∧
    fullFills.extAborts = none ∧ fullFills.memCanonical = true ∧ fullFills.pendBuf = [] ∧
    (fullFills.dcache.lines ++ fullFills.miniDCache.lines).all (fun d => !d.2.dirtyLow && !d.2.dirtyHigh) = true := by
  and_intros <;> first | decide +kernel | exact allowed_of (by decide +kernel) | exact answers_of (by decide +kernel)

/-- With and without R15 in the list; the User bank; the return. -/
theorem witness_LoadMultiple : priv.passed .al = true ∧ priv.mode ≠ .dbg ∧ (1 : Reg) ≠ 15 ∧ (0x0001 : BitVec 16) ≠ 0 ∧
    bitAt (0x8001 : BitVec 16) (1 : Reg).toNat = false ∧ priv.DirectBlock (blockAddress .ia (priv.reg 1) 1).1 1 ∧
    priv.DirectBlock (blockAddress .db (priv.reg 1) 16).1 16 ∧ bitAt (0x8001 : BitVec 16) 15 = true ∧
    priv.mode ≠ .usr ∧ priv.mode ≠ .sys ∧ priv.hasNext ∧ (priv.setSpsrOf .svc 0x30).spsrOf .svc = some 0x30 ∧
    Mode.ofBits (field (0x30 : Word) 0 5) = some .usr := by
  and_intros <;> first | decide +kernel | exact direct_block_of (by decide +kernel)

theorem witness_StoreMultiple : priv.passed .al = true ∧ (1 : Reg) ≠ 15 ∧ listRegs 0x000E = [1, 2, 3] ∧
    priv.DirectBlock (blockAddress .ib (priv.reg 1) 3).1 3 ∧ priv.memCanonical = true ∧ priv.hasNext ∧
    (∀ k < 3, ∀ j < k, priv.directLane ((blockAddress .ib (priv.reg 1) 3).1 + BitVec.ofNat 32 (4 * j)) .word ≠
      priv.directLane ((blockAddress .ib (priv.reg 1) 3).1 + BitVec.ofNat 32 (4 * k)) .word) ∧ priv.mode ≠ .usr ∧
    priv.mode ≠ .sys := by
  and_intros <;> first | decide +kernel | exact direct_block_of (by decide +kernel)

theorem witness_SwapResult : priv.passed .al = true ∧ priv.hasNext ∧ priv.memCanonical = true ∧ (1 : Reg) ≠ 15 ∧
    (1 : Reg) ≠ 3 ∧ (1 : Reg) ≠ 0 ∧ priv.mode ≠ .dbg ∧ priv.Direct (priv.reg 1) .word ∧ priv.Direct (priv.reg 1) .byte := by
  and_intros <;> first | decide +kernel | exact direct_of (by decide +kernel)

/-- ADD(4) with R14 and with R15. -/
theorem witness_ThumbResults : thumb.thumb = true ∧ thumb.hasNext ∧ highReg true 6 = 14 ∧ highReg true 7 = 15 := by decide +kernel

theorem witness_ThumbLoadsAndStores : thumb.thumb = true ∧ thumb.hasNext ∧ thumb.memCanonical = true ∧
    (∀ r ∈ thumbLoadRows thumb 0 1 4 0 0, thumb.Direct r.va r.width) ∧
    (∀ r ∈ thumbLoadRows thumb 0 1 4 0 0, r.width = .half → r.va.toNat % 2 = 0) ∧
    (∀ r ∈ thumbStoreRows thumb 0 1 4 31 255, thumb.Direct r.va r.width) ∧
    (∀ r ∈ thumbStoreRows thumb 0 1 4 31 255, r.width = .half → r.va.toNat % 2 = 0) := by
  and_intros <;> first | decide +kernel | exact direct_loads (by decide +kernel) | exact direct_stores (by decide +kernel)

/-- The base of LDMIA in the list and not in it. -/
theorem witness_ThumbMultiples : thumb.thumb = true ∧ bitAt (0x06 : Byte) (1 : LowReg).toNat = true ∧
    bitAt (0x0D : Byte) (1 : LowReg).toNat = false ∧ (0x0D : Byte) ≠ 0 ∧ thumb.hasNext ∧ thumb.mode ≠ .dbg ∧
    thumb.DirectBlock (thumb.reg (1 : LowReg).reg) 3 ∧ thumb.DirectBlock (thumb.reg 13) 3 ∧
    thumb.DirectBlock (thumb.reg 13 - 12) 3 := by
  and_intros <;> first | decide +kernel | exact direct_block_of (by decide +kernel)

theorem witness_Cp15RegisterWrites : priv.passed .al = true ∧ priv.mode ≠ .usr ∧ (3 : Reg) ≠ 15 ∧ priv.hasNext ∧
    bitAt (priv.reg 3) 2 = true ∧ bitAt (priv.reg 3) 0 = true ∧ bitAt (priv.reg 2) 2 = false ∧
    bitAt ((priv.setReg 3 4).reg 3) 2 = true ∧ bitAt ((priv.setReg 3 4).reg 3) 0 = false ∧ priv.haltMode = false ∧
    priv.debugOn = false ∧ halted.haltMode = true ∧ halted.sds = false ∧ halted.passed .al = true ∧
    handler.haltMode = true ∧ handler.sds = true ∧ handler.debugOn = true ∧ handler.mode ≠ .usr ∧
    bitAt (priv.reg 2) 0 = priv.mmuOn ∧ priv.reg 3 &&& 0xFE000000 = priv.cp15.pid := by decide +kernel

theorem witness_Cp15RegisterReads : priv.passed .al = true ∧ priv.mode ≠ .usr ∧ (0 : Reg) ≠ 15 ∧ priv.hasNext := by decide +kernel

theorem witness_Cp14Registers : priv.passed .al = true ∧ priv.mode ≠ .usr ∧ priv.hasNext ∧ priv.traceOn = false ∧
    (0 : Reg) ≠ 15 := by decide +kernel

/-- The debugger's side with a JTAG instruction, a state of the TAP controller and a value in DBG_SR. -/
def scanning (tap : TapState) (ir : BitVec 5) (sr : BitVec 36) : State :=
  priv.setJtag { priv.jtag with tap := tap, ir := ir, dbgSr := sr }

/-- Each value of PWRMODE; DCSR open and locked; JTAG live, off, in each of the states; HLD_RST set with and without the reset
pin. -/
theorem witness_PowerAndDebugRegisters : priv.passed .al = true ∧ priv.mode ≠ .usr ∧ priv.hasNext ∧
    ([0, 1, 2, 3] : List Word).map (fun v => field ((priv.setReg 3 v).reg 3) 0 2) = [0, 1, 2, 3] ∧ priv.haltMode = false ∧
    halted.haltMode = true ∧ halted.sds = false ∧ priv.traceOn = false ∧
    (priv.setJtag { priv.jtag with trst := true }).jtag.trst = true ∧ ({ priv with power := .sleep } : State).power = .sleep ∧
    priv.jtag.trst = false ∧ priv.power ≠ .sleep ∧
    ([.captureDr, .shiftDr, .exit1Dr, .exit1Ir, .selectIr] : List TapState).all (fun x =>
      ([0b01001, 0b10000, 0b00010, 0b11111] : List (BitVec 5)).all (fun i =>
        (scanning x i 2).jtag.tap == x && (scanning x i 2).jtag.ir == i && i != 0b00111)) = true ∧
    bitAt (scanning .exit1Dr 0b01001 2).jtag.dbgSr 1 = true ∧ bitAt (scanning .exit1Dr 0b01001 4).jtag.dbgSr 1 = false ∧
    (scanning .exit1Dr 0b01001 2).jtag.resetPin = false ∧ (scanning .exit1Dr 0b01001 2).jtag.holdRst = false := by
  decide +kernel

theorem witness_CoprocessorLoadStore : priv.passed .al = true ∧ priv.mode ≠ .usr ∧ priv.mode ≠ .dbg ∧ priv.hasNext ∧
    (1 : Reg) ≠ 15 ∧ priv.Direct (addedOffset true (priv.reg 1) ((1 : Byte).zeroExtend 32 * 4)) .word ∧
    priv.Direct (priv.reg 1) .word ∧ priv.memCanonical = true := by
  and_intros <;> first | decide +kernel | exact direct_of (by decide +kernel)

/-- A line of the data cache at 0x1000. -/
def line0 : DLine :=
  { tag := lineTag (lineOf 0x1000), valid := true, locked := false, data := Vector.replicate 32 7, dirtyLow := false,
    dirtyHigh := true, paLine := lineOf 0x1000, badParity := 0 }

/-- It is in the cache. -/
def lined : State := { mapped with dcache := { DCache.reset with lines := [(0, line0)] } }

/-- 20_memory.md R256: a fetch gets memory and not a clean line of the data cache; a dirty one is what a store has made. -/
theorem test_fetch_sees_memory : (lined.mappedWords 0x1000 0x1000).all (fun w => w == 0x11223344) = true ∧
    (lined.mappedWords 0x1010 0x1010).contains 0x07070707 = true := by decide +kernel

/-- With a line in the data cache, dirty in its upper half, and without. -/
theorem witness_CacheAndTlbFunctions : priv.passed .al = true ∧ priv.mode ≠ .usr ∧ (1 : Reg) ≠ 15 ∧ priv.hasNext ∧
    priv.fillBuf = [] ∧ priv.platform = [] ∧ priv.extAborts = none ∧ priv.memCanonical = true ∧ priv.mmuOn = false ∧
    priv.cp15.dlock = false ∧ priv.dataHit (lineOf (priv.reg 1)) = none ∧ lined.passed .al = true ∧ lined.mode ≠ .usr ∧
    lined.hasNext ∧ (lined.dataHit (lineOf (lined.reg 1))).map (fun h => h.line.dirtyHigh) = some true := by decide +kernel

theorem walk_of {w : Translation} {p : TlbEntry → State → Bool}
    (h : (match w with | .ok e s => p e s | .fault _ _ => false | .stop _ => false) = true) :
    ∃ e s, w = .ok e s ∧ p e s = true := by
  cases w with
  | ok e s => exact ⟨e, s, rfl, h⟩
  | fault _ _ => cases h
  | stop _ => cases h

/-- A line fill of the mini-data cache is outstanding. -/
def miniFill : FillEntry :=
  { alloc := true, line := 0, paLine := 0, mini := true, data := Vector.replicate 32 0, aborts := false }
def fillingMini : State := priv.addFill miniFill

theorem witness_LockFunctions : mapped.passed .al = true ∧ mapped.mode ≠ .usr ∧ (1 : Reg) ≠ 15 ∧ mapped.hasNext ∧
    mapped.icacheOn = true ∧ mapped.dcacheOn = true ∧ mapped.mmuOn = true ∧ priv.icacheOn = false ∧
    bitAt (mapped.reg 1) 0 = false ∧ mapped.miniOutstanding = false ∧ bitAt (priv.reg 3) 0 = true ∧
    fillingMini.miniOutstanding = true ∧
    bitAt mapped.core.cpsr 7 = true ∧ bitAt mapped.core.cpsr 6 = true ∧
    (∃ e s1, mapped.walk (mapped.reg 1) = .ok e s1 ∧ allows (mapped.checkAccess e (mapped.reg 1) true false) = true) ∧
    mapped.itlb.lookup (mapped.reg 1) = none ∧ mapped.dtlb.lookup (mapped.reg 1) = none ∧
    bitAt (mapped.setCpsr 0x13).core.cpsr 7 = false ∧ (mapped.setCpsr 0x13).mmuOn = true ∧
    (mapped.setCpsr 0x13).itlb.lookup ((mapped.setCpsr 0x13).reg 1) = none ∧
    locker.routinePlaced = true ∧ locker.icacheReady = true ∧ locker.icacheOn = true ∧
    bitAt locker.core.cpsr 7 = true ∧ bitAt locker.core.cpsr 6 = true ∧
    findIline 32 (lineOf (locker.reg 1)) locker.icache.lines = none ∧
    fullyLocked.icacheReady = true ∧ fullyLocked.icache.lk[(lineSet (lineOf (fullyLocked.reg 1))).toFin] = 28 ∧
    ((locker.itlb.lookup (locker.reg 1)).map (fun e => e.c && allows (locker.checkAccess e (locker.reg 1) true false) &&
      e.pa (locker.reg 1) == 0x1000)) = some true ∧ locker.Answers .fetch (lineOf 0x1000 ++ 0#5) 32 := by
  and_intros <;> first | decide +kernel | exact walk_of (by decide +kernel) | exact answers_of (by decide +kernel)

/-- Alignment is checked. -/
def checked : State := priv.setCp15 { priv.cp15 with control := 0x7A }

/-- An address without a descriptor. -/
def unmapped : State := mapped.setReg 1 0x200000

theorem fault_of {r : Translation} {c : AbortCause}
    (h : (match r with | .fault x _ => x == c | .ok _ _ => false | .stop _ => false) = true) : ∃ s, r = .fault c s := by
  cases r with
  | fault x s => exact ⟨s, by rw [beq_iff_eq.mp h]⟩
  | ok _ _ => cases h
  | stop _ => cases h

/-- A page without access in a domain that has none, after a page that a block may use: the block at R1 crosses into it. -/
def noAccess : TlbEntry := { plainPage with tag := 0x100000, domain := 1 }
def crossing : State := { paged with dtlb := paged.dtlb.fill noAccess }.setReg 1 0xFFFFC

/-- 44_arm_load_store.md R525: an LDM whose second word aborts keeps its base, and FAR is the address of that word. -/
theorem test_ldm_crosses : after (exec (.ldm .al .ia true 1 0x000C) crossing) (fun t =>
    t.reg 1 == 0xFFFFC && t.reg 3 == 5 && t.core.pc == 0x10 && t.reg 14 == 0x8008 && t.cp15.far == 0x100000 &&
      field t.cp15.fsr 0 8 == 0x19) = true := by
  decide +kernel

/-- Alignment checked and a misaligned address; a pair off a multiple of 8; a translation that faults, of a word and of a pair:
the third megabyte has no descriptor; a block that starts off a word; and one whose second word is not allowed. -/
theorem witness_PreciseDataAbort :
    (checked.passed .al = true ∧ checked.sds = false ∧ checked.mode ≠ .dbg ∧ checked.mode ≠ .usr ∧ checked.alignChecked = true ∧
      (accessAddress .offset true (checked.reg 1) (checked.offset2 (.imm 1))).toNat % 4 ≠ 0 ∧
      (accessRows checked .al .postIndexed true 1 3 (.imm 1) (.imm 1)).length = 12 ∧
      ((checked.setReg 1 0x1001).reg 1).toNat % 4 ≠ 0) ∧
    (accessAddress .offset true (priv.reg 1) (priv.offset3 (.imm 4))).toNat % 8 ≠ 0 ∧
    (unmapped.passed .al = true ∧ unmapped.sds = false ∧ unmapped.mode ≠ .dbg ∧ unmapped.alignChecked = false ∧
      unmapped.mmuOn = true ∧ (unmapped.reg 1).toNat % 8 = 0 ∧
      (.translationSection, 0b0101, none) ∈ faultRows 0 ∧
      (∃ s1, (unmapped.noteAccess .word (unmapped.mva 0x200000) false).translateChecked .data
        (unmapped.mva 0x200000) (unmapped.mode != .usr) false = .fault .translationSection s1) ∧
      (∃ s1, (unmapped.noteAccess .half (unmapped.mva 0x200000) true).translateChecked .data
        (unmapped.mva 0x200000) (unmapped.mode != .usr) true = .fault .translationSection s1)) ∧
    (crossing.passed .al = true ∧ crossing.sds = false ∧ crossing.mode ≠ .dbg ∧ crossing.mode ≠ .usr ∧ crossing.mode ≠ .sys ∧
      crossing.midBus = [] ∧ crossing.mmuOn = true ∧ (crossing.spsrOf crossing.mode).isSome = true ∧
      bitAt (0x000C : BitVec 16) (1 : Reg).toNat = false ∧ (listRegs 0x000C).length = 2 ∧
      (blockAddress .ia (crossing.reg 1) 2).1 = 0xFFFFC ∧ crossing.Paged 0xFFFFC plainPage false ∧
      crossing.Paged 0xFFFFC plainPage true ∧ crossing.dtlb.lookup (crossing.mva 0x100000) = some noAccess ∧
      crossing.checkAccess noAccess (crossing.mva 0x100000) crossing.privileged false = .ok (some (.domainSection 1)) ∧
      crossing.checkAccess noAccess (crossing.mva 0x100000) crossing.privileged true = .ok (some (.domainSection 1)) ∧
      (.domainSection 1, 0b1001, some 1) ∈ faultRows 1) := by
  and_intros <;> first | decide +kernel | exact fault_of (by decide +kernel) | exact paged_of (by decide +kernel)

/-- Both interrupt lines are asserted. -/
def signalled : State := { user with pending := { Pending.reset with irqLine := true, fiqLine := true } }

theorem abort_of {f : Fetch} {c : PrefetchCause}
    (h : (match f with | .ok _ _ => false | .abort x _ => x == c | .stop _ => false) = true) : ∃ s, f = .abort c s := by
  cases f with
  | ok _ _ => cases h
  | abort x s => exact ⟨s, by rw [beq_iff_eq.mp h]⟩
  | stop _ => cases h

/-- An imprecise abort that must be taken; a data breakpoint, and an instruction breakpoint at the PC. -/
def lateAbort : State := { user with pending := { Pending.reset with imprecise := some { parity := true, boundaries := some 0 } } }
def dataBroken : State := { halted with pending := { Pending.reset with dataBkpt := true } }
def codeBroken : State := monitored.setCp15 { monitored.cp15 with ibcr1 := 0x8001 }

/-- The data breakpoint registers watch 0x1000 for loads. -/
def watching : State := monitored.setCp15 { monitored.cp15 with dbr0 := 0x1002, dbcon := 3 }

/-- Both lines, with FIQ not masked and masked; an imprecise abort; both breakpoints; a fetch that aborts, from a page without
a descriptor and from a place without memory; a load that is watched and one that is not. -/
theorem witness_InterruptsAreTaken :
    (signalled.inputs = [] ∧ signalled.midBus = [] ∧ signalled.executes = true ∧ signalled.legalMode = true ∧
      signalled.vectorTrap = false ∧ signalled.dataBkptDue = false ∧ signalled.pending.imprecise = none ∧
      (signalled.breaksTaken && (signalled.pending.extBreak || signalled.pending.traceFull)) = false ∧ signalled.sds = false ∧
      signalled.pending.fiqLine = true ∧ signalled.pending.irqLine = true ∧ bitAt signalled.core.cpsr 6 = false ∧
      bitAt signalled.core.cpsr 7 = false ∧ bitAt (signalled.setCpsr 0x50).core.cpsr 6 = true) ∧
    (lateAbort.vectorTrap = false ∧ lateAbort.dataBkptDue = false ∧ lateAbort.executes = true ∧
      lateAbort.pending.imprecise = some { parity := true, boundaries := some 0 }) ∧
    (dataBroken.dataBkptDue = true ∧ dataBroken.vectorTrap = false ∧ dataBroken.executes = true) ∧
    (codeBroken.vectorTrap = false ∧ codeBroken.dataBkptDue = false ∧ codeBroken.pending.imprecise = none ∧
      codeBroken.fiqDue = false ∧ codeBroken.irqDue = false ∧ bitAt codeBroken.cp14.dcsr 31 = true ∧
      bitAt codeBroken.cp15.ibcr1 0 = true ∧ (codeBroken.mva codeBroken.core.pc).toNat / 4 =
        codeBroken.cp15.ibcr1.toNat / 4) ∧
    ((mapped.setPc 0x200000).quiet = true ∧ (∃ s1, (mapped.setPc 0x200000).fetchWord = .abort .mmu s1) ∧
      ∃ s1, ({ priv with platform := [{ first := 0, last := 0xFFFFF, kind := .empty }] } : State).fetchWord =
        .abort .external s1) ∧
    (∃ s1, (mapped.setPc 0x200000).translateChecked .instr ((mapped.setPc 0x200000).mva 0x200000)
      ((mapped.setPc 0x200000).mode != .usr) false = .fault .translationSection s1) ∧
    (watching.Direct 0x1000 .word ∧ watching.hasNext ∧ watching.sds = false ∧ bitAt watching.cp15.dbcon 8 = false ∧
      watching.cp15.dbr0.toNat / 4 = (watching.mva 0x1000).toNat / 4 ∧ field watching.cp15.dbcon 0 2 = 3 ∧
      field watching.cp15.dbcon 2 2 = 0 ∧ watching.Direct 0x1004 .word ∧
      watching.cp15.dbr0.toNat / 4 ≠ (watching.mva 0x1004).toNat / 4) := by
  and_intros <;> first | decide +kernel | exact abort_of (by decide +kernel) | exact fault_of (by decide +kernel) | exact direct_of (by decide +kernel)

theorem witness_ReturnUndoesEntry : user.legalMode = true ∧ user.mode ≠ .dbg ∧ user.pcAligned = true ∧ user.sds = false := by
  decide +kernel

/-- Each row of the permission table is met by an entry of a client domain; the second part by a page that User mode may
not touch; the third by a page that goes to the second megabyte. -/
theorem witness_AccessRights : mapped.domainField 0 = 1 ∧ mapped.domainField 1 = 0 ∧
    ([0, 1, 2, 3] : List (BitVec 8)).map (fun a => ({ section0 with aps := a * 0x55 } : TlbEntry).ap 0x1000) = [0, 1, 2, 3] ∧
    guarded.passed .al = true ∧ guarded.sds = false ∧ guarded.mode ≠ .usr ∧ guarded.mmuOn = true ∧
    guarded.alignChecked = false ∧ guarded.dtlb.lookup (guarded.mva (guarded.reg 1)) = some closed ∧
    guarded.domainField closed.domain = 1 ∧ closed.ap (guarded.mva (guarded.reg 1)) = 1 ∧
    paged.Paged 0x1004 plainPage false ∧ paged.Paged 0x1004 plainPage true ∧ paged.memCanonical = true ∧ paged.hasNext ∧
    paged.mode ≠ .dbg ∧ paged.passed .al = true := by
  and_intros <;> first | decide +kernel | exact paged_of (by decide +kernel)

/-- An access to it. -/
def toLine : Target := { mva := 0x1000, pa := 0x1000, x := false, c := true, b := true }

/-- The last word of the line, where its page is write-through, and its first byte, where its page stalls until complete. -/
def toThrough : Target := { mva := 0x101C, pa := 0x101C, x := false, c := true, b := false }
def toStall : Target := { mva := 0x1000, pa := 0x1000, x := false, c := false, b := false }

/-- `lined` with a byte that fails parity, the one a store to its address writes first. -/
def linedBad : State := { mapped with dcache := { DCache.reset with lines := [(0, { line0 with badParity := 1 })] } }

/-- 20_memory.md R207: in lock mode a load of a line that is in the cache unlocked hits it where its page is not cacheable, or the
cache is disabled; where it could allocate, it attempts a lock (93 U6). -/
theorem test_lock_mode_hit :
    let locking : State := { lined with cp15 := { lined.cp15 with dlock := true } }
    let hits (s : State) (t : Target) : Bool := match s.loadAt t .word with
      | .ok r => r.1 == lineValue line0.data 0 .word
      | .error _ => false
    hits locking toStall && !hits locking toLine &&
      hits { locking with cp15 := { locking.cp15 with control := locking.cp15.control &&& 0xFFFFFFFB } } toLine = true := by
  decide +kernel

/-- 20_memory.md R217, 41_coprocessor_access.md R372: the line-allocate command writes a dirty line back with no parity fault, and
the clean of the line generates one. -/
theorem test_allocate_parity :
    let s : State := { mapped with dcache :=
      { DCache.reset with lines := [(31, { line0 with dirtyLow := true, badParity := 1 })] } }
    (match s.allocateCommand 0x2000 0x2000 with
      | .ok u => u.pending.imprecise.isNone && !u.writeBuf.isEmpty && (u.dataHit (lineOf 0x2000)).isSome
      | .error _ => false) &&
    (s.cleanDcacheLine (lineOf 0x1000)).pending.imprecise.isSome = true := by
  decide +kernel

theorem witness_DataCacheHits : lined.attributeError toLine = none ∧ lined.fillBuf = [] ∧ lined.writeBuf = [] ∧
    lined.pendBuf = [] ∧ (lined.dataHit (lineOf toLine.mva)).isSome = true ∧ lined.writesBack toLine = true ∧
    (lined.dataHit (lineOf toLine.mva)).map (fun h => h.line.badParity) = some 0 ∧
    (lined.dataHit (lineOf toLine.mva)).map (fun h => lined.lockingLoad toLine h) = some false ∧
    linedBad.attributeError toLine = none ∧ linedBad.fillBuf = [] ∧ linedBad.writeBuf = [] ∧ linedBad.pendBuf = [] ∧
    linedBad.writesBack toLine = true ∧
    ([toThrough, toStall] : List Target).map (fun t =>
      (lined.attributeError t, (lined.dataHit (lineOf t.mva)).isSome, lined.writesBack t, t.stalls)) =
      [(none, true, false, false), (none, true, false, true)] ∧
    lined.memCanonical = true ∧ lined.Answers .write (toThrough.lanePa lined.bigEndian .word) 4 ∧
    lined.Answers .write (toStall.lanePa lined.bigEndian .word) 4 ∧
    (linedBad.dataHit (lineOf toLine.mva)).map (fun h =>
      h.line.badParity &&& laneMask (toLine.lane linedBad.bigEndian .word) 4 != 0) = some true := by
  and_intros <;> first | decide +kernel | exact answers_of (by decide +kernel)

theorem witness_WriteBufferIsSeen : priv.platform = [] ∧ priv.extAborts = none ∧ priv.memCanonical = true ∧ (0xFFFFFFFC : Word).toNat % 4 = 0 ∧
    (0xFFFFFFFE : Word).toNat % 2 = 0 := by decide +kernel

theorem witness_EventCounters : (2 ^ 32 - 1 < 2 ^ 32) ∧ bitAt priv.cp14.pmnc 0 = false ∧ bitAt (0x0070D001 : Word) 0 = true ∧
    field (0x0070D001 : Word) 12 8 = Event.pcChanged.number ∧ field (0x0070D001 : Word) 20 8 = Event.instrExecuted.number := by
  decide +kernel

/-- Recording, with the count below 15 and at 15, with a checkpoint due and not. -/
theorem witness_TraceMessages : tracing.traceOn = true ∧ tracing.trace.cnt ≠ 15 ∧ tracing.checkpointDue = true ∧
    { tracing with trace := { tracing.trace with cnt := 15 } }.trace.cnt = 15 ∧ tracing.trace.schedule = none ∧
    { tracing with trace := { tracing.trace with sinceCkpt := some 126 } }.checkpointDue = false ∧
    { tracing with trace := { tracing.trace with sinceCkpt := some 127 } }.checkpointDue = true := by decide +kernel

/-- A table in memory with every kind of descriptor: a section, a large, a small and an extended small page and a fault in a
coarse table, a tiny page in a fine table, and a first-level fault. -/
def tables : State :=
  words mapped [(0x4008, 0x00006001), (0x400C, 0x00007003), (0x6000, 0x00200001), (0x6004, 0x00300002), (0x6008, 0x00400003),
    (0x7000, 0x00500003)]

/-- The locks at both ends of the range of the lock pointer, and a walk of each kind. -/
theorem witness_TlbRules : (30 : BitVec 5).toNat < 31 ∧ Tlb.reset.lk.toNat ≤ Tlb.reset.rr.toNat ∧
    ([0x000000, 0x200000, 0x201000, 0x202000, 0x300000, 0x203000, 0x400000] : List Word).map (fun m =>
      match tables.walk m with
      | .ok e _ => (some (e.size, e.pa m), none)
      | .fault c _ => (none, some c)
      | .stop _ => (none, none)) =
    [(some (.section1M, 0), none), (some (.large64K, 0x200000), none), (some (.small4K, 0x300000), none),
      (some (.small4K, 0x400000), none), (some (.tiny1K, 0x500000), none), (none, some (.translationPage 0)),
      (none, some .translationSection)] ∧
    tables.Answers .walk 0x4000 4 ∧ tables.Answers .walk 0x6004 4 ∧
    ({ tables with extAborts := some [{ kind := .walk, first := 0x6000, last := 0x6FFF }] } : State).anyError .walk 0x6004 4 =
      true := by
  and_intros <;> first | decide +kernel | exact answers_of (by decide +kernel)
end Sys2Proof.Tests
end

section
/-! PROOF. The register banks and the values of reset (10_state.md R30-R34, R140). -/

namespace Sys2Proof.Machine

/-! The banks (10_state.md R32). -/

/-- Two numbers are two registers, whatever the modes. -/
theorem physReg_ne_of_ne (m m' : Mode) {n n' : Reg} (h : n ≠ 15) (h' : n' ≠ 15) (hne : n ≠ n') :
    physReg m n ≠ physReg m' n' := by
  revert n n'
  cases m <;> cases m' <;> decide

theorem State.setReg_core (s : State) (n : Reg) (v : Word) :
    (s.setReg n v).core = { s.core with regs := (s.setReg n v).core.regs } := by
  unfold State.setReg
  split <;> rfl

theorem State.setReg_regs_other (s : State) {n : Reg} (v : Word) {p : Fin 32} (hn : n ≠ 15)
    (hp : p ≠ (physReg s.mode n).toFin) : (s.setReg n v).core.regs[p] = s.core.regs[p] := by
  have hne : (physReg s.mode n).toNat ≠ p.val := fun e => hp (Fin.ext e.symm)
  simp only [State.setReg_of_ne v hn, State.setBankedReg_regs]
  exact Vector.getElem_set_ne _ _ hne

theorem State.pcRead_setReg (s : State) (n : Reg) (v : Word) : (s.setReg n v).pcRead = s.pcRead := by
  unfold State.pcRead State.thumb
  rw [State.setReg_pc, State.setReg_cpsr]

/-- Settles O14, from the table of the banks mode by mode and the rule for a read after a write. -/
theorem registersAreBanked : Obligations.RegistersAreBanked := by
  refine ⟨?shared, ?fiq, ?stack, fun m m' n n' => physReg_ne_of_ne m m', ?banked, ?frame, ?read, ?pc⟩
  case shared =>
    intro m m' n hn
    have hu : n.ult 8 = true := by simpa [BitVec.ult] using hn
    simp only [physReg, hu, if_true]
  case fiq => intro m m'; cases m <;> cases m' <;> decide
  case stack => intro m m'; cases m <;> cases m' <;> decide
  case banked =>
    intro s m m' n n' v _ _
    rw [State.bankedReg_setBankedReg]
    simp only [eq_comm]
  case frame => exact fun s n v p hn hp => ⟨s.setReg_core n v, s.setReg_regs_other v hn hp⟩
  case read =>
    intro s n n' v hn
    refine ⟨s.reg_setReg_same v hn, fun hne => ?_⟩
    by_cases h15 : n' = 15
    · rw [h15, State.reg_pc, State.reg_pc, State.pcRead_setReg]
    · exact s.reg_setReg_other v hne h15
  case pc => exact fun s => s.reg_pc

/-! Reset (10_state.md R140). -/

/-- A TLB after reset holds nothing. -/
theorem Tlb.reset_entry (i : Fin 32) : Tlb.reset.entries[i] = TlbEntry.empty := by
  simp only [Tlb.reset, Fin.getElem_fin, Vector.getElem_replicate]

/-- Nothing in a TLB after reset is valid or locked. -/
theorem Tlb.reset_clear (i : Fin 32) : Tlb.reset.entries[i].valid = false ∧ Tlb.reset.entries[i].locked = false := by
  rw [Tlb.reset_entry]
  exact ⟨rfl, rfl⟩

/-- The pointers of a cache after reset. -/
theorem replicate_getElem {n : Nat} (v : BitVec n) (i : Fin 32) : (Vector.replicate 32 v)[i] = v := by
  simp only [Fin.getElem_fin, Vector.getElem_replicate]

/-- Settles O7: the reset state is a constant. -/
theorem resetState : Obligations.ResetState := by
  have tlbs (i : Fin 32) := Tlb.reset_clear i
  refine ⟨rfl, rfl, rfl, rfl, rfl, rfl, rfl, rfl, rfl, rfl, rfl, rfl, rfl, rfl, rfl, rfl, rfl, rfl, rfl, rfl, rfl, rfl, rfl,
    fun i => ⟨(tlbs i).1, (tlbs i).1, (tlbs i).2, (tlbs i).2⟩, rfl, rfl, rfl, rfl, rfl, rfl, rfl, rfl,
    fun i => ?pointers, rfl, rfl, rfl⟩
  exact ⟨replicate_getElem _ i, replicate_getElem _ i, replicate_getElem _ i, replicate_getElem _ i⟩

/-- The low byte of the CPSR is given, the rest of it is free. -/
theorem State.resetCore_status (s : State) : field s.resetCore.cpsr 0 8 = 0xD3 := by
  apply BitVec.eq_of_getLsbD_eq
  intro i hi
  have hm : ∀ i < 8, bitAt (0xFF : Word) i = true ∧ bitAt (0xD3 : Word) i = bitAt (0xD3 : Byte) i := by decide
  have hb : bitAt s.resetCore.cpsr i = bitAt (0xD3 : Byte) i := by
    rw [State.resetCore, bitAt_merge, if_pos (hm i hi).1, (hm i hi).2]
  simpa only [field, BitVec.getLsbD_extractLsb', hi, decide_true, Bool.true_and, Nat.zero_add] using hb

/-- A mask clears the bits outside it. -/
theorem bitAt_and_of_not (w : Word) {mask : Word} {i : Nat} (h : bitAt mask i = false) : bitAt (w &&& mask) i = false := by
  simp only [bitAt] at h ⊢
  rw [BitVec.getLsbD_and, h, Bool.and_false]

theorem field_and_of_not (w : Word) {mask : Word} {lo len : Nat} (h : field mask lo len = 0) :
    field (w &&& mask) lo len = 0 := by
  simp only [field] at h ⊢
  rw [BitVec.extractLsb'_and, h]
  exact BitVec.and_zero

/-- DCSR keeps its bits 30 to 6 over a reset (61_debug_and_jtag.md R769). -/
theorem State.resetCp14_dcsr (s : State) {i : Nat} (h6 : 6 ≤ i) (h31 : i < 31) :
    bitAt s.resetCp14.dcsr i = bitAt s.cp14.dcsr i := by
  have hm : ∀ i < 31, 6 ≤ i → bitAt (0x7FFFFFC0 : Word) i = true := by decide
  rw [State.resetCp14, bitAt, BitVec.getLsbD_and]
  exact (congrArg _ (hm i h31 h6)).trans (Bool.and_true _)

/-- Memory, the instruction caches and the trace stay (R903). -/
theorem State.processorReset_kept (s : State) :
    s.processorReset.mem = s.mem ∧ s.processorReset.icache = s.icache ∧ s.processorReset.miniICache = s.miniICache ∧
      s.processorReset.trace = s.trace := by
  simp only [State.processorReset, and_self]

/-- When the reset ends, the instruction caches are as the table of R868 says. -/
theorem State.updateHold_released {s : State} (h : s.jtag.held = true) (hp : s.jtag.resetPin = false)
    (hr : s.jtag.holdRst = false) : s.updateHold = s.resetIcaches.setHeld false := by
  simp only [State.updateHold, h, hp, hr, Bool.or_self]

theorem State.resetIcaches_ldic {s : State} (h : s.jtag.ir = ldicInstr) : s.resetIcaches = s := if_pos h

theorem State.resetIcaches_halt {s : State} (h : s.jtag.ir ≠ ldicInstr) (hh : s.haltMode = true) :
    s.resetIcaches = { s with icache := .reset } := by
  rw [State.resetIcaches, if_neg h, if_pos hh]

theorem State.resetIcaches_clear {s : State} (h : s.jtag.ir ≠ ldicInstr) (hh : s.haltMode = false) :
    s.resetIcaches = s.clearIcaches := by
  rw [State.resetIcaches, if_neg h, hh, if_neg Bool.false_ne_true]

/-- Settles O8, from what the reset writes and the table of the instruction caches. -/
theorem processorResetValues : Obligations.ProcessorResetValues := by
  refine ⟨fun s => ?values, fun s hheld hpin hrst => ?ends⟩
  case values =>
    have tlbs (i : Fin 32) := Tlb.reset_clear i
    have hdcsr (i : Nat) (h6 : 6 ≤ i) (h31 : i < 31) := s.resetCp14_dcsr h6 h31
    refine ⟨s.resetCore_status, rfl, rfl, rfl, rfl, rfl, bitAt_and_of_not (s.free 45) (by decide),
      bitAt_and_of_not (s.free 46) (by decide), rfl, rfl, bitAt_and_of_not (s.free 49) (by decide),
      field_and_of_not (s.free 49) (by decide), field_and_of_not s.cp14.dcsr (by decide),
      bitAt_and_of_not s.cp14.dcsr (by decide), hdcsr, rfl, rfl, rfl, rfl,
      fun i => ⟨(tlbs i).1, (tlbs i).1, (tlbs i).2, (tlbs i).2⟩, rfl, rfl, rfl, rfl, rfl, rfl,
      fun i => ⟨replicate_getElem _ i, replicate_getElem _ i⟩, rfl, rfl, rfl, s.processorReset_kept⟩
  case ends =>
    rw [State.updateHold_released hheld hpin hrst]
    by_cases hl : s.jtag.ir = ldicInstr
    · rw [State.resetIcaches_ldic hl]
      exact ⟨rfl, rfl, rfl, fun _ => ⟨rfl, rfl⟩, fun h => absurd hl h⟩
    · cases hh : s.haltMode
      · rw [State.resetIcaches_clear hl hh]
        exact ⟨rfl, rfl, rfl, fun h => absurd h hl, fun _ => ⟨rfl, fun i => ⟨replicate_getElem _ i, replicate_getElem _ i⟩,
          fun h => absurd (hh.symm.trans h) Bool.false_ne_true, fun _ => rfl⟩⟩
      · rw [State.resetIcaches_halt hl hh]
        exact ⟨rfl, rfl, rfl, fun h => absurd h hl, fun _ => ⟨rfl, fun i => ⟨replicate_getElem _ i, replicate_getElem _ i⟩,
          fun _ => rfl, fun h => absurd (h.symm.trans hh) Bool.false_ne_true⟩⟩

end Sys2Proof.Machine
end

section
/-! PROOF. What the memory system may change: an access of the data side, a fetch, and the movements of the buffers leave the
core registers, CP15, the locks of the TLBs and of the instruction cache, and everything of CP14 but the event counters. -/

namespace Sys2Proof.Machine

/-! CP14. -/

/-- Only the event counters with their overflow flags and the checkpoint registers may differ. -/
structure SameCp14 (c d : Cp14) : Prop where
  flags : d.pmnc ||| 0x700 = c.pmnc ||| 0x700
  rest : { d with pmnc := c.pmnc, pmn0 := c.pmn0, pmn1 := c.pmn1, chkpt0 := c.chkpt0, chkpt1 := c.chkpt1 } = c

theorem SameCp14.refl (c : Cp14) : SameCp14 c c := ⟨rfl, rfl⟩

theorem SameCp14.trans {c d e : Cp14} (h : SameCp14 c d) (k : SameCp14 d e) : SameCp14 c e := by
  refine ⟨k.flags.trans h.flags, Eq.trans ?_ h.rest⟩
  exact congrArg (fun x : Cp14 => { x with
    pmnc := c.pmnc, pmn0 := c.pmn0, pmn1 := c.pmn1, chkpt0 := c.chkpt0, chkpt1 := c.chkpt1 }) k.rest

/-- Raising an overflow flag changes no other bit of PMNC (60_exceptions.md R731). -/
theorem raiseFlag_or_flags {i : Nat} (b : Bool) (w : Word) (h : i = 8 ∨ i = 9) : raiseFlag i b w ||| 0x700 = w ||| 0x700 := by
  have hb : bitAt (0x700 : Word) i = true := by rcases h with rfl | rfl <;> decide
  unfold raiseFlag
  split
  · apply BitVec.eq_of_getLsbD_eq
    intro j hj
    have hs := bitAt_setBit true w (k := i) (by omega) hj
    simp only [bitAt] at hs hb
    rw [BitVec.getLsbD_or, BitVec.getLsbD_or, hs]
    by_cases e : j = i
    · rw [e, hb, Bool.or_true, Bool.or_true]
    · rw [if_neg e]
  · rfl

theorem SameCp14.count (c : Cp14) (e : Event) (n : Nat) : SameCp14 c (countCp14 e n c) := by
  refine ⟨?_, rfl⟩
  simp only [countCp14]
  rw [raiseFlag_or_flags _ _ (.inr rfl), raiseFlag_or_flags _ _ (.inl rfl)]

/-! The frame of an access. -/

/-- What an access of the memory system may change: the caches, the TLBs, the fetch buffers and the data buffers, memory and
the records of it, the pending events and the count of free values; of CP14 the event counters; no lock. -/
structure AccessFrame (s t : State) : Prop where
  eq : t = { s with
    cp14 := t.cp14, itlb := t.itlb, dtlb := t.dtlb, icache := t.icache, fetchBufs := t.fetchBufs, dcache := t.dcache
    miniDCache := t.miniDCache, writeBuf := t.writeBuf, fillBuf := t.fillBuf, pendBuf := t.pendBuf, mem := t.mem
    deviceOps := t.deviceOps, pending := t.pending, freeCtr := t.freeCtr, stale := t.stale, midBus := t.midBus
    storing := t.storing }
  counters : SameCp14 s.cp14 t.cp14
  itlbLock : t.itlb.lk = s.itlb.lk
  dtlbLock : t.dtlb.lk = s.dtlb.lk
  icacheLock : t.icache.lk = s.icache.lk

namespace AccessFrame

theorem refl (s : State) : AccessFrame s s := ⟨rfl, .refl _, rfl, rfl, rfl⟩

theorem trans {s t u : State} (h : AccessFrame s t) (k : AccessFrame t u) : AccessFrame s u := by
  refine ⟨?_, h.counters.trans k.counters, k.itlbLock.trans h.itlbLock, k.dtlbLock.trans h.dtlbLock,
    k.icacheLock.trans h.icacheLock⟩
  have a := k.eq
  rw [h.eq] at a
  exact a

theorem core {s t : State} (h : AccessFrame s t) : t.core = s.core := by rw [h.eq]
theorem cp15 {s t : State} (h : AccessFrame s t) : t.cp15 = s.cp15 := by rw [h.eq]
theorem sds {s t : State} (h : AccessFrame s t) : t.sds = s.sds := by rw [h.eq]
theorem power {s t : State} (h : AccessFrame s t) : t.power = s.power := by rw [h.eq]

theorem mode {s t : State} (h : AccessFrame s t) : t.mode = s.mode := by rw [State.mode, State.mode, h.core]

/-- A conditional change keeps the frame where the change does. -/
theorem ite {s t : State} {p : Prop} [Decidable p] (h : AccessFrame s t) : AccessFrame s (if p then t else s) := by
  split
  · exact h
  · exact .refl s

/-! The parts of the state that every access may change. -/

theorem consume (s : State) (n : Nat) : AccessFrame s (s.consume n) := ⟨rfl, .refl _, rfl, rfl, rfl⟩

theorem countN (s : State) (e : Event) (n : Nat) : AccessFrame s (s.countN e n) := ⟨rfl, .count _ e n, rfl, rfl, rfl⟩

theorem count (s : State) (e : Event) : AccessFrame s (s.count e) := .countN s e 1

theorem noteMatch (s : State) (w : Width) (mva : Word) (f : BitVec 2 → Bool) : AccessFrame s (s.noteMatch w mva f) := by
  unfold State.noteMatch
  split
  · exact ⟨rfl, .refl _, rfl, rfl, rfl⟩
  · exact .refl s

/-! The bus and the write buffer. -/

theorem putBytes (s : State) (pa v : Word) (n : Nat) : AccessFrame s (s.putBytes pa v n) := by
  induction n with
  | zero => exact .refl s
  | succ n ih => exact ih.trans ⟨rfl, .refl _, rfl, rfl, rfl⟩

theorem noteOld (s old : State) (pa : Word) : AccessFrame s (s.noteOld old pa) := by
  rw [State.noteOld_eq]
  exact ⟨rfl, .refl _, rfl, rfl, rfl⟩

theorem storeBytes (s : State) (pa v : Word) (n : Nat) : AccessFrame s (s.storeBytes pa v n) :=
  (putBytes s pa v n).trans (.noteOld _ _ _)

theorem foreignWrite (s : State) (pa : Word) (b : Byte) : AccessFrame s (s.foreignWrite pa b) :=
  AccessFrame.ite (.storeBytes s pa _ 1)

theorem foreignWrites (s : State) (l : List (Word × Byte)) : AccessFrame s (s.foreignWrites l) := by
  induction l generalizing s with
  | nil => exact .refl s
  | cons x t ih => exact (foreignWrite s x.1 x.2).trans (ih _)

theorem setMidBus (s : State) (l : List (List (Word × Byte))) : AccessFrame s { s with midBus := l } :=
  ⟨rfl, .refl _, rfl, rfl, rfl⟩

theorem busGap (s : State) : AccessFrame s s.busGap := by
  unfold State.busGap
  split
  · exact .refl s
  · exact (setMidBus s _).trans (.foreignWrites _ _)

theorem busRest (s : State) : AccessFrame s s.busRest := by
  unfold State.busRest
  split
  · exact .refl s
  · exact (setMidBus s _).trans (.foreignWrites _ _)

theorem busRead (s : State) (k : BusKind) (look : Word → Byte) (pa : Word) (n : Nat) :
    AccessFrame s (s.busRead k look pa n).after := by
  rw [State.busRead_after]
  exact ⟨rfl, .refl _, rfl, rfl, rfl⟩

theorem pendImprecise (s : State) (parity : Bool) (bound : Option Nat) : AccessFrame s (s.pendImprecise parity bound) :=
  ⟨rfl, .refl _, rfl, rfl, rfl⟩

theorem writeBlock (s : State) (keep : Bool) (e : WriteEntry) (n : Nat) : AccessFrame s (s.writeBlock keep e n) := by
  induction n with
  | zero => exact .refl s
  | succ n ih =>
    simp only [State.writeBlock]
    split
    · exact ih.trans ⟨rfl, .refl _, rfl, rfl, rfl⟩
    · exact ih

theorem noteOldBlock (s old : State) (b : BitVec 28) : AccessFrame s (s.noteOldBlock old b) :=
  (((AccessFrame.noteOld s old _).trans (.noteOld _ old _)).trans (.noteOld _ old _)).trans (.noteOld _ old _)

theorem deliver (s : State) (bound : Option Nat) (e : WriteEntry) : AccessFrame s (s.deliver bound e) := by
  have written : AccessFrame s ((s.writeBlock (bitAt (s.free 0) 0) e 16).noteOldBlock s e.block) :=
    (AccessFrame.writeBlock s _ e 16).trans (.noteOldBlock _ _ _)
  have called := written.trans (AccessFrame.ite (p := s.entryCalls e 16 = true)
    (t := ((s.writeBlock (bitAt (s.free 0) 0) e 16).noteOldBlock s e.block).noteDevice (.write e))
    ⟨rfl, .refl _, rfl, rfl, rfl⟩)
  exact called.trans (AccessFrame.ite ((AccessFrame.consume _ 1).trans (.pendImprecise _ false bound)))

theorem deliverAll (s : State) (l : List WriteEntry) : AccessFrame s (s.deliverAll l) := by
  induction l generalizing s with
  | nil => exact .refl s
  | cons e t ih => exact (deliver s none e).trans (ih _)

theorem drainWrites (s : State) : AccessFrame s s.drainWrites :=
  (deliverAll s s.writeBuf).trans ⟨rfl, .refl _, rfl, rfl, rfl⟩

theorem retireWrite (s : State) (i : Nat) : AccessFrame s (s.retireWrite i) := by
  unfold State.retireWrite
  split
  · exact .refl s
  · exact AccessFrame.ite ((AccessFrame.deliver s none _).trans ⟨rfl, .refl _, rfl, rfl, rfl⟩)

theorem writesBeforeRead (s : State) : AccessFrame s s.writesBeforeRead := AccessFrame.ite (.drainWrites s)

theorem appendWrite (s : State) (e : WriteEntry) : AccessFrame s (s.appendWrite e) :=
  (AccessFrame.ite (.retireWrite s 0) : AccessFrame s s.makeRoom).trans ⟨rfl, .refl _, rfl, rfl, rfl⟩

theorem bufferStore (s : State) (pa v : Word) (n : Nat) (coalesces : Bool) :
    AccessFrame s (s.bufferStore pa v n coalesces) := by
  simp only [State.bufferStore]
  split
  · exact ⟨rfl, .refl _, rfl, rfl, rfl⟩
  · exact .appendWrite s _

theorem storeNow (s : State) (pa v : Word) (n : Nat) : AccessFrame s (s.storeNow pa v n) := by
  unfold State.storeNow
  split
  · exact .storeBytes s pa v n
  · exact .deliver s _ _

/-! Translation. -/

theorem readDescriptor (s : State) (pa : Word) : AccessFrame s (s.readDescriptor pa).2 := .busRead s _ _ pa 4

theorem setTlb {s : State} {side : Side} {t : Tlb} (h : t.lk = (s.tlb side).lk) : AccessFrame s (s.setTlb side t) := by
  cases side with
  | instr => exact ⟨rfl, .refl _, h, rfl, rfl⟩
  | data => exact ⟨rfl, .refl _, rfl, h, rfl⟩

theorem countTlbMiss (s : State) (side : Side) : AccessFrame s (s.countTlbMiss side) := by
  cases side <;> exact .count s _

theorem walkSecond {s t : State} {fine : Bool} {mva a : Word} {d : BitVec 4}
    (h : (s.walkSecond fine mva a d).after? = some t) : AccessFrame s t := by
  have k := readDescriptor s a
  unfold State.walkSecond at h
  split at h <;> rename_i e <;> rw [e] at k
  · cases h; exact k
  · unfold State.secondLevel at h
    split at h <;> (cases h; exact k)

/-- A table walk keeps the frame (20_memory.md R163). -/
theorem walk {s t : State} {mva : Word} (h : (s.walk mva).after? = some t) : AccessFrame s t := by
  have k := readDescriptor s (field s.cp15.ttbr 14 18 ++ field mva 20 12 ++ 0#2 : BitVec 32)
  unfold State.walk at h
  split at h <;> rename_i e <;> rw [e] at k
  · cases h; exact k
  · unfold State.firstLevel at h
    dsimp only at h
    split at h
    · cases h; exact k
    · exact k.trans (.walkSecond h)
    · cases h; exact k
    · exact k.trans (.walkSecond h)

/-- A translation fills a TLB at most, at its round-robin pointer (20_memory.md R162, R177). -/
theorem translate {s t : State} {side : Side} {mva : Word} (h : (s.translate side mva).after? = some t) :
    AccessFrame s t := by
  unfold State.translate at h
  split at h
  · cases h; exact .refl s
  · split at h <;> rename_i e
    · cases h; exact ((countTlbMiss s side).trans (.walk (by rw [e]; rfl))).trans (.setTlb rfl)
    · cases h; exact (countTlbMiss s side).trans (.walk (by rw [e]; rfl))
    · cases h

theorem translateChecked {s t : State} {side : Side} {mva : Word} {privileged write : Bool}
    (h : (s.translateChecked side mva privileged write).after? = some t) : AccessFrame s t := by
  unfold State.translateChecked at h
  split at h <;> rename_i e
  · cases h
  · cases h; exact .translate (by rw [e]; rfl)
  · have k := AccessFrame.translate (s := s) (side := side) (mva := mva) (by rw [e]; rfl)
    split at h <;> cases h <;> exact k

/-! The data caches, the fill and the pend buffer. -/

theorem setDlines (s : State) (mini : Bool) (l : List (Nat × DLine)) : AccessFrame s (s.setDlines mini l) := by
  cases mini <;> exact ⟨rfl, .refl _, rfl, rfl, rfl⟩

theorem putDline (s : State) (h : Hit) (d : DLine) : AccessFrame s (s.putDline h d) := .setDlines s _ _

theorem writeBackHalf (s : State) (d : DLine) (high : Bool) : AccessFrame s (s.writeBackHalf d high) :=
  (count s _).trans (.appendWrite _ _)

theorem writeBackHalves (s : State) (d : DLine) : AccessFrame s (s.writeBackHalves d) :=
  (AccessFrame.ite (.writeBackHalf s d false)).trans (AccessFrame.ite (.writeBackHalf _ d true))

theorem writeBackLine (s : State) (detects : Bool) (d : DLine) : AccessFrame s (s.writeBackLine detects d) :=
  (AccessFrame.ite (.pendImprecise s true none)).trans (.writeBackHalves _ d)

theorem evict (s : State) (detects mini : Bool) (key : Nat) : AccessFrame s (s.evict detects mini key) := by
  unfold State.evict
  split
  · exact AccessFrame.ite (.writeBackLine s detects _)
  · exact .refl s

theorem allocMain (s : State) (detects : Bool) (l pl : BitVec 27) (data : LineData) :
    AccessFrame s (s.allocMain detects l pl data) :=
  (evict s detects false _).trans ⟨rfl, .refl _, rfl, rfl, rfl⟩

theorem allocMini (s : State) (l pl : BitVec 27) (data : LineData) : AccessFrame s (s.allocMini l pl data) :=
  (evict s true true _).trans ⟨rfl, .refl _, rfl, rfl, rfl⟩

theorem storeMemory (s : State) (t : Target) (big : Bool) (w : Width) (v : Word) :
    AccessFrame s (s.storeMemory t big w v) := by
  unfold State.storeMemory
  split
  · exact .storeNow s _ _ _
  · exact .bufferStore s _ _ _ _

theorem storeHit (s : State) (h : Hit) (t : Target) (big : Bool) (w : Width) (v : Word) :
    AccessFrame s (s.storeHit h t big w v) := by
  simp only [State.storeHit]
  split
  · exact .putDline s _ _
  · exact (putDline s _ _).trans (.storeMemory _ _ _ _ _)

theorem retry (s : State) (p : PendEntry) : AccessFrame s (s.retry p) := by
  unfold State.retry
  split
  · exact .refl s
  · split
    · exact .storeHit s _ _ _ _ _
    · exact .storeMemory s _ _ _ _

theorem releasePended (s : State) (l : List PendEntry) : AccessFrame s (s.releasePended l) := by
  induction l generalizing s with
  | nil => exact ⟨rfl, .refl _, rfl, rfl, rfl⟩
  | cons p t ih =>
    unfold State.releasePended
    split
    · exact ⟨rfl, .refl _, rfl, rfl, rfl⟩
    · exact (retry s p).trans (ih _)

theorem finishFill (s : State) (f : FillEntry) : AccessFrame s (s.finishFill f) := by
  unfold State.finishFill
  split
  · exact .pendImprecise s _ _
  · split
    · unfold State.allocLine
      split
      · exact .allocMini s _ _ _
      · exact .allocMain s _ _ _ _
    · exact .refl s

theorem setFillBuf (s : State) (l : List FillEntry) : AccessFrame s { s with fillBuf := l } :=
  ⟨rfl, .refl _, rfl, rfl, rfl⟩

theorem completeFill (s : State) (f : FillEntry) : AccessFrame s (s.completeFill f) :=
  ((setFillBuf s (s.fillBuf.erase f)).trans (.finishFill _ f)).trans (.releasePended _ _)

theorem completeFills (s : State) (l : List FillEntry) : AccessFrame s (s.completeFills l) := by
  induction l generalizing s with
  | nil => exact .refl s
  | cons f t ih => exact (completeFill s f).trans (ih _)

theorem settleFills (s : State) : AccessFrame s s.settleFills := .completeFills s _

theorem drainAll (s : State) : AccessFrame s s.drainAll := (settleFills s).trans (.drainWrites _)

theorem returnFill (s : State) (i : Nat) : AccessFrame s (s.returnFill i) := by
  unfold State.returnFill
  split
  · exact .completeFill s _
  · exact .refl s

theorem beforeRequest (s : State) : AccessFrame s s.beforeRequest :=
  (AccessFrame.ite (.completeFills s _)).trans (.writesBeforeRead _)

theorem addFill (s : State) (f : FillEntry) : AccessFrame s (s.addFill f) := ⟨rfl, .refl _, rfl, rfl, rfl⟩

theorem requestFill (s : State) (t : Target) : AccessFrame s (s.requestFill t).2 :=
  ((beforeRequest s).trans (.busRead _ _ _ _ _)).trans (.addFill _ _)

theorem pend (s : State) (p : PendEntry) : AccessFrame s (s.pend p) := by
  unfold State.pend
  split
  · exact ⟨rfl, .refl _, rfl, rfl, rfl⟩
  · exact (settleFills s).trans (.retry _ p)

theorem settleLine (s : State) (l : BitVec 27) : AccessFrame s (s.settleLine l) := AccessFrame.ite (.settleFills s)

theorem fence (s : State) (t : Target) (write : Bool) : AccessFrame s (s.fence t write) := by
  unfold State.fence
  split
  · exact .drainAll s
  · exact AccessFrame.ite (.settleFills s)

/-! Loads and stores. -/

theorem loadHit (s : State) (h : Hit) (t : Target) (w : Width) : AccessFrame s (s.loadHit h t w).2 := by
  simp only [State.loadHit]
  split
  · exact .refl s
  · exact (pendImprecise s _ _).trans (.consume _ 1)

theorem loadMemory (s : State) (t : Target) (w : Width) : AccessFrame s (s.loadMemory t w).2 := by
  simp only [State.loadMemory]
  split
  · have k : AccessFrame s (s.readNow t w).2.2 := .busRead s _ _ _ _
    exact k.trans (AccessFrame.ite (.pendImprecise _ _ _))
  · have k : AccessFrame s (s.beforeRequest.readNow t w).2.2 := (beforeRequest s).trans (.busRead _ _ _ _ _)
    exact k.trans (.addFill _ _)

theorem loadMiss {s t : State} {a : Target} {w : Width} {v : Word} (h : s.loadMiss a w = .ok (v, t)) :
    AccessFrame s t := by
  unfold State.loadMiss at h
  split at h
  · split at h
    · cases h
    · cases h; exact .requestFill s a
  · obtain rfl : (s.loadMemory a w).2 = t := congrArg Prod.snd (Except.ok.inj h)
    exact .loadMemory s a w

theorem loadLookup {s t : State} {a : Target} {w : Width} {v : Word} (h : s.loadLookup a w = .ok (v, t)) :
    AccessFrame s t := by
  unfold State.loadLookup at h
  split at h
  · rename_i k _
    split at h
    · cases h
    · obtain rfl : (s.loadHit k a w).2 = t := congrArg Prod.snd (Except.ok.inj h)
      exact .loadHit _ _ _ _
  · exact (count s _).trans (.loadMiss h)

theorem loadAt {s t : State} {a : Target} {w : Width} {v : Word} (h : s.loadAt a w = .ok (v, t)) : AccessFrame s t := by
  have k : AccessFrame s ((s.count .dcacheAccess).fence a false) := (count s _).trans (.fence _ a false)
  unfold State.loadAt at h
  split at h
  · cases h
  · dsimp only at h
    split at h
    · cases h; exact k.trans ((count _ _).trans (.pend _ _))
    · exact (k.trans (.settleLine _ _)).trans (.loadLookup h)

theorem storeMiss {s t : State} {a : Target} {w : Width} {v : Word} (h : s.storeMiss a w v = .ok t) :
    AccessFrame s t := by
  unfold State.storeMiss at h
  split at h
  · split at h
    · cases h
    · cases h; exact (requestFill s a).trans (.pend _ _)
  · cases h; exact .storeMemory s _ _ _ _

theorem storeLookup {s t : State} {a : Target} {w : Width} {v : Word} (h : s.storeLookup a w v = .ok t) :
    AccessFrame s t := by
  unfold State.storeLookup at h
  split at h
  · cases h; exact .storeHit _ _ _ _ _ _
  · exact (count s _).trans (.storeMiss h)

theorem storeAt {s t : State} {a : Target} {w : Width} {v : Word} (h : s.storeAt a w v = .ok t) : AccessFrame s t := by
  have noted : AccessFrame s (s.noteStore a w) := ⟨rfl, .refl _, rfl, rfl, rfl⟩
  have k : AccessFrame s (((s.noteStore a w).count .dcacheAccess).fence a true) :=
    (noted.trans (.count _ _)).trans (.fence _ a true)
  unfold State.storeAt at h
  split at h
  · cases h
  · dsimp only at h
    split at h
    · cases h; exact k.trans ((count _ _).trans (.pend _ _))
    · exact (k.trans (.settleLine _ _)).trans (.storeLookup h)

end AccessFrame

/-- The state in which an access ends. -/
def Access.after? {α : Type} : Access α → Option State
  | .ok _ s => some s
  | .abort _ s => some s
  | .stop _ => none

namespace AccessFrame

theorem translateData {s t : State} {mva : Word} {w : Width} {privileged write : Bool}
    (h : (s.translateData mva w privileged write).after? = some t) : AccessFrame s t := by
  unfold State.translateData at h
  split at h
  · cases h; exact .refl s
  · split at h
    · split at h <;> rename_i e <;> cases h <;> exact .translateChecked (by rw [e]; rfl)
    · cases h; exact .refl s

/-- Steps 1 to 4 of an access keep the frame (20_memory.md R150). -/
theorem prepare {s t : State} {va : Word} {w : Width} {privileged write : Bool}
    (h : (s.prepare va w privileged write).after? = some t) : AccessFrame s t :=
  (noteMatch s w (s.mva va) _).trans (.translateData h)

/-- `MemRead` keeps the frame, whether it completes or aborts (20_memory.md R150). -/
theorem memRead {s t : State} {va : Word} {w : Width} {privileged : Bool} (h : (s.memRead va w privileged).after? = some t) :
    AccessFrame s t := by
  unfold State.memRead at h
  split at h <;> rename_i e
  · cases h
  · cases h; exact .prepare (by rw [e]; rfl)
  · have k : AccessFrame s _ := .prepare (by rw [e]; rfl)
    split at h <;> rename_i e' <;> cases h
    exact k.trans (.loadAt e')

/-- `MemWrite` keeps the frame, whether it completes or aborts (20_memory.md R150). -/
theorem memWrite {s t : State} {va : Word} {w : Width} {v : Word} {privileged : Bool}
    (h : (s.memWrite va w v privileged).after? = some t) : AccessFrame s t := by
  unfold State.memWrite at h
  split at h <;> rename_i e
  · cases h
  · cases h; exact .prepare (by rw [e]; rfl)
  · have k : AccessFrame s _ := .prepare (by rw [e]; rfl)
    split at h <;> rename_i e' <;> cases h
    exact k.trans (.storeAt e')

end AccessFrame

end Sys2Proof.Machine
end

section
/-! PROOF. A fetch keeps the frame of an access: it fills the instruction TLB, the fetch buffers and the instruction cache,
and locks nothing (20_memory.md R151, R188). -/

namespace Sys2Proof.Machine

/-- The state in which a fetch ends. -/
def Fetch.after? : Fetch → Option State
  | .ok _ s => some s
  | .abort _ s => some s
  | .stop _ => none

namespace AccessFrame

/-- A fill outside lock mode moves the round-robin pointer only (20_memory.md R189). -/
theorem fillIcache (s : State) (downloaded : Bool) (l : BitVec 27) (data : LineData) :
    AccessFrame s (s.fillIcache false downloaded l data) :=
  ⟨rfl, .refl _, rfl, rfl, Vector.set_getElem_self _⟩

theorem allocFetchBuffer (s : State) (b : FetchBuffer) : AccessFrame s (s.allocFetchBuffer b) :=
  ⟨rfl, .refl _, rfl, rfl, rfl⟩

theorem fetchMiss {s t : State} {mva pa : Word} {cacheable : Bool} (h : (s.fetchMiss mva pa cacheable).after? = some t) :
    AccessFrame s t := by
  have read (look : Word → Byte) : AccessFrame s ((s.count .icacheMiss).busRead .fetch look (lineOf pa ++ 0#5) 32).after :=
    (count s _).trans (.busRead _ _ _ _ _)
  have placed {u : State} (k : AccessFrame s u) (p : Bool) (d : LineData) (b : FetchBuffer) :
      AccessFrame s (if p then (u.fillIcache false false (lineOf mva) d).allocFetchBuffer .empty else u.allocFetchBuffer b) := by
    split
    · exact (k.trans (.fillIcache _ _ _ _)).trans (.allocFetchBuffer _ _)
    · exact k.trans (.allocFetchBuffer _ _)
  unfold State.fetchMiss at h
  dsimp only at h
  split at h <;> cases h <;> exact placed (read _) _ _ _

theorem fetched {s t : State} {w : Word} {l : List Word} (h : (s.fetched w l).after? = some t) : AccessFrame s t := by
  obtain rfl : (s.chooseWord w l).2 = t := Option.some.inj h
  unfold State.chooseWord
  split
  · exact .refl s
  · exact .consume s 1

theorem fetchAt {s t : State} {mva pa : Word} {cacheable : Bool} (h : (s.fetchAt mva pa cacheable).after? = some t) :
    AccessFrame s t := by
  unfold State.fetchAt at h
  split at h
  · split at h
    · cases h; exact .refl s
    · exact .fetched h
  · split at h <;> rename_i e
    · exact (fetchMiss (by rw [e]; rfl)).trans (.fetched h)
    · cases h; exact .fetchMiss (by rw [e]; rfl)
    · cases h

/-- The fetch of an instruction keeps the frame, whether it gives a word or aborts (20_memory.md R151). -/
theorem fetchWord {s t : State} (h : s.fetchWord.after? = some t) : AccessFrame s t := by
  unfold State.fetchWord at h
  dsimp only at h
  split at h
  · split at h <;> rename_i e
    · cases h
    · cases h; exact .translateChecked (by rw [e]; rfl)
    · exact (translateChecked (by rw [e]; rfl)).trans (.fetchAt h)
  · exact .fetchAt h

theorem bringLine (s : State) (mva pa : Word) (cacheable : Bool) : AccessFrame s (s.bringLine mva pa cacheable) := by
  unfold State.bringLine
  split
  · exact .refl s
  · split <;> rename_i e
    · exact .fetchMiss (by rw [e]; rfl)
    · exact .fetchMiss (by rw [e]; rfl)
    · exact .refl s

theorem fetchAhead (s : State) (va : Word) : AccessFrame s (s.fetchAhead va) := by
  unfold State.fetchAhead
  dsimp only
  split
  · exact .refl s
  · split
    · split <;> rename_i e
      · exact .refl s
      · exact .translateChecked (by rw [e]; rfl)
      · exact (translateChecked (by rw [e]; rfl)).trans (.bringLine _ _ _ _)
    · exact .bringLine s _ _ _

end AccessFrame

end Sys2Proof.Machine
end

section
/-! PROOF. What every instruction keeps: the relations that the invariants of a step and the confinement of User mode are made
of, and the ends of an instruction. -/

namespace Sys2Proof.Machine

/-! Bits and alignment. -/

/-- Fields agree where their bits do. -/
theorem field_congr {n : Nat} {w v : BitVec n} {lo len : Nat} (h : ∀ i < len, bitAt w (lo + i) = bitAt v (lo + i)) :
    field w lo len = field v lo len := by
  apply BitVec.eq_of_getLsbD_eq
  intro i hi
  simp only [field, BitVec.getLsbD_extractLsb', hi, decide_true, Bool.true_and]
  exact h i hi

theorem and_toNat_mod {v m : Word} {k : Nat} (h : m.toNat % 2 ^ k = 0) : (v &&& m).toNat % 2 ^ k = 0 := by
  rw [BitVec.toNat_and, Nat.and_mod_two_pow, h, Nat.and_zero]

/-- The PC is aligned: it is a multiple of the instruction size (10_state.md R34). -/
theorem State.pcAligned_iff (s : State) : s.pcAligned = true ↔ s.core.pc.toNat % (if s.thumb then 2 else 4) = 0 := by
  have h0 : bitAt s.core.pc 0 = decide (s.core.pc.toNat % 2 = 1) := by
    simp [bitAt, BitVec.getLsbD, Nat.testBit_zero]
  have h2 : field s.core.pc 0 2 = 0 ↔ s.core.pc.toNat % 4 = 0 := by
    rw [BitVec.toNat_eq]; simp [field, BitVec.extractLsb'_toNat]
  unfold State.pcAligned
  cases s.thumb
  · simpa using h2
  · simp only [if_true, h0]
    rcases Nat.mod_two_eq_zero_or_one s.core.pc.toNat with h | h <;> simp [h]

theorem Mode.ofBits_bits (m : Mode) : Mode.ofBits m.bits = some m := by cases m <;> rfl

/-- The mode field of a handler's CPSR (60_exceptions.md R670). -/
theorem field_handlerCpsr (m : Mode) (setF : Bool) (cpsr : Word) : field (handlerCpsr m setF cpsr) 0 5 = m.bits := by
  apply BitVec.eq_of_getLsbD_eq
  intro i hi
  have hb := handlerCpsr_bits m setF cpsr (i := i) (by omega)
  simp only [bitAt, hi, if_true] at hb
  simp [field, hi, hb]

theorem bitAt_handlerCpsr_thumb (m : Mode) (setF : Bool) (cpsr : Word) : bitAt (handlerCpsr m setF cpsr) 5 = false := by
  rw [handlerCpsr_bits _ _ _ (by omega)]
  rfl

/-! The relations. -/

/-- The state outside the core registers that User mode cannot reach: CP15 but for the fault registers, the locks, the power
mode (10_state.md R36, 41_coprocessor_access.md R360). -/
structure SystemKept (s t : State) : Prop where
  cp15 : { t.cp15 with fsr := s.cp15.fsr, far := s.cp15.far } = s.cp15
  itlbLock : t.itlb.lk = s.itlb.lk
  dtlbLock : t.dtlb.lk = s.dtlb.lk
  icacheLock : t.icache.lk = s.icache.lk
  power : t.power = s.power

/-- Execution goes on in the mode it was in: of the CPSR only the flags, Q and T change, no SPSR, and in User mode no register
of another bank (10_state.md R33, R36). -/
structure StaysInMode (s t : State) : Prop extends SystemKept s t where
  status : ∀ i < 24, i ≠ 5 → bitAt t.core.cpsr i = bitAt s.core.cpsr i
  saved : t.core.spsrs = s.core.spsrs
  banks : s.mode = .usr → ∀ p : Fin 32, (∀ n : Reg, n ≠ 15 → p ≠ (physReg .usr n).toFin) → t.core.regs[p] = s.core.regs[p]
  sds : t.sds = s.sds
  cp14 : s.sds = false → SameCp14 s.cp14 t.cp14

/-- What an instruction of any mode may do before it ends: it stays in its mode, at its address, in its instruction set. -/
structure Works (s t : State) : Prop extends StaysInMode s t where
  pc : t.core.pc = s.core.pc
  thumb : t.thumb = s.thumb

/-- What a privileged instruction may do before it ends. -/
structure Commands (s t : State) : Prop where
  pc : t.core.pc = s.core.pc
  thumb : t.thumb = s.thumb
  mode : s.legalMode = true → t.legalMode = true
  control : s.controlLegal = true → t.controlLegal = true

/-- The invariants of a step; `fits` says that the instruction belongs to the instruction set in use. -/
structure Keeps (fits : Prop) (s t : State) : Prop where
  mode : s.legalMode = true → t.legalMode = true
  control : s.controlLegal = true → t.controlLegal = true
  aligned : fits → s.pcAligned = true → t.pcAligned = true

/-- The modes that an exception of an instruction enters. -/
def exceptionMode (m : Mode) : Prop := m = .und ∨ m = .svc ∨ m = .abt ∨ m = .dbg

/-- What an instruction of User mode may do (60_exceptions.md R695). -/
structure Confined (s t : State) : Prop extends SystemKept s t where
  stays : StaysInMode s t ∨ exceptionMode t.mode

/-- What is claimed of the state that an instruction leaves. -/
structure Lawful (fits : Prop) (s t : State) : Prop extends Keeps fits s t where
  confined : s.mode = .usr → Confined s t

/-- What is claimed of the outcome of an instruction. -/
structure Result.Lawful (fits : Prop) (s : State) (r : Result) : Prop where
  onNext : ∀ t, r = .next t → Machine.Lawful fits s t

/-! They compose. -/

theorem SystemKept.trans {s t u : State} (h : SystemKept s t) (k : SystemKept t u) : SystemKept s u := by
  refine ⟨Eq.trans ?_ h.cp15, k.itlbLock.trans h.itlbLock, k.dtlbLock.trans h.dtlbLock, k.icacheLock.trans h.icacheLock,
    k.power.trans h.power⟩
  exact congrArg (fun x : Cp15 => { x with fsr := s.cp15.fsr, far := s.cp15.far }) k.cp15

theorem SystemKept.control {s t : State} (h : SystemKept s t) : t.cp15.control = s.cp15.control := by
  rw [← h.cp15]

theorem StaysInMode.modeField {s t : State} (h : StaysInMode s t) : field t.core.cpsr 0 5 = field s.core.cpsr 0 5 :=
  field_congr fun i hi => by rw [Nat.zero_add]; exact h.status i (by omega) (by omega)

theorem StaysInMode.mode {s t : State} (h : StaysInMode s t) : t.mode = s.mode := by
  simp only [State.mode, modeOf, h.modeField]

theorem StaysInMode.trans {s t u : State} (h : StaysInMode s t) (k : StaysInMode t u) : StaysInMode s u :=
  { h.toSystemKept.trans k.toSystemKept with
    status := fun i hi h5 => (k.status i hi h5).trans (h.status i hi h5)
    saved := k.saved.trans h.saved
    banks := fun hu p hp => (k.banks (h.mode.trans hu) p hp).trans (h.banks hu p hp)
    sds := k.sds.trans h.sds
    cp14 := fun hs => (h.cp14 hs).trans (k.cp14 (h.sds.trans hs)) }

theorem Works.trans {s t u : State} (h : Works s t) (k : Works t u) : Works s u :=
  { h.toStaysInMode.trans k.toStaysInMode with pc := k.pc.trans h.pc, thumb := k.thumb.trans h.thumb }

theorem Commands.trans {s t u : State} (h : Commands s t) (k : Commands t u) : Commands s u :=
  ⟨k.pc.trans h.pc, k.thumb.trans h.thumb, k.mode ∘ h.mode, k.control ∘ h.control⟩

theorem State.pcAligned_congr {s t : State} (hp : t.core.pc = s.core.pc) (ht : t.thumb = s.thumb) :
    t.pcAligned = s.pcAligned := by
  simp only [State.pcAligned, hp, ht]

theorem State.legalMode_congr {s t : State} (h : field t.core.cpsr 0 5 = field s.core.cpsr 0 5) :
    t.legalMode = s.legalMode := by
  simp only [State.legalMode, h]

theorem State.controlLegal_congr {s t : State} (h : t.cp15.control = s.cp15.control) : t.controlLegal = s.controlLegal := by
  simp only [State.controlLegal, h]

theorem Works.commands {s t : State} (h : Works s t) : Commands s t :=
  ⟨h.pc, h.thumb, fun k => (State.legalMode_congr h.modeField).trans k, fun k => (State.controlLegal_congr h.control).trans k⟩

/-- What changes neither a core register nor CP15 is within every instruction's rights. -/
theorem Commands.of_same {s t : State} (hc : t.core = s.core) (h15 : t.cp15 = s.cp15) : Commands s t := by
  refine ⟨by rw [hc], by simp only [State.thumb, hc], fun k => ?_, fun k => ?_⟩
  · exact (State.legalMode_congr (by rw [hc])).trans k
  · exact (State.controlLegal_congr (by rw [h15])).trans k

theorem Commands.keeps {fits : Prop} {s t u : State} (h : Commands s t) (k : Keeps fits t u) : Keeps fits s u :=
  ⟨k.mode ∘ h.mode, k.control ∘ h.control, fun hf ha => k.aligned hf ((State.pcAligned_congr h.pc h.thumb).trans ha)⟩

theorem Keeps.refl (fits : Prop) (s : State) : Keeps fits s s := ⟨id, id, fun _ => id⟩

theorem Keeps.trans {fits : Prop} {s t u : State} (h : Keeps fits s t) (k : Keeps fits t u) : Keeps fits s u :=
  ⟨k.mode ∘ h.mode, k.control ∘ h.control, fun hf => k.aligned hf ∘ h.aligned hf⟩

theorem Works.lawful {fits : Prop} {s t u : State} (h : Works s t) (k : Lawful fits t u) : Lawful fits s u := by
  refine { h.commands.keeps k.toKeeps with confined := fun hu => ?_ }
  obtain ⟨hk, hs⟩ := k.confined (h.mode.trans hu)
  exact { h.toSystemKept.trans hk with stays := hs.imp_left h.toStaysInMode.trans }

/-- An instruction that goes on in its mode is lawful where the PC stays aligned. -/
theorem StaysInMode.lawful {fits : Prop} {s t : State} (h : StaysInMode s t)
    (ha : fits → s.pcAligned = true → t.pcAligned = true) : Lawful fits s t where
  mode k := (State.legalMode_congr h.modeField).trans k
  control k := (State.controlLegal_congr h.control).trans k
  aligned := ha
  confined _ := { h.toSystemKept with stays := .inl h }

/-! Outcomes. -/

namespace Result.Lawful

theorem refused {fits : Prop} {s : State} (r : Refusal) : Result.Lawful fits s (.refused r) := ⟨fun _ h => nomatch h⟩

theorem next {fits : Prop} {s t : State} (h : Machine.Lawful fits s t) : Result.Lawful fits s (.next t) := by
  refine ⟨?_⟩
  rintro _ ⟨⟩
  exact h

/-- The work before the end. -/
theorem after {fits : Prop} {s t : State} {r : Result} (h : Works s t) (k : Result.Lawful fits t r) :
    Result.Lawful fits s r := ⟨fun u hu => h.lawful (k.onNext u hu)⟩

/-- A privileged instruction has only the invariants to keep. -/
theorem privileged {fits : Prop} {s t : State} {r : Result} (hp : s.mode ≠ .usr) (h : Commands s t)
    (k : Result.Lawful fits t r) : Result.Lawful fits s r :=
  ⟨fun u hu => { h.keeps (k.onNext u hu).toKeeps with confined := fun e => absurd e hp }⟩

end Result.Lawful

/-! The work of an instruction. -/

namespace Works

theorem refl (s : State) : Works s s where
  cp15 := rfl
  itlbLock := rfl
  dtlbLock := rfl
  icacheLock := rfl
  power := rfl
  status _ _ _ := rfl
  saved := rfl
  banks _ _ _ := rfl
  sds := rfl
  cp14 _ := .refl _
  pc := rfl
  thumb := rfl

/-- An access of the memory system. -/
theorem access {s t : State} (h : AccessFrame s t) : Works s t where
  cp15 := by rw [h.cp15]
  itlbLock := h.itlbLock
  dtlbLock := h.dtlbLock
  icacheLock := h.icacheLock
  power := h.power
  status _ _ _ := by rw [h.core]
  saved := by rw [h.core]
  banks _ _ _ := by rw [h.core]
  sds := h.sds
  cp14 _ := h.counters
  pc := by rw [h.core]
  thumb := by simp only [State.thumb, h.core]

theorem ite {s t : State} {p : Prop} [Decidable p] (h : Works s t) : Works s (if p then t else s) := by
  split
  · exact h
  · exact .refl s

/-- A write of the CPSR that only changes its upper byte: the flags and Q. -/
theorem setCpsr_merge (s : State) {mask : Word} (v : Word) (h : ∀ i < 24, bitAt mask i = false) :
    Works s (s.setCpsr (merge mask s.core.cpsr v)) :=
  { refl s with
    status := fun i hi _ => by rw [State.setCpsr_cpsr, bitAt_merge, h i hi]; rfl
    thumb := by simp only [State.thumb, State.setCpsr_cpsr, bitAt_merge, h 5 (by omega)]; rfl
    banks := fun _ _ _ => rfl }

theorem setAluFlags (s : State) (o : AluOut) : Works s (s.setAluFlags o) := .setCpsr_merge s _ (by decide)

theorem setNz (s : State) (n z : Bool) : Works s (s.setNz n z) := .setCpsr_merge s _ (by decide)

theorem raiseQ (s : State) (b : Bool) : Works s (s.raiseQ b) := .ite (.setCpsr_merge s _ (by decide))

/-- A write of a register, in User mode of the User bank (10_state.md R33). -/
theorem setBankedReg {s : State} {m : Mode} (n : Reg) (v : Word) (hn : n ≠ 15) (h : s.mode = .usr → m = .usr) :
    Works s (s.setBankedReg m n v) :=
  { refl s with
    status := fun _ _ _ => rfl
    banks := fun hu p hp => by
      have hne : (physReg m n).toNat ≠ p.val := fun e => hp n hn (Fin.ext (by rw [h hu] at e; exact e.symm))
      simp only [State.setBankedReg_regs]
      exact Vector.getElem_set_ne _ _ hne }

theorem setReg (s : State) (n : Reg) (v : Word) : Works s (s.setReg n v) := by
  unfold State.setReg
  split
  · exact .refl s
  · exact .setBankedReg n v ‹_› id

theorem writeBase (s : State) (rn : Reg) (b : Option Word) : Works s (s.writeBase rn b) := by
  unfold State.writeBase
  split
  · exact .refl s
  · exact .setReg s rn _

theorem setAcc (s : State) (v : Acc) : Works s (s.setAcc v) :=
  { refl s with status := fun _ _ _ => rfl, banks := fun _ _ _ => rfl }

theorem count (s : State) (e : Event) : Works s (s.count e) := .access (.count s e)

theorem consume (s : State) (n : Nat) : Works s (s.consume n) := .access (.consume s n)

/-- An entry in the trace buffer that is no checkpoint. -/
theorem of_trace {s t : State} (h : t = { s with trace := t.trace, pending := t.pending }) : Works s t := by
  rw [h]
  exact { refl s with status := fun _ _ _ => rfl, banks := fun _ _ _ => rfl }

theorem traceInstr (s : State) : Works s s.traceInstr := by
  refine .of_trace ?_
  unfold State.traceInstr
  split
  · split <;> rfl
  · rfl

theorem traceException (s : State) (o : Word) : Works s (s.traceException o) := by
  refine .of_trace ?_
  unfold State.traceException
  split <;> rfl

theorem takeCheckpoint (s : State) (t : Word) : Works s (s.takeCheckpoint t) :=
  { refl s with status := fun _ _ _ => rfl, banks := fun _ _ _ => rfl, cp14 := fun _ => ⟨rfl, rfl⟩ }

theorem recordBranch (s : State) (i : Bool) (t : Word) : Works s (s.recordBranch i t) := by
  have recorded (b : Byte) : Works s (s.nextCheckpoint.recordMessage b) := .of_trace rfl
  simp only [State.recordBranch]
  split
  · exact (recorded _).trans (.takeCheckpoint _ t)
  · exact recorded _

theorem traceDirect (s : State) (t : Word) : Works s (s.traceDirect t) := .ite (.recordBranch s false t)

theorem traceIndirect (s : State) (i : Bool) (t : Word) : Works s (s.traceIndirect i t) := by
  have byte (s : State) (b : Byte) : Works s (s.recordByte b) := .of_trace rfl
  refine .ite ?_
  exact (((((consume s 1).trans (byte _ _)).trans (byte _ _)).trans (byte _ _)).trans (byte _ _)).trans
    (.recordBranch _ true _)

theorem of_btb {s : State} (l : List (Nat × BtbEntry)) : Works s { s with btb := l } :=
  { refl s with status := fun _ _ _ => rfl, banks := fun _ _ _ => rfl }

theorem btbUpdate (s : State) (t : Word) (b : Bool) : Works s (s.btbUpdate t b) := by
  unfold State.btbUpdate
  split
  · split
    · exact of_btb _
    · exact .ite (of_btb _)
  · exact .refl s

theorem resolveBranch (s : State) (t : Word) (b : Bool) : Works s (s.resolveBranch t b) := by
  have k : Works s ((s.count .branchExecuted).btbUpdate t b) := (count s _).trans (.btbUpdate _ t b)
  simp only [State.resolveBranch]
  split
  · exact k
  · exact k.trans (.count _ _)

/-- FSR and FAR are written (60_exceptions.md R681). -/
theorem recordDataAbort (s : State) (a : AbortInfo) : Works s (s.recordDataAbort a) :=
  { refl s with status := fun _ _ _ => rfl, banks := fun _ _ _ => rfl, cp15 := rfl }

/-- In Special Debug State DCSR.SA may be set (61_debug_and_jtag.md R771). -/
theorem setStickyAbort {s : State} (h : s.sds = true) : Works s s.setStickyAbort :=
  { refl s with
    status := fun _ _ _ => rfl, banks := fun _ _ _ => rfl
    cp14 := fun k => absurd (h.symm.trans k) (by decide) }

theorem setShadow (s : State) (r : BitVec 16) : Works s { s with sdsShadow := r } :=
  { refl s with status := fun _ _ _ => rfl, banks := fun _ _ _ => rfl }

theorem setDataBkpt (s : State) (b : Bool) : Works s { s with pending := { s.pending with dataBkpt := b } } := .of_trace rfl

/-- Registers below R15 get free values. -/
theorem freeRegs {s : State} {m : Mode} {l : List Reg} (hl : ∀ r ∈ l, r ≠ 15) (h : s.mode = .usr → m = .usr) :
    Works s (s.freeRegs m l) := by
  induction l generalizing s with
  | nil => exact .refl s
  | cons r t ih =>
    have k : Works s ((s.setBankedReg m r (s.free 0)).consume 1) :=
      (setBankedReg r _ (hl r (by simp)) h).trans (.consume _ 1)
    exact k.trans (ih (fun x hx => hl x (List.mem_cons_of_mem _ hx)) (fun e => h (k.mode.symm.trans e)))

end Works

end Sys2Proof.Machine
end

section
/-! PROOF. The ends of an instruction keep what an instruction must keep: going on in sequence, a branch, an exception, a return
from one, and an access that aborts. -/

namespace Sys2Proof.Machine

/-! Alignment of what the PC is written with (10_state.md R35). -/

theorem State.instrSize_toNat (s : State) : s.instrSize.toNat = if s.thumb then 2 else 4 := by
  unfold State.instrSize
  split <;> rfl

/-- The size of an instruction divides a sum of two multiples of it, modulo 2^32. -/
theorem add_toNat_mod {a b : Word} {k : Nat} (hk : k = 2 ∨ k = 4) (ha : a.toNat % k = 0) (hb : b.toNat % k = 0) :
    (a + b).toNat % k = 0 := by
  rw [BitVec.toNat_add]
  rcases hk with rfl | rfl <;> omega

theorem size_cases (b : Bool) : (if b then 2 else 4) = 2 ∨ (if b then 2 else 4) = 4 := by cases b <;> decide

theorem State.nextPc_mod {s : State} (h : s.pcAligned = true) : s.nextPc.toNat % (if s.thumb then 2 else 4) = 0 := by
  refine add_toNat_mod (size_cases _) (s.pcAligned_iff.mp h) ?_
  rw [s.instrSize_toNat, Nat.mod_self]

theorem alignForState_mod (thumb : Bool) (v : Word) : (alignForState thumb v).toNat % (if thumb then 2 else 4) = 0 := by
  cases thumb
  · exact and_toNat_mod (k := 2) rfl
  · exact and_toNat_mod (k := 1) rfl

theorem toNat_mod_four_of_bits {v : Word} (h0 : bitAt v 0 = false) (h1 : bitAt v 1 = false) : v.toNat % 4 = 0 := by
  simp only [bitAt, BitVec.getLsbD, Nat.testBit_eq_decide_div_mod_eq, decide_eq_false_iff_not] at h0 h1
  omega

theorem field_two_eq_zero_iff (v : Word) : field v 0 2 = 0 ↔ v.toNat % 4 = 0 := by
  rw [BitVec.toNat_eq]
  simp [field, BitVec.extractLsb'_toNat]

/-! Writes of the PC and of T. -/

theorem StaysInMode.setPc (s : State) (v : Word) : StaysInMode s (s.setPc v) :=
  { (Works.refl s).toStaysInMode with status := fun _ _ _ => rfl, banks := fun _ _ _ => rfl }

theorem StaysInMode.setThumb (s : State) (b : Bool) : StaysInMode s (s.setCpsr (setBit 5 b s.core.cpsr)) :=
  { (Works.refl s).toStaysInMode with
    status := fun i hi h5 => by rw [State.setCpsr_cpsr, bitAt_setBit _ _ (by omega) (by omega), if_neg h5]
    banks := fun _ _ _ => rfl }

theorem State.thumb_setThumb (s : State) (b : Bool) : (s.setCpsr (setBit 5 b s.core.cpsr)).thumb = b := by
  simp only [State.thumb, State.setCpsr_cpsr]
  rw [bitAt_setBit _ _ (by omega) (by omega), if_pos rfl]

/-- A branch without a change of state. -/
theorem Lawful.setPc {fits : Prop} {s : State} {v : Word}
    (h : fits → s.pcAligned = true → v.toNat % (if s.thumb then 2 else 4) = 0) : Lawful fits s (s.setPc v) :=
  (StaysInMode.setPc s v).lawful fun hf ha => (State.pcAligned_iff _).mpr (h hf ha)

/-- A branch that sets T. -/
theorem Lawful.setPcThumb {fits : Prop} {s : State} {b : Bool} {v : Word}
    (h : fits → s.pcAligned = true → v.toNat % (if b then 2 else 4) = 0) :
    Lawful fits s ((s.setCpsr (setBit 5 b s.core.cpsr)).setPc v) := by
  refine ((StaysInMode.setThumb s b).trans (.setPc _ v)).lawful fun hf ha => (State.pcAligned_iff _).mpr ?_
  have ht : ((s.setCpsr (setBit 5 b s.core.cpsr)).setPc v).thumb = b := s.thumb_setThumb b
  rw [ht]
  exact h hf ha

/-! Going on in sequence, and branches. -/

/-- The instruction is complete. -/
theorem Result.Lawful.advance (fits : Prop) (s : State) : Result.Lawful fits s s.advance := by
  refine ⟨fun t h => ?_⟩
  obtain ⟨-, rfl⟩ := State.advance_next h
  have k : Works (s.setPc s.nextPc) (s.setPc s.nextPc).traceInstr := .traceInstr _
  refine ((StaysInMode.setPc s _).trans k.toStaysInMode).lawful fun _ ha => ?_
  rw [State.pcAligned_congr k.pc k.thumb, State.pcAligned_iff]
  exact State.nextPc_mod ha

/-- The work before a branch, then the branch. -/
theorem Works.lawful_setPc {fits : Prop} {s t : State} (h : Works s t) {v : Word}
    (hv : fits → s.pcAligned = true → v.toNat % (if s.thumb then 2 else 4) = 0) : Lawful fits s (t.setPc v) :=
  h.lawful (.setPc fun hf ha => by
    rw [h.thumb]
    exact hv hf ((State.pcAligned_congr h.pc h.thumb).symm.trans ha))

theorem Lawful.branchTo {fits : Prop} {s : State} {v : Word}
    (h : fits → s.pcAligned = true → v.toNat % (if s.thumb then 2 else 4) = 0) : Lawful fits s (s.branchTo v) :=
  (((Works.resolveBranch s v true).trans (.count _ _)).trans (.traceDirect _ v)).lawful_setPc h

theorem Result.Lawful.branchNotTaken (fits : Prop) (s : State) (v : Word) : Result.Lawful fits s (s.branchNotTaken v) :=
  .after (.resolveBranch s v false) (.advance _ _)

theorem Lawful.branchStateTo {fits : Prop} {s : State} {b : Bool} {v : Word}
    (h : fits → s.pcAligned = true → v.toNat % (if b then 2 else 4) = 0) : Lawful fits s (s.branchStateTo b v) := by
  have k : Works s (((s.count .branchExecuted).count .pcChanged).traceDirect v) :=
    ((Works.count s _).trans (.count _ _)).trans (.traceDirect _ v)
  have hc : (((s.count .branchExecuted).count .pcChanged).traceDirect v).core.cpsr = s.core.cpsr := by
    rw [State.traceDirect_core]; rfl
  have e : s.branchStateTo b v = ((((s.count .branchExecuted).count .pcChanged).traceDirect v).setCpsr
      (setBit 5 b (((s.count .branchExecuted).count .pcChanged).traceDirect v).core.cpsr)).setPc v := by
    rw [hc]; rfl
  rw [e]
  exact k.lawful (.setPcThumb fun hf ha => h hf ((State.pcAligned_congr k.pc k.thumb).symm.trans ha))

theorem Works.jump (s : State) (i : Bool) (v : Word) : Works s ((s.count .pcChanged).traceIndirect i v) :=
  (Works.count s _).trans (.traceIndirect _ i v)

/-- An indirect branch that sets T. -/
theorem Lawful.jumpThumb {fits : Prop} {s : State} {i b : Bool} {v : Word} (h : v.toNat % (if b then 2 else 4) = 0) :
    Lawful fits s ((s.jumpTo i v).setCpsr (setBit 5 b s.core.cpsr)) := by
  have hc : ((s.count .pcChanged).traceIndirect i v).core.cpsr = s.core.cpsr := by
    rw [State.traceIndirect_core]; rfl
  have e : (s.jumpTo i v).setCpsr (setBit 5 b s.core.cpsr) =
      ((((s.count .pcChanged).traceIndirect i v)).setCpsr
        (setBit 5 b ((s.count .pcChanged).traceIndirect i v).core.cpsr)).setPc v := by
    rw [hc]; rfl
  rw [e]
  exact (Works.jump s i v).lawful (.setPcThumb fun _ _ => h)

theorem Result.Lawful.jumpExchange (fits : Prop) (s : State) (v : Word) : Result.Lawful fits s (s.jumpExchange v) := by
  unfold State.jumpExchange
  split
  · exact .next (.jumpThumb (b := true) (and_toNat_mod (k := 1) rfl))
  · split
    · exact .refused _
    · exact .next (.jumpThumb (b := false) (toNat_mod_four_of_bits (by simp_all) (by simp_all)))

theorem Result.Lawful.jumpResult (fits : Prop) (s : State) (v : Word) : Result.Lawful fits s (s.jumpResult v) := by
  unfold State.jumpResult
  split
  · refine .next ((Works.jump s _ _).lawful_setPc fun _ _ => ?_)
    rw [if_pos ‹_›]
    exact and_toNat_mod (k := 1) rfl
  · split
    · refine .next ((Works.jump s _ _).lawful_setPc fun _ _ => ?_)
      rw [if_neg ‹_›]
      exact (field_two_eq_zero_iff v).mp ‹_›
    · exact .refused _

/-! Exceptions (60_exceptions.md R661, R670). -/

theorem SystemKept.enterMode (s : State) (m : Mode) (setF : Bool) (link : Word) : SystemKept s (s.enterMode m setF link) := by
  unfold State.enterMode State.setSpsrOf
  split <;> exact ⟨rfl, rfl, rfl, rfl, rfl⟩

theorem SystemKept.setPc (s : State) (v : Word) : SystemKept s (s.setPc v) := ⟨rfl, rfl, rfl, rfl, rfl⟩

theorem SystemKept.takeException (s : State) (m : Mode) (setF : Bool) (offset link : Word) :
    SystemKept s (s.takeException m setF offset link) :=
  ((SystemKept.enterMode s m setF link).trans (Works.traceException _ offset).toSystemKept).trans (.setPc _ _)

theorem State.vectorBase_mod (s : State) : s.vectorBase.toNat % 4 = 0 := by
  unfold State.vectorBase
  split <;> rfl

theorem State.vector_mod (s : State) {offset : Word} (h : offset.toNat % 4 = 0) : (s.vectorBase + offset).toNat % 4 = 0 :=
  add_toNat_mod (.inr rfl) s.vectorBase_mod h

/-- The entry into a handler keeps the invariants. -/
theorem Keeps.of_handler {fits : Prop} {s t : State} {m : Mode} {setF : Bool} {cpsr : Word}
    (hs : t.core.cpsr = handlerCpsr m setF cpsr) (hp : t.core.pc.toNat % 4 = 0) (hk : SystemKept s t) : Keeps fits s t where
  mode _ := by rw [State.legalMode, hs, field_handlerCpsr, Mode.ofBits_bits]; rfl
  control k := (State.controlLegal_congr hk.control).trans k
  aligned _ _ := by
    have ht : t.thumb = false := by rw [State.thumb, hs]; exact bitAt_handlerCpsr_thumb m setF cpsr
    rw [State.pcAligned_iff, ht]
    exact hp

theorem Lawful.of_handler {fits : Prop} {s t : State} {m : Mode} {setF : Bool} {cpsr : Word}
    (hs : t.core.cpsr = handlerCpsr m setF cpsr) (hp : t.core.pc.toNat % 4 = 0) (hk : SystemKept s t)
    (hm : exceptionMode m) : Lawful fits s t :=
  { Keeps.of_handler hs hp hk with
    confined := fun _ => { hk with stays := .inr (by rwa [State.mode, hs, handlerCpsr_mode]) } }

theorem Keeps.takeException {fits : Prop} {s : State} {m : Mode} {setF : Bool} {offset link : Word}
    (ho : offset.toNat % 4 = 0) : Keeps fits s (s.takeException m setF offset link) :=
  .of_handler (s.takeException_cpsr m setF offset link) (s.vector_mod ho) (.takeException s m setF offset link)

theorem Lawful.takeException {fits : Prop} {s : State} {m : Mode} {setF : Bool} {offset link : Word}
    (ho : offset.toNat % 4 = 0) (hm : exceptionMode m) : Lawful fits s (s.takeException m setF offset link) :=
  .of_handler (s.takeException_cpsr m setF offset link) (s.vector_mod ho) (.takeException s m setF offset link) hm

theorem exceptionMode_und : exceptionMode .und := .inl rfl
theorem exceptionMode_svc : exceptionMode .svc := .inr (.inl rfl)
theorem exceptionMode_abt : exceptionMode .abt := .inr (.inr (.inl rfl))
theorem exceptionMode_dbg : exceptionMode .dbg := .inr (.inr (.inr rfl))

theorem Lawful.takeByInstruction {fits : Prop} {s : State} {m : Mode} {offset : Word} (ho : offset.toNat % 4 = 0)
    (hm : exceptionMode m) : Lawful fits s (s.takeByInstruction m offset) :=
  (Works.ite (.count s .pcChanged)).lawful (.takeException ho hm)

theorem Result.Lawful.undefined (fits : Prop) (s : State) : Result.Lawful fits s s.undefined := by
  unfold State.undefined
  split
  · exact .refused _
  · exact .next (.takeByInstruction rfl exceptionMode_und)

theorem Result.Lawful.softwareInterrupt (fits : Prop) (s : State) : Result.Lawful fits s s.softwareInterrupt := by
  unfold State.softwareInterrupt
  split
  · exact .refused _
  · exact .next (.takeByInstruction rfl exceptionMode_svc)

theorem Lawful.takeDataAbort (fits : Prop) (s : State) (a : AbortInfo) (counted : Bool) :
    Lawful fits s (s.takeDataAbort a counted) := by
  refine Works.lawful ?_ (.takeException rfl exceptionMode_abt)
  exact ((Works.recordDataAbort s a).trans (.setDataBkpt _ false)).trans (.ite (.traceInstr _))

/-! Debug exceptions (61_debug_and_jtag.md R772, R773). -/

theorem State.enterMode_cpsr (s : State) (m : Mode) (setF : Bool) (link : Word) :
    (s.enterMode m setF link).core.cpsr = handlerCpsr m setF s.core.cpsr := rfl

theorem SystemKept.noteDebugEntry (s : State) (c : DebugCause) : SystemKept s (s.noteDebugEntry c) :=
  ⟨rfl, rfl, rfl, rfl, rfl⟩

theorem Lawful.enterHalt (fits : Prop) (s : State) (c : DebugCause) (link : Word) : Lawful fits s (s.enterHalt c link) := by
  have k : SystemKept s ((s.noteDebugEntry c).enterMode .dbg true link) :=
    (SystemKept.noteDebugEntry s c).trans (.enterMode _ .dbg true link)
  refine .of_handler (m := .dbg) (setF := true) (cpsr := s.core.cpsr) rfl s.vectorBase_mod
    ⟨k.cp15, k.itlbLock, k.dtlbLock, k.icacheLock, k.power⟩ exceptionMode_dbg

theorem Lawful.enterMonitor (fits : Prop) (s : State) (c : DebugCause) (link : Word) :
    Lawful fits s (s.enterMonitor c link) := by
  refine .of_handler (m := .abt) (setF := false) (cpsr := s.core.cpsr) rfl ?pc ?kept exceptionMode_abt
  case pc =>
    refine s.vector_mod ?_
    split <;> rfl
  case kept =>
    have noted : SystemKept s (((s.noteDebugEntry c).setFault (fsrValue true (field (s.free 0) 4 5) (field (s.free 0) 0 4))
      (s.free 1)).consume 2) := ⟨rfl, rfl, rfl, rfl, rfl⟩
    exact (noted.trans (.enterMode _ .abt false link)).trans (.setPc _ _)

theorem Lawful.takeDebug (fits : Prop) (s : State) (c : DebugCause) : Lawful fits s (s.takeDebug c) := by
  unfold State.takeDebug
  split
  · exact .enterHalt fits s c _
  · exact .enterMonitor fits s c _

/-! Returning from an exception (60_exceptions.md R690). -/

/-- The CPSR restore. -/
theorem State.restoreCpsr_ok {s t : State} (h : s.restoreCpsr = .ok t) : ∃ w m, s.spsrOf s.mode = some w ∧
    Mode.ofBits (field w 0 5) = some m ∧ m ≠ .dbg ∧ t = { s.setCpsr w with sds := false } := by
  unfold State.restoreCpsr at h
  split at h
  · cases h
  · rename_i w hw
    split at h
    · cases h
    · cases h
    · rename_i m hd hm
      cases h
      exact ⟨w, m, hw, hm, hd, rfl⟩

theorem State.mode_ne_usr_of_spsr {s : State} {w : Word} (h : s.spsrOf s.mode = some w) : s.mode ≠ .usr := by
  intro e
  rw [e] at h
  cases h

/-- A return keeps the invariants, and there is none in User mode. -/
theorem Result.Lawful.returnTo (fits : Prop) (s : State) (v : Word) : Result.Lawful fits s (s.returnTo v) := by
  refine ⟨fun t h => ?_⟩
  obtain ⟨hsp, -, hpc⟩ := State.returnTo_next h
  have hu := State.mode_ne_usr_of_spsr hsp
  simp only [State.returnTo] at h
  split at h
  · cases h
  rename_i r hr
  obtain ⟨w, m, hw, hm, -, rfl⟩ := State.restoreCpsr_ok hr
  have hc : t.core.cpsr = w := Option.some.inj (hsp.symm.trans hw)
  refine ⟨⟨fun _ => ?_, fun k => ?_, fun _ _ => ?_⟩, fun e => absurd e hu⟩
  · rw [State.legalMode, hc, hm]
    rfl
  · refine (State.controlLegal_congr ?_).trans k
    cases h
    simp only [State.setPc_cp15, State.traceIndirect_cp15]
    split <;> rfl
  · rw [State.pcAligned_iff, hpc]
    exact alignForState_mod _ v

/-! An access that aborts (60_exceptions.md R675, 61_debug_and_jtag.md R771). -/

theorem Works.abortRecord (s : State) (a : AbortInfo) (h : s.sds = true) : Works s (s.recordDataAbort a).setStickyAbort :=
  (Works.recordDataAbort s a).trans (.setStickyAbort h)

theorem Result.Lawful.abortInSds {fits : Prop} {s : State} (a : AbortInfo) (rn : Reg) (b : Option Word) (regs : BitVec 16)
    (h : s.sds = true) : Result.Lawful fits s (s.abortInSds a rn b regs) :=
  .after (((Works.abortRecord s a h).trans (.writeBase _ rn b)).trans (.setShadow _ _)) (.advance _ _)

theorem Result.Lawful.abortSingle (fits : Prop) (s : State) (a : AbortInfo) (counted : Bool) (rn : Reg) (b : Option Word)
    (regs : BitVec 16) : Result.Lawful fits s (s.abortSingle a counted rn b regs) := by
  unfold State.abortSingle
  split
  · exact .abortInSds a rn b regs ‹_›
  · exact .next (.takeDataAbort fits s a counted)

/-- A list without bit 15 names no R15. -/
theorem listRegs_ne_pc (l : BitVec 16) : ∀ r ∈ listRegs (l &&& 0x7FFF), r ≠ 15 := by
  rintro r hr rfl
  have hb := (List.mem_filter.mp hr).2
  simp only [bitAt, BitVec.getLsbD_and] at hb
  exact absurd hb (by simp)

theorem Result.Lawful.abortMultiple {fits : Prop} {s : State} (a : AbortInfo) {m : Mode} (regs : BitVec 16)
    (hm : s.mode = .usr → m = .usr) : Result.Lawful fits s (s.abortMultiple a m regs) := by
  unfold State.abortMultiple
  split
  · have k := Works.abortRecord s a ‹_›
    exact .after (k.trans (.freeRegs (listRegs_ne_pc regs) fun e => hm (k.mode.symm.trans e))) (.advance _ _)
  · exact .next (.takeDataAbort fits s a false)

end Sys2Proof.Machine
end

section
/-! PROOF. The loads and stores keep what an instruction must keep (44_arm_load_store.md, 46_thumb.md R625-R645). -/

namespace Sys2Proof.Machine

/-! Accesses as work of an instruction. -/

namespace Works

theorem memRead {s t : State} {va : Word} {w : Width} {privileged : Bool} {r : Access Word}
    (h : s.memRead va w privileged = r) (k : r.after? = some t) : Works s t := .access (.memRead (h ▸ k))

theorem memWrite {s t : State} {va : Word} {w : Width} {v : Word} {privileged : Bool} {r : Access Unit}
    (h : s.memWrite va w v privileged = r) (k : r.after? = some t) : Works s t := .access (.memWrite (h ▸ k))

theorem prepare {s t : State} {va : Word} {w : Width} {privileged write : Bool} {r : Access Target}
    (h : s.prepare va w privileged write = r) (k : r.after? = some t) : Works s t := .access (.prepare (h ▸ k))

theorem prepareSwap {s t : State} {va : Word} {w : Width} {privileged : Bool} {r : Access Target}
    (h : s.prepareSwap va w privileged = r) (k : r.after? = some t) : Works s t :=
  .access ((AccessFrame.noteMatch s w _ _).trans (.translateData (h ▸ k)))

theorem loadAt {s t : State} {a : Target} {w : Width} {v : Word} (h : s.loadAt a w = .ok (v, t)) : Works s t :=
  .access (.loadAt h)

theorem storeAt {s t : State} {a : Target} {w : Width} {v : Word} (h : s.storeAt a w v = .ok t) : Works s t :=
  .access (.storeAt h)

theorem busGap (s : State) : Works s s.busGap := .access (.busGap s)

end Works

/-! Conditions and refusals before an instruction's work. -/

namespace Result.Lawful

variable {fits : Prop} {s : State}

/-- An instruction whose condition fails goes on in sequence (30_encoding.md R282). -/
theorem conditional {c : Cond} {r : Result} (h : Result.Lawful fits s r) :
    Result.Lawful fits s (if s.passed c then r else s.advance) := by
  split
  · exact h
  · exact .advance fits s

/-- An instruction that refuses what is unpredictable. -/
theorem guarded {p : Prop} [Decidable p] {e : Refusal} {r : Result} (h : Result.Lawful fits s r) :
    Result.Lawful fits s (if p then .refused e else r) := by
  split
  · exact .refused e
  · exact h

theorem ite {p : Prop} [Decidable p] {r q : Result} (h : Result.Lawful fits s r) (k : Result.Lawful fits s q) :
    Result.Lawful fits s (if p then r else q) := by
  split
  · exact h
  · exact k

theorem setReg_advance (n : Reg) (v : Word) : Result.Lawful fits s (s.setReg n v).advance :=
  .after (.setReg s n v) (.advance _ _)

/-! Single transfers. -/

theorem loadSingle (a : Address) (rn rd : Reg) (w : Width) (privileged : Bool) (conv : Word → Word) :
    Result.Lawful fits s (s.loadSingle a rn rd w privileged conv) := by
  unfold State.loadSingle
  split
  case h_1 => exact .refused _
  case h_2 h => exact .after (.memRead h rfl) (.abortSingle ..)
  case h_3 h => exact .after ((Works.memRead h rfl).trans (.writeBase _ rn _)) (.ite (.jumpExchange ..) (setReg_advance ..))

theorem storeSingle (a : Address) (rn : Reg) (w : Width) (privileged : Bool) (v : Word) :
    Result.Lawful fits s (s.storeSingle a rn w privileged v) := by
  unfold State.storeSingle
  split
  case h_1 => exact .refused _
  case h_2 h => exact .after (.memWrite h rfl) (.abortSingle ..)
  case h_3 h => exact .after ((Works.memWrite h rfl).trans (.writeBase _ rn _)) (.advance ..)

theorem load2 (c : Cond) (ix : Indexing) (u : Bool) (rn rd : Reg) (off : Offset2) (w : Width) (privileged pcAllowed : Bool)
    (conv : Word → Word → Word) : Result.Lawful fits s (s.load2 c ix u rn rd off w privileged pcAllowed conv) :=
  .conditional (.guarded (.guarded (.loadSingle ..)))

theorem store2 (c : Cond) (ix : Indexing) (u : Bool) (rn rd : Reg) (off : Offset2) (w : Width)
    (privileged pcAllowed : Bool) : Result.Lawful fits s (s.store2 c ix u rn rd off w privileged pcAllowed) :=
  .conditional (.guarded (.storeSingle ..))

theorem load3 (c : Cond) (ix : Indexing) (u : Bool) (rn rd : Reg) (off : Offset3) (w : Width) (conv : Word → Word) :
    Result.Lawful fits s (s.load3 c ix u rn rd off w conv) :=
  .conditional (.guarded (.guarded (.loadSingle ..)))

theorem strh (c : Cond) (ix : Indexing) (u : Bool) (rn rd : Reg) (off : Offset3) :
    Result.Lawful fits s (execStrh c ix u rn rd off s) :=
  .conditional (.guarded (.guarded (.storeSingle ..)))

/-- The work before an access that aborts, then the abort. -/
theorem after_abortMultiple {t : State} (h : Works s t) (i : AbortInfo) (regs : BitVec 16) :
    Result.Lawful fits s (t.abortMultiple i t.mode regs) := .after h (.abortMultiple i regs id)

theorem ldrd (c : Cond) (ix : Indexing) (u : Bool) (rn rd : Reg) (off : Offset3) :
    Result.Lawful fits s (execLdrd c ix u rn rd off s) := by
  refine .conditional (.ite (.undefined ..) (.guarded (.ite (.abortSingle ..) ?_)))
  split
  case h_1 => exact .refused _
  case h_2 h => exact .after (.memRead h rfl) (.abortSingle ..)
  case h_3 s1 h =>
    have first : Works s s1.busGap := (Works.memRead h rfl).trans (.busGap _)
    split
    case h_1 => exact .refused _
    case h_2 h2 => exact .after (first.trans (.memRead h2 rfl)) (.abortSingle ..)
    case h_3 h2 =>
      exact .after (((first.trans (.memRead h2 rfl)).trans (.writeBase _ rn _)).trans (.setReg _ rd _)) (setReg_advance ..)

theorem strd (c : Cond) (ix : Indexing) (u : Bool) (rn rd : Reg) (off : Offset3) :
    Result.Lawful fits s (execStrd c ix u rn rd off s) := by
  refine .conditional (.ite (.undefined ..) (.guarded (.ite (.abortMultiple _ _ id) ?_)))
  split
  case h_1 => exact .refused _
  case h_2 h => exact after_abortMultiple (.memWrite h rfl) ..
  case h_3 s1 h =>
    have first : Works s s1.busGap := (Works.memWrite h rfl).trans (.busGap _)
    split
    case h_1 => exact .refused _
    case h_2 h2 => exact after_abortMultiple (first.trans (.memWrite h2 rfl)) ..
    case h_3 h2 => exact .after ((first.trans (.memWrite h2 rfl)).trans (.writeBase _ rn _)) (.advance ..)

theorem pld (u : Bool) (rn : Reg) (off : Offset2) (b : Bool) : Result.Lawful fits s (execPld u rn off b s) := by
  refine .guarded ?_
  split
  · exact .advance ..
  · exact .after (.access ((AccessFrame.fence s _ false).trans (.requestFill _ _))) (.advance ..)

/-- A swap, whatever ends it where the access aborts. -/
theorem swap (w : Width) (rn rd rm : Reg) (conv : Word → Word → Word) (abort : State → AbortInfo → Result)
    (k : ∀ t i, Result.Lawful fits t (abort t i)) : Result.Lawful fits s (s.swap w rn rd rm conv abort) := by
  unfold State.swap
  simp only
  split
  case h_1 => exact .refused _
  case h_2 h => exact .after (.prepareSwap h rfl) (k _ _)
  case h_3 h =>
    split
    · exact .refused _
    · rename_i h1
      split
      · exact .refused _
      · rename_i h2
        refine .after (((Works.prepareSwap h rfl).trans (.loadAt h1)).trans (.storeAt h2)) ?_
        exact .after (.ite (.access (.drainWrites _))) (setReg_advance ..)

end Result.Lawful

/-! Multiple transfers. -/

/-- The state in which the reads of a load multiple end. -/
def BlockRead.after? : BlockRead → Option State
  | .ok _ s => some s
  | .abort _ _ s => some s
  | .stop _ => none

/-- The state in which the stores of a store multiple end. -/
def BlockWrite.after? : BlockWrite → Option State
  | .ok s => some s
  | .abort _ _ s => some s
  | .stop _ => none

@[simp] theorem BlockRead.after?_cons (x : Reg × Word) (r : BlockRead) : (r.cons x).after? = r.after? := by cases r <;> rfl

@[simp] theorem BlockWrite.after?_succ (r : BlockWrite) : r.succ.after? = r.after? := by cases r <;> rfl

namespace AccessFrame

/-- Between two words other bus masters may write. -/
theorem gap (s : State) (b : Bool) : AccessFrame s (if b then s else s.busGap) := by
  split
  · exact .refl s
  · exact .busGap s

theorem readBlock {s t : State} {va : Word} {privileged : Bool} {l : List Reg}
    (h : (s.readBlock va privileged l).after? = some t) : AccessFrame s t := by
  induction l generalizing s va with
  | nil => cases h; exact .refl _
  | cons r l ih =>
    unfold State.readBlock at h
    split at h
    case h_1 => cases h
    case h_2 e => cases h; exact .memRead (by rw [e]; rfl)
    case h_3 e =>
      rw [BlockRead.after?_cons] at h
      exact ((AccessFrame.memRead (by rw [e]; rfl)).trans (.gap _ _)).trans (ih h)

theorem writeWord {s t : State} {keep : Bool} {va v : Word} {privileged : Bool}
    (h : (s.writeWord keep va v privileged).after? = some t) : AccessFrame s t := by
  unfold State.writeWord at h
  split at h
  · exact .memWrite h
  · split at h <;> rename_i e <;> cases h <;> exact .prepare (by rw [e]; rfl)

theorem writeBlockRegs {s t : State} {keep : BitVec 16} {va : Word} {privileged : Bool} {l : List (Reg × Word)}
    (h : (s.writeBlockRegs keep va privileged l).after? = some t) : AccessFrame s t := by
  induction l generalizing s va with
  | nil => cases h; exact .refl _
  | cons x l ih =>
    unfold State.writeBlockRegs at h
    split at h
    case h_1 => cases h
    case h_2 e => cases h; exact .writeWord (by rw [e]; rfl)
    case h_3 e =>
      rw [BlockWrite.after?_succ] at h
      exact ((AccessFrame.writeWord (by rw [e]; rfl)).trans (.gap _ _)).trans (ih h)

theorem tried (s : State) (va : Word) (privileged : Bool) : AccessFrame s (s.tried va privileged) := by
  unfold State.tried
  split
  case h_1 => exact .refl s
  case h_2 e => exact .prepare (by rw [e]; rfl)
  case h_3 e => exact .prepare (by rw [e]; rfl)

end AccessFrame

namespace Works

theorem readBlock {s t : State} {va : Word} {privileged : Bool} {l : List Reg} {r : BlockRead}
    (h : s.readBlock va privileged l = r) (k : r.after? = some t) : Works s t := .access (.readBlock (h ▸ k))

theorem writeBlockRegs {s t : State} {keep : BitVec 16} {va : Word} {privileged : Bool} {l : List (Reg × Word)}
    {r : BlockWrite} (h : s.writeBlockRegs keep va privileged l = r) (k : r.after? = some t) : Works s t :=
  .access (.writeBlockRegs (h ▸ k))

/-- The registers that were loaded, in User mode those of the User bank. -/
theorem setBlockRegs {s : State} {m : Mode} {l : List (Reg × Word)} (h : s.mode = .usr → m = .usr) :
    Works s (s.setBlockRegs m l) := by
  induction l generalizing s with
  | nil => exact .refl s
  | cons x l ih =>
    have k : Works s (if x.1 = 15 then s else s.setBankedReg m x.1 x.2) := by
      split
      · exact .refl s
      · exact .setBankedReg _ _ ‹_› h
    exact k.trans (ih fun e => h (k.mode.symm.trans e))

theorem setSomeRegs {s : State} {m : Mode} {rn : Reg} {pick : Word} {l : List (Reg × Word)} (h : s.mode = .usr → m = .usr) :
    Works s (s.setSomeRegs m rn pick l) := by
  induction l generalizing s with
  | nil => exact .refl s
  | cons x l ih =>
    have k : Works s (if x.1 = 15 ∨ physReg m x.1 = physReg s.mode rn then s
        else s.setBankedReg m x.1 (if bitAt pick x.1.toNat then x.2 else s.bankedReg m x.1)) := by
      split
      · exact .refl s
      · exact .setBankedReg _ _ (fun e => ‹¬(_ ∨ _)› (Or.inl e)) h
    exact k.trans (ih fun e => h (k.mode.symm.trans e))

end Works

namespace Result.Lawful

variable {fits : Prop} {s : State}

theorem abortLdm (a : AbortInfo) {m : Mode} (rn : Reg) (list : BitVec 16) (w : Bool) (values : List (Reg × Word))
    (hm : s.mode = .usr → m = .usr) : Result.Lawful fits s (s.abortLdm a m rn list w values) := by
  refine .ite (.abortMultiple a _ hm) ?_
  have k : Works s ((s.consume 1).setSomeRegs m rn (s.free 0) values) :=
    (Works.consume s 1).trans (.setSomeRegs hm)
  exact .after k (.abortMultiple a 0 fun e => hm (k.mode.symm.trans e))

theorem loadMultiple (b : BlockMode) (w : Bool) (rn : Reg) (list : BitVec 16) {m : Mode} {finish : State → Option Word → Result}
    (hm : s.mode = .usr → m = .usr) (k : ∀ t pc, Result.Lawful fits t (finish t pc)) :
    Result.Lawful fits s (s.loadMultiple b w rn list m finish) := by
  unfold State.loadMultiple
  simp only
  split
  case h_1 => exact .refused _
  case h_2 h =>
    have read := Works.readBlock h rfl
    exact .after read (.abortLdm _ _ _ _ _ fun e => hm (read.mode.symm.trans e))
  case h_3 h =>
    have read := Works.readBlock h rfl
    have loaded (l) := read.trans (Works.setBlockRegs (l := l) fun e => hm (read.mode.symm.trans e))
    exact .after ((loaded _).trans (.writeBase _ rn _)) (k _ _)

theorem abortStm (n : Nat) (a : AbortInfo) (va : Word) (rn : Reg) (w : Bool) (values : List (Reg × Word)) :
    Result.Lawful fits s (s.abortStm n a va rn w values) := by
  have aborted {t : State} (h : Works s t) (regs : BitVec 16) : Result.Lawful fits s (t.abortMultiple a s.mode regs) :=
    .after h (.abortMultiple a _ fun e => h.mode.symm.trans e)
  unfold State.abortStm
  simp only
  split
  case h_1 => exact .refused _
  case h_2 h => exact aborted ((Works.consume s 1).trans (.writeBlockRegs h rfl)) _
  case h_3 h => exact aborted (((Works.consume s 1).trans (.writeBlockRegs h rfl)).trans (.access (.tried ..))) _

theorem storeMultiple (b : BlockMode) (w : Bool) (rn : Reg) (list : BitVec 16) (m : Mode) :
    Result.Lawful fits s (s.storeMultiple b w rn list m) := by
  refine .after (.consume s 1) ?_
  unfold State.storeMultiple
  simp only
  split
  case h_1 => exact .refused _
  case h_2 => exact .abortStm ..
  case h_3 h => exact .after ((Works.writeBlockRegs h rfl).trans (.writeBase _ rn _)) (.advance ..)

theorem finishLdm (s : State) (pc : Option Word) : Result.Lawful fits s (Machine.finishLdm s pc) := by
  cases pc
  · exact .advance ..
  · exact .jumpExchange ..

theorem finishLdmRet (s : State) (pc : Option Word) : Result.Lawful fits s (Machine.finishLdmRet s pc) := by
  cases pc
  · exact .advance ..
  · exact .returnTo ..

theorem thumbLdm (w : Bool) (rn : Reg) (list : BitVec 16) : Result.Lawful fits s (s.thumbLdm w rn list) :=
  .guarded (.guarded (.loadMultiple _ _ _ _ id .finishLdm))

end Result.Lawful

end Sys2Proof.Machine
end

section
/-! PROOF. The computing instructions, the branches and the status instructions keep what an instruction must keep
(40_cp0_dsp.md, 42_arm_data_processing.md, 43_arm_multiply.md, 45_arm_branch_status.md, 46_thumb.md). -/

namespace Sys2Proof.Machine

/-! Branch targets (10_state.md R35, 45_arm_branch_status.md R541). -/

theorem shift_toNat_mod (v : Word) {k : Nat} (h : k ≤ 32) : (v <<< k).toNat % 2 ^ k = 0 := by
  rw [BitVec.toNat_shiftLeft, Nat.shiftLeft_eq, Nat.mod_mod_of_dvd _ (pow_dvd_pow 2 h), Nat.mul_mod_left]

/-- A multiple of 4 is a multiple of the instruction size. -/
theorem mod_size_of_mod_four {n : Nat} (h : n % 4 = 0) (b : Bool) : n % (if b then 2 else 4) = 0 := by
  cases b
  · exact h
  · show n % 2 = 0
    omega

theorem State.pcRead_mod {s : State} (h : s.pcAligned = true) : s.pcRead.toNat % (if s.thumb then 2 else 4) = 0 := by
  refine add_toNat_mod (size_cases _) (s.pcAligned_iff.mp h) (mod_size_of_mod_four ?_ _)
  split <;> rfl

theorem State.armTarget_mod {s : State} (h : s.pcAligned = true) (imm : BitVec 24) :
    (s.armTarget imm).toNat % (if s.thumb then 2 else 4) = 0 :=
  add_toNat_mod (size_cases _) (State.pcRead_mod h) (mod_size_of_mod_four (shift_toNat_mod _ (k := 2) (by decide)) _)

theorem mod_two_of_mod_size {n : Nat} {b : Bool} (h : n % (if b then 2 else 4) = 0) : n % 2 = 0 := by
  cases b
  · have : n % 4 = 0 := h
    omega
  · exact h

/-- The target of a Thumb branch. -/
theorem State.thumbTarget_mod {s : State} (h : s.pcAligned = true) (v : Word) : (s.pcRead + (v <<< 1)).toNat % 2 = 0 :=
  add_toNat_mod (.inl rfl) (mod_two_of_mod_size (State.pcRead_mod h)) (shift_toNat_mod v (k := 1) (by decide))

theorem Commands.setSpsrOf (s : State) (m : Mode) (v : Word) : Commands s (s.setSpsrOf m v) := by
  unfold State.setSpsrOf
  split
  · exact .of_same rfl rfl
  · exact ⟨rfl, rfl, id, id⟩

/-! The masks of MSR (45_arm_branch_status.md R551). -/

theorem psrMask_user (mask : BitVec 4) : ∀ i < 24, bitAt (psrMask mask &&& 0xFF000000) i = false := by
  revert mask
  decide

theorem psrMask_thumb (mask : BitVec 4) : bitAt (psrMask mask &&& 0xFFFFFFDF) 5 = false := by
  revert mask
  decide

theorem psrMask_mode {mask : BitVec 4} (h : bitAt mask 0 = false) :
    ∀ i < 5, bitAt (psrMask mask &&& 0xFFFFFFDF) i = false := by
  revert mask
  decide

/-- A mode that MSR may write is legal (93 U31). -/
theorem modeWriteError_none {m : Mode} {sds : Bool} {psr : Word} (h : modeWriteError m sds psr = none) :
    (Mode.ofBits (field psr 0 5)).isSome = true := by
  unfold modeWriteError at h
  split at h
  · cases h
  all_goals simp only [*, Option.isSome_some]

/-- A write of the CPSR that keeps T, to a legal mode. -/
theorem Commands.setCpsr {s : State} {w : Word} (ht : bitAt w 5 = bitAt s.core.cpsr 5)
    (hm : s.legalMode = true → (Mode.ofBits (field w 0 5)).isSome = true) : Commands s (s.setCpsr w) := ⟨rfl, ht, hm, id⟩

namespace Result.Lawful

variable {fits : Prop} {s : State}

/-! Results and flags. -/

theorem ite_works {p : Prop} [Decidable p] {t : State} (h : Works s t) (n : Reg) (v : Word) :
    Result.Lawful fits s (((if p then t else s).setReg n v).advance) :=
  .after (.ite h) (.setReg_advance n v)

theorem dataResult (sf : Bool) (rd : Reg) (o : AluOut) : Result.Lawful fits s (s.dataResult sf rd o) :=
  .ite (.ite (.returnTo ..) (.jumpResult ..)) (.ite_works (.setAluFlags s o) ..)

theorem dataProc (c : Cond) (sf : Bool) (rn rd : Reg) (op2 : ShifterOp) (alu : Word → Word → Bool → AluOut) :
    Result.Lawful fits s (s.dataProc c sf rn rd op2 alu) := .conditional (.guarded (.dataResult ..))

theorem flags_advance (o : AluOut) : Result.Lawful fits s (s.setAluFlags o).advance := .after (.setAluFlags s o) (.advance ..)

theorem dataTest (c : Cond) (rn rd : Reg) (op2 : ShifterOp) (alu : Word → Word → Bool → AluOut) :
    Result.Lawful fits s (s.dataTest c rn rd op2 alu) := .conditional (.guarded (.flags_advance _))

theorem mulResult (sf : Bool) (rd : Reg) (v : Word) : Result.Lawful fits s (s.mulResult sf rd v) :=
  .ite_works (.setNz s _ _) ..

theorem longResult (sf : Bool) (rdHi rdLo : Reg) (p : BitVec 64) : Result.Lawful fits s (s.longResult sf rdHi rdLo p) :=
  .after ((Works.ite (.setNz s _ _)).trans (.setReg _ rdLo _)) (.setReg_advance ..)

theorem longMultiply (c : Cond) (sf signed acc : Bool) (rdHi rdLo rs rm : Reg) :
    Result.Lawful fits s (s.longMultiply c sf signed acc rdHi rdLo rs rm) := .conditional (.guarded (.longResult ..))

theorem raiseQ_setReg (b : Bool) (n : Reg) (v : Word) : Result.Lawful fits s (((s.raiseQ b).setReg n v).advance) :=
  .after (.raiseQ s b) (.setReg_advance ..)

theorem saturate (rd : Reg) (doubled : Bool) (sum : Int) : Result.Lawful fits s (s.saturate rd doubled sum) :=
  .raiseQ_setReg ..

theorem accumulateQ (rd rn : Reg) (p : Int) : Result.Lawful fits s (s.accumulateQ rd rn p) := .raiseQ_setReg ..

/-! Coprocessor 0. -/

theorem setAcc_advance (v : Acc) : Result.Lawful fits s (s.setAcc v).advance := .after (.setAcc s v) (.advance ..)

/-- An instruction of coprocessor 0, where it is allowed (10_state.md R46). -/
theorem coprocessor0 {c : Cond} {r : Result} (h : Result.Lawful fits s r) :
    Result.Lawful fits s (if s.passed c then if s.cp0Allowed then r else s.undefined else s.advance) :=
  .conditional (.ite h (.undefined ..))

theorem accumulate (c : Cond) (rs rm : Reg) (p : Word → Word → Int) : Result.Lawful fits s (s.accumulate c rs rm p) :=
  .coprocessor0 (.guarded (.setAcc_advance _))

theorem mar (c : Cond) (rdHi rdLo : Reg) : Result.Lawful fits s (execMar c rdHi rdLo s) :=
  .coprocessor0 (.guarded (.setAcc_advance _))

theorem mra (c : Cond) (rdHi rdLo : Reg) : Result.Lawful fits s (execMra c rdHi rdLo s) :=
  .coprocessor0 (.guarded (.after (.setReg s rdLo _) (.setReg_advance ..)))

theorem undefinedIf (c : Cond) : Result.Lawful fits s (if s.passed c then s.undefined else s.advance) :=
  .conditional (.undefined ..)

/-! Branches. -/

theorem b (c : Cond) (imm : BitVec 24) : Result.Lawful fits s (execB c imm s) :=
  .ite (.next (.branchTo fun _ ha => State.armTarget_mod ha imm)) (.branchNotTaken ..)

theorem bl (c : Cond) (imm : BitVec 24) : Result.Lawful fits s (execBl c imm s) := by
  refine .ite (.after (.setReg s 14 s.nextPc) (.next (.branchTo fun _ ha => ?_))) (.branchNotTaken ..)
  have k := Works.setReg s 14 s.nextPc
  rw [k.thumb]
  exact State.armTarget_mod ((State.pcAligned_congr k.pc k.thumb).symm.trans ha) imm

theorem blxImm (h : Bool) (imm : BitVec 24) : Result.Lawful fits s (execBlxImm h imm s) := by
  refine .after (.setReg s 14 s.nextPc) (.next (.branchStateTo fun _ ha => ?_))
  have k := Works.setReg s 14 s.nextPc
  have ha := (State.pcAligned_congr k.pc k.thumb).symm.trans ha
  refine add_toNat_mod (.inl rfl) (mod_two_of_mod_size (State.armTarget_mod ha imm)) ?_
  cases h <;> rfl

theorem bx (c : Cond) (rm : Reg) : Result.Lawful fits s (execBx c rm s) :=
  .ite (.after (.count s _) (.jumpExchange ..)) (.after (.count s _) (.advance ..))

theorem blxReg (c : Cond) (rm : Reg) : Result.Lawful fits s (execBlxReg c rm s) :=
  .ite (.guarded (.after ((Works.count s _).trans (.setReg _ 14 _)) (.jumpExchange ..))) (.after (.count s _) (.advance ..))

theorem tBranch (hf : fits → s.thumb = true) (v : Word) : Result.Lawful fits s (.next (s.branchTo (s.pcRead + (v <<< 1)))) := by
  refine .next (.branchTo fun f ha => ?_)
  rw [hf f]
  exact State.thumbTarget_mod ha v

theorem tBCond (hf : fits → s.thumb = true) (c : Cond) (imm : Byte) : Result.Lawful fits s (execTBCond c imm s) :=
  .ite (.tBranch hf _) (.branchNotTaken ..)

theorem tBlSuffix (hf : fits → s.thumb = true) (imm : BitVec 11) : Result.Lawful fits s (execTBlSuffix imm s) := by
  refine .after (.setReg s 14 s.thumbLink) (.next (.branchTo fun f _ => ?_))
  rw [(Works.setReg s 14 s.thumbLink).thumb, hf f]
  exact and_toNat_mod (k := 1) rfl

theorem tBlxSuffix (imm : BitVec 10) : Result.Lawful fits s (execTBlxSuffix imm s) :=
  .after (.setReg s 14 s.thumbLink) (.next (.branchStateTo fun _ _ => and_toNat_mod (k := 2) rfl))

theorem tBlxReg (h2 : Bool) (rm : LowReg) : Result.Lawful fits s (execTBlxReg h2 rm s) :=
  .guarded (.after ((Works.count s _).trans (.setReg _ 14 _)) (.jumpExchange ..))

/-! Status and exceptions. -/

theorem breakpoint : Result.Lawful fits s s.breakpoint :=
  .ite (.next ((Works.ite (.count s .pcChanged)).lawful (.takeDebug ..))) (.advance ..)

theorem mrs (c : Cond) (r : Bool) (rd : Reg) : Result.Lawful fits s (execMrs c r rd s) := by
  refine .conditional (.guarded (.ite ?_ (.setReg_advance ..)))
  split
  · exact .refused _
  · exact .setReg_advance ..

theorem msrSpsr (mask : BitVec 4) (v : Word) : Result.Lawful fits s (s.msrSpsr mask v) := by
  unfold State.msrSpsr
  split
  · exact .refused _
  · exact .privileged (State.mode_ne_usr_of_spsr ‹_›) (.setSpsrOf s _ _) (.advance ..)

theorem msrCpsr (mask : BitVec 4) (v : Word) : Result.Lawful fits s (s.msrCpsr mask v) := by
  unfold State.msrCpsr
  split
  case isFalse => exact .after (.setCpsr_merge s v (psrMask_user mask)) (.advance ..)
  case isTrue hp =>
    simp only
    split
    · exact .refused _
    · rename_i hn
      have hu : s.mode ≠ .usr := fun e => by rw [e] at hp; cases hp
      refine .privileged hu (.setCpsr ?thumb fun hl => ?mode) (.advance ..)
      case thumb => rw [bitAt_merge, psrMask_thumb]; rfl
      case mode =>
        split at hn
        · exact modeWriteError_none hn
        · have hf : field (merge (psrMask mask &&& 0xFFFFFFDF) s.core.cpsr v) 0 5 = field s.core.cpsr 0 5 :=
            field_congr fun i hi => by
              rw [Nat.zero_add, bitAt_merge, psrMask_mode (Bool.eq_false_iff.mpr ‹_›) i hi]; rfl
          rw [hf]
          exact hl

theorem msr (r : Bool) (mask : BitVec 4) (v : Word) : Result.Lawful fits s (s.msr r mask v) :=
  .ite (.msrSpsr mask v) (.msrCpsr mask v)

theorem msrReg (c : Cond) (r : Bool) (mask : BitVec 4) (rm : Reg) : Result.Lawful fits s (execMsrReg c r mask rm s) :=
  .conditional (.guarded (.msr ..))

/-! Thumb computing. -/

theorem thumbArith (rd : LowReg) (o : AluOut) : Result.Lawful fits s (s.thumbArith rd o) :=
  .after (.setAluFlags s o) (.setReg_advance ..)

theorem thumbLogic (rd : LowReg) (v : Word) : Result.Lawful fits s (s.thumbLogic rd v) :=
  .after (.setNz s _ _) (.setReg_advance ..)

end Result.Lawful

end Sys2Proof.Machine
end

section
/-! PROOF. The privileged instructions keep the invariants: the registers of coprocessors 14 and 15 and the functions of CP15
(41_coprocessor_access.md). -/

namespace Sys2Proof.Machine

theorem State.mode_ne_usr {s : State} (h : s.privileged = true) : s.mode ≠ .usr := fun e => by
  rw [State.privileged, e] at h
  cases h

/-- The constant bits of the Control register are constant (10_state.md R64). -/
theorem controlValue_idem (v : Word) : controlValue (controlValue v) = controlValue v := by
  apply BitVec.eq_of_getLsbD_eq
  intro i hi
  have absorb : ∀ v m c : Bool, (((v && m) || c) && m || c) = ((v && m) || c) := by decide
  simp only [controlValue, BitVec.getLsbD_or, BitVec.getLsbD_and]
  exact absorb ..

namespace Commands

/-- A write of CP15 that leaves the Control register legal. -/
theorem setCp15 {s : State} {c : Cp15} (h : s.controlLegal = true → (c.control == controlValue c.control) = true) :
    Commands s (s.setCp15 c) := ⟨rfl, rfl, id, h⟩

theorem access {s t : State} (h : AccessFrame s t) : Commands s t := .of_same h.core h.cp15

theorem setTlb (s : State) (side : Side) (t : Tlb) : Commands s (s.setTlb side t) := by
  cases side <;> exact .of_same rfl rfl

/-! The registers of coprocessor 15 (10_state.md R64-R99). -/

theorem writeControl (s : State) (v : Word) : Commands s (s.writeControl v) :=
  ⟨rfl, rfl, id, fun _ => beq_iff_eq.mpr (controlValue_idem v).symm⟩

theorem writePid (s : State) (v : Word) : Commands s (s.writePid v) := ⟨rfl, rfl, id, id⟩

theorem writeBkptReg {s : State} {f : Cp15 → Cp15} (h : (f s.cp15).control = s.cp15.control) :
    Commands s (s.writeBkptReg f) := by
  unfold State.writeBkptReg
  split
  · exact .of_same rfl rfl
  · exact .setCp15 fun k => by rw [h]; exact k

theorem writeCp15Reg {s t : State} {r : Cp15Reg} {v : Word} (h : s.writeCp15Reg r v = .ok t) : Commands s t := by
  cases r <;> simp only [State.writeCp15Reg] at h
  case id => cases h; exact .of_same rfl rfl
  case cacheType => cases h; exact .of_same rfl rfl
  case control => split at h <;> cases h; exact .writeControl s v
  case pid => cases h; exact .writePid s v
  case ibcr0 => split at h <;> cases h; exact .writeBkptReg rfl
  case ibcr1 => split at h <;> cases h; exact .writeBkptReg rfl
  case dbr0 => cases h; exact .writeBkptReg rfl
  case dbr1 => cases h; exact .writeBkptReg rfl
  case dbcon => cases h; exact .writeBkptReg rfl
  all_goals cases h; exact .setCp15 id

theorem writeCp15 {s t : State} {op1 : BitVec 3} {crn crm : BitVec 4} {op2 : BitVec 3} {v : Word}
    (h : s.writeCp15 op1 crn crm op2 v = .ok t) : Commands s t := by
  unfold State.writeCp15 at h
  split at h
  · cases h
  · split at h
    · cases h
    · exact .writeCp15Reg h

theorem readCp15 {s t : State} {op1 : BitVec 3} {crn crm : BitVec 4} {op2 : BitVec 3} {w : Word}
    (h : s.readCp15 op1 crn crm op2 = .ok (w, t)) : Commands s t := by
  unfold State.readCp15 at h
  split at h
  · cases h
  split at h
  · cases h
  split at h
  · cases h
  · rename_i r _
    cases r <;> cases h <;> exact .of_same rfl rfl

/-! The registers of coprocessor 14 (10_state.md R101-R113). -/

theorem writePwrmode {s t : State} {v : Word} (h : s.writePwrmode v = .ok t) : Commands s t := by
  unfold State.writePwrmode at h
  split at h <;> cases h <;> exact .of_same rfl rfl

theorem writeDcsr (s : State) (v : Word) : Commands s (s.writeDcsr v) := by
  simp only [State.writeDcsr]
  split
  · exact .of_same rfl rfl
  · split <;> exact .of_same rfl rfl

/-- The end of the trace buffer's content. -/
theorem scrambleTrace (s : State) : Commands s s.scrambleTrace := .of_same rfl rfl

theorem ite {s t u : State} {p : Prop} [Decidable p] (h : Commands s t) (k : Commands s u) : Commands s (if p then t else u) := by
  split
  · exact h
  · exact k

theorem writeCp14 {s t : State} {n : BitVec 4} {v : Word} (h : s.writeCp14 n v = .ok t) : Commands s t := by
  unfold State.writeCp14 at h
  split at h
  case h_6 => exact .writePwrmode h
  case h_9 => cases h; exact .writeDcsr s v
  case h_11 => cases h; exact .ite (.scrambleTrace s) (.of_same rfl rfl)
  case h_12 => cases h; exact .ite (.scrambleTrace s) (.of_same rfl rfl)
  case h_14 => cases h
  all_goals cases h; exact .of_same rfl rfl

theorem readTbreg (s : State) : Commands s s.readTbreg.2 := by
  unfold State.readTbreg
  split <;> exact .of_same rfl rfl

theorem readChkpt (s : State) (w : Word) : Commands s (s.readChkpt w).2 := by
  unfold State.readChkpt
  split <;> exact .of_same rfl rfl

theorem readCp14 {s t : State} {n : BitVec 4} {w : Word} (h : s.readCp14 n = .ok (w, t)) : Commands s t := by
  unfold State.readCp14 at h
  split at h
  case h_10 => have k := Commands.readTbreg s; rwa [Except.ok.inj h] at k
  case h_11 => have k := Commands.readChkpt s s.cp14.chkpt0; rwa [Except.ok.inj h] at k
  case h_12 => have k := Commands.readChkpt s s.cp14.chkpt1; rwa [Except.ok.inj h] at k
  case h_14 => cases h
  all_goals cases h; exact .of_same rfl rfl

end Commands

theorem Works.writeMrc (s : State) (rd : Reg) (v : Word) : Works s (s.writeMrc rd v) := by
  unfold State.writeMrc
  split
  · exact .setCpsr_merge s v (by decide)
  · exact .setReg s rd v

namespace Result.Lawful

variable {fits : Prop} {s : State}

/-- A privileged instruction that is complete. -/
theorem command {t : State} (hp : s.mode ≠ .usr) (h : Commands s t) : Result.Lawful fits s t.advance :=
  .privileged hp h (.advance ..)

theorem finishMcr {r : Except Refusal State} (hp : s.mode ≠ .usr) (h : ∀ t, r = .ok t → Commands s t) :
    Result.Lawful fits s (Machine.finishMcr r) := by
  cases r with
  | error e => exact .refused e
  | ok t => exact .command hp (h t rfl)

theorem finishMrc {r : Except Refusal (Word × State)} (rd : Reg) (hp : s.mode ≠ .usr)
    (h : ∀ w t, r = .ok (w, t) → Commands s t) : Result.Lawful fits s (Machine.finishMrc rd r) := by
  cases r with
  | error e => exact .refused e
  | ok x => exact .command hp ((h x.1 x.2 rfl).trans (Works.writeMrc x.2 rd x.1).commands)

/-- A privileged instruction (41_coprocessor_access.md R361). -/
theorem ifPrivileged {r : Result} (h : s.mode ≠ .usr → Result.Lawful fits s r) :
    Result.Lawful fits s (if !s.privileged then s.undefined else r) := by
  split
  · exact .undefined ..
  · rename_i hb
    exact h (State.mode_ne_usr (by simpa using hb))

/-- An instruction of a coprocessor that is there, in a privileged mode (41_coprocessor_access.md R360). -/
theorem ifReached {b : Bool} {r : Result} (h : s.mode ≠ .usr → Result.Lawful fits s r) :
    Result.Lawful fits s (if b || !s.privileged then s.undefined else r) := by
  split
  · exact .undefined ..
  · rename_i hb
    rw [Bool.or_eq_true, not_or] at hb
    exact h (State.mode_ne_usr (by simpa using hb.2))

theorem mcr (c : Cond) (op1 : BitVec 3) (crn : BitVec 4) (rd : Reg) (cp : BitVec 4) (op2 : BitVec 3) (crm : BitVec 4) :
    Result.Lawful fits s (execMcr c op1 crn rd cp op2 crm s) :=
  .conditional (.ifReached fun hp => .guarded (.ite (.finishMcr hp fun _ h => .writeCp15 h)
    (.ite (.finishMcr hp fun _ h => .writeCp14 h) (.refused _))))

theorem mrc (c : Cond) (op1 : BitVec 3) (crn : BitVec 4) (rd : Reg) (cp : BitVec 4) (op2 : BitVec 3) (crm : BitVec 4) :
    Result.Lawful fits s (execMrc c op1 crn rd cp op2 crm s) :=
  .conditional (.ifReached fun hp => .ite (.finishMrc rd hp fun _ _ h => .readCp15 h)
    (.ite (.finishMrc rd hp fun _ _ h => .readCp14 h) (.refused _)))

/-! LDC and STC. -/

theorem finishLdc (hp : s.mode ≠ .usr) (crd : BitVec 4) (v : Word) (rn : Reg) (b : Option Word) :
    Result.Lawful fits s (s.finishLdc crd v rn b) := by
  unfold State.finishLdc
  split
  · exact .refused _
  · exact .command hp ((Commands.writeCp14 ‹_›).trans (Works.writeBase _ rn b).commands)

theorem abortLdc (hp : s.mode ≠ .usr) (crd : BitVec 4) (i : AbortInfo) (rn : Reg) (b : Option Word) :
    Result.Lawful fits s (s.abortLdc crd i rn b) := by
  unfold State.abortLdc
  split
  · split
    · exact .refused _
    · exact .privileged hp ((Works.consume s 1).commands.trans (.writeCp14 ‹_›)) (.abortMultiple _ _ id)
  · exact .abortMultiple _ _ id

theorem ldc (c : Cond) (p u n w : Bool) (rn : Reg) (crd cp : BitVec 4) (off : Byte) :
    Result.Lawful fits s (execLdc c p u n w rn crd cp off s) := by
  refine .conditional (.ifReached fun hp => ?_)
  split
  · exact .refused _
  · simp only
    split
    case h_1 => exact .refused _
    case h_2 h =>
      have read := Works.memRead h rfl
      exact .after read (.abortLdc (read.mode ▸ hp) ..)
    case h_3 h =>
      have read := Works.memRead h rfl
      exact .after read (.finishLdc (read.mode ▸ hp) ..)

theorem stc (c : Cond) (p u n w : Bool) (rn : Reg) (crd cp : BitVec 4) (off : Byte) :
    Result.Lawful fits s (execStc c p u n w rn crd cp off s) := by
  refine .conditional (.ifReached fun hp => ?_)
  split
  · exact .refused _
  · simp only
    split
    case h_1 => exact .refused _
    case h_2 h => exact .after (.prepare h rfl) (.abortSingle ..)
    case h_3 h =>
      have prepared := (Works.prepare h rfl).commands
      split
      · exact .refused _
      · split
        · exact .refused _
        · exact .command hp (((prepared.trans (.readCp14 ‹_›)).trans (Works.storeAt ‹_›).commands).trans
            (Works.writeBase _ rn _).commands)

/-! The functions of CP15 (41_coprocessor_access.md R370-R377). -/

theorem cp15Function (c : Cond) (rd : Reg) {f : Word → Result} (h : s.mode ≠ .usr → ∀ v, Result.Lawful fits s (f v)) :
    Result.Lawful fits s (s.cp15Function c rd f) := .conditional (.ifPrivileged fun hp => .guarded (h hp _))

/-- A function that completes. -/
theorem cp15Command (c : Cond) (rd : Reg) {f : Word → State} (h : ∀ v, Commands s (f v)) :
    Result.Lawful fits s (s.cp15Function c rd fun v => (f v).advance) := .cp15Function c rd fun hp v => .command hp (h v)

/-- A function that may take a data abort. -/
theorem finishFunction {r : Access Unit} (hp : s.mode ≠ .usr) (h : ∀ t, r.after? = some t → Commands s t) :
    Result.Lawful fits s (Machine.finishFunction r) := by
  cases r with
  | stop e => exact .refused e
  | abort i t => exact .privileged hp (h t rfl) (.abortSingle ..)
  | ok _ t => exact .command hp (h t rfl)

end Result.Lawful

namespace Commands

theorem settleFills (s : State) : Commands s s.settleFills := .access (.settleFills s)

theorem invalidateIcache (s : State) : Commands s s.invalidateIcache := .of_same rfl rfl

theorem invalidateDcache (s : State) : Commands s s.invalidateDcache := .of_same rfl rfl

theorem invalidateDcacheLine (s : State) (l : BitVec 27) : Commands s (s.invalidateDcacheLine l) := .of_same rfl rfl

theorem cleanDcacheLine (s : State) (l : BitVec 27) : Commands s (s.cleanDcacheLine l) := by
  unfold State.cleanDcacheLine
  split
  · exact .of_same rfl rfl
  · exact .access ((AccessFrame.writeBackLine s true _).trans (.putDline _ _ _))

theorem drainCommand (s : State) : Commands s s.drainCommand :=
  (Commands.access (.drainAll s)).trans (.of_same rfl rfl)

theorem allocateLine {s t : State} {mva : Word} (h : (s.allocateLine mva).after? = some t) : Commands s t := by
  have translated {r : Translation} {u : State}
      (e : (if s.mmuOn then s.translate .data mva else .ok { TlbEntry.empty with base := mva } s) = r)
      (k : r.after? = some u) : AccessFrame s u := by
    subst e
    split at k
    · exact .translate k
    · cases k; exact .refl s
  unfold State.allocateLine at h
  split at h <;> rename_i e
  · cases h
  · cases h; exact .access (translated e rfl)
  · have k := translated e rfl
    split at h <;> rename_i e' <;> cases h
    simp only [State.allocateCommand] at e'
    split at e'
    · split at e' <;> cases e'
      exact .access (k.trans (.drainAll _))
    · cases e'
      exact .access ((k.trans (.drainAll _)).trans ((AccessFrame.consume _ 8).trans (.allocMain ..)))

theorem translateToLock {s t : State} {side : Side} {mva : Word} {r : Access TlbEntry}
    (h : s.translateToLock side mva = r) (k : r.after? = some t) : Commands s t := by
  subst h
  unfold State.translateToLock at k
  split at k <;> rename_i e <;> cases k <;> exact .access (.translateChecked (by rw [e]; rfl))

theorem lockIcacheLine {s t : State} {mva : Word} (h : (s.lockIcacheLine mva).after? = some t) : Commands s t := by
  unfold State.lockIcacheLine at h
  split at h
  · cases h
  split at h
  · cases h
  split at h <;> rename_i e
  · cases h
  · cases h; exact .translateToLock e rfl
  · rename_i s'
    have k : Commands s s' := .translateToLock e rfl
    simp only at h
    split at h
    · cases h
    have read (a : Word) := k.trans (.access (.busRead s' .fetch s'.memByte a 32))
    split at h <;> cases h
    · exact read _
    · exact ((read _).trans (Works.count _ .icacheMiss).commands).trans (.of_same rfl rfl)

theorem lockTlbEntry {s t : State} {side : Side} {mva : Word} (h : (s.lockTlbEntry side mva).after? = some t) :
    Commands s t := by
  unfold State.lockTlbEntry at h
  split at h
  · cases h
  split at h
  · cases h
  split at h <;> rename_i e
  · cases h
  · cases h; exact .access ((AccessFrame.countTlbMiss s side).trans (.walk (by rw [e]; rfl)))
  · have k := Commands.access ((AccessFrame.countTlbMiss s side).trans (.walk (by rw [e]; rfl)))
    split at h <;> cases h
    · exact k
    · exact k.trans (.setTlb ..)

end Commands

namespace Result.Lawful

variable {fits : Prop} {s : State}

theorem readDCacheLock (c : Cond) (rd : Reg) : Result.Lawful fits s (execReadDCacheLock c rd s) :=
  .conditional (.ifPrivileged fun hp => .finishMrc rd hp fun _ _ h => by cases h; exact .of_same rfl rfl)

theorem writeDCacheLock (c : Cond) (rd : Reg) : Result.Lawful fits s (execWriteDCacheLock c rd s) :=
  .cp15Function c rd fun hp _ => .guarded (.command hp (.setCp15 id))

theorem unlockTlb (hp : s.mode ≠ .usr) (side : Side) : Result.Lawful fits s (s.unlockTlb side) :=
  .ite (.command hp (.setTlb ..)) (.refused _)

theorem unlockICache (c : Cond) (rd : Reg) : Result.Lawful fits s (execUnlockICache c rd s) :=
  .cp15Function c rd fun hp _ => .ite (.command hp (.of_same rfl rfl)) (.refused _)

theorem unlockDCache (c : Cond) (rd : Reg) : Result.Lawful fits s (execUnlockDCache c rd s) :=
  .cp15Function c rd fun hp _ => .ite (.command hp (.of_same rfl rfl)) (.refused _)

end Result.Lawful

end Sys2Proof.Machine
end

section
/-! PROOF. Every instruction is lawful, and what that says of one in User mode (60_exceptions.md R695). -/

namespace Sys2Proof.Machine

namespace Result.Lawful

variable {fits : Prop} {s : State}

theorem oddHalf {va : Word} {r : Result} (h : Result.Lawful fits s r) :
    Result.Lawful fits s (if s.oddHalf va then .refused .unpredictableAlignment else r) := .guarded h

/-- A Thumb operation on registers with a PC destination (46_thumb.md R600, R614). -/
theorem highResult (d : Reg) (v : Word) :
    Result.Lawful fits s (if d = 15 then s.jumpResult v else (s.setReg d v).advance) :=
  .ite (.jumpResult ..) (.setReg_advance ..)

end Result.Lawful

/-- Every instruction keeps the invariants, a Thumb instruction where T is set, and User mode is confined. -/
theorem exec_lawful (i : Instr) (s : State) : Result.Lawful (Laws.thumbRow i = true → s.thumb = true) s (exec i s) := by
  cases i <;> unfold exec
  -- branches
  case b => exact .b ..
  case bl => exact .bl ..
  case blxImm => exact .blxImm ..
  case bx => exact .bx ..
  case blxReg => exact .blxReg ..
  case tB => exact .tBranch (fun f => f rfl) _
  case tBCond => exact .tBCond (fun f => f rfl) ..
  case tBlHead => exact .setReg_advance ..
  case tBlSuffix => exact .tBlSuffix (fun f => f rfl) ..
  case tBlxSuffix => exact .tBlxSuffix ..
  case tBx => exact .after (.count s _) (.jumpExchange ..)
  case tBlxReg => exact .tBlxReg ..
  -- exceptions and status
  case bkpt | tBkpt => exact .breakpoint
  case swi => exact .conditional (.softwareInterrupt ..)
  case tSwi => exact .softwareInterrupt ..
  case undefUncond | tUndefMisc | tUndefDE | tUndefBlx | tUndefRest => exact .undefined ..
  case undefBkptCond | undefMulSpace | undefArch | undefRest | cp0TransferOther | cp0Other | mcrr | mrrc | undefLdcStc | cdp =>
    exact .undefinedIf _
  case mrs => exact .mrs ..
  case msrReg => exact .msrReg ..
  case msrImm => exact .conditional (.msr ..)
  -- data processing
  case and | eor | sub | rsb | add | adc | sbc | rsc | orr | mov | bic | mvn =>
    exact .dataProc ..
  case tst | teq | cmp | cmn => exact .dataTest ..
  case clz => exact .conditional (.guarded (.setReg_advance ..))
  case qadd | qsub | qdadd | qdsub => exact .conditional (.guarded (.saturate ..))
  -- multiplies and coprocessor 0
  case mul | mla => exact .conditional (.guarded (.mulResult ..))
  case umull | umlal | smull | smlal => exact .longMultiply ..
  case smlaxy | smlawy => exact .conditional (.guarded (.accumulateQ ..))
  case smulwy | smulxy => exact .conditional (.guarded (.setReg_advance ..))
  case smlalxy => exact .conditional (.guarded (.longResult ..))
  case mia | miaph | miabb | miabt | miatb | miatt => exact .accumulate ..
  case mar => exact .mar ..
  case mra => exact .mra ..
  -- loads and stores
  case ldr => exact .guarded (.load2 ..)
  case ldrb | ldrt | ldrbt => exact .load2 ..
  case str | strb | strt | strbt => exact .store2 ..
  case ldrh | ldrsh | ldrsb => exact .load3 ..
  case strh => exact .strh ..
  case ldrd => exact .ldrd ..
  case strd => exact .strd ..
  case pld => exact .pld ..
  case swp => exact .conditional (.guarded (.guarded (.swap _ _ _ _ _ _ fun _ _ => .abortMultiple _ _ id)))
  case swpb => exact .conditional (.guarded (.swap _ _ _ _ _ _ fun _ _ => .abortSingle ..))
  case ldm => exact .conditional (.guarded (.guarded (.loadMultiple _ _ _ _ id .finishLdm)))
  case ldmUser => exact .conditional (.guarded (.guarded (.loadMultiple _ _ _ _ (fun _ => rfl) .finishLdm)))
  case ldmRet => exact .conditional (.guarded (.guarded (.guarded (.loadMultiple _ _ _ _ id .finishLdmRet))))
  case stm | stmUser => exact .conditional (.guarded (.storeMultiple ..))
  -- Thumb computing
  case tLslImm | tLsrImm | tAsrImm | tLslReg | tLsrReg | tAsrReg | tRor => exact .thumbArith ..
  case tAddReg | tSubReg | tAddImm3 | tSubImm3 | tAddImm8 | tSubImm8 | tAdc | tSbc | tNeg => exact .thumbArith ..
  case tMovImm | tMul | tMvn | tAnd | tEor | tOrr | tBic => exact .thumbLogic ..
  case tCmpImm | tCmpReg | tCmpHigh | tCmn => exact .flags_advance _
  case tTst => exact .after (.setNz s _ _) (.advance ..)
  case tAddHigh | tMovHigh => exact .highResult ..
  case tAddPc | tAddSp | tIncSp | tDecSp => exact .setReg_advance ..
  -- Thumb loads and stores
  case tLdrImm | tLdrReg | tLdrPc | tLdrSp | tLdrbImm | tLdrbReg | tLdrsb => exact .loadSingle ..
  case tLdrhImm | tLdrhReg | tLdrsh => exact .oddHalf (.loadSingle ..)
  case tStrImm | tStrReg | tStrSp | tStrbImm | tStrbReg => exact .storeSingle ..
  case tStrhImm | tStrhReg => exact .oddHalf (.storeSingle ..)
  case tLdmia | tPop => exact .thumbLdm ..
  case tStmia | tPush => exact .guarded (.storeMultiple ..)
  -- coprocessors 14 and 15
  case mcr => exact .mcr ..
  case mrc => exact .mrc ..
  case ldc => exact .ldc ..
  case stc => exact .stc ..
  case invIDCacheBtb =>
    exact .cp15Command _ _ fun _ => ((Commands.settleFills s).trans (.invalidateIcache _)).trans (.invalidateDcache _)
  case invICacheBtb => exact .cp15Command _ _ fun _ => .invalidateIcache s
  case invICacheLine | invBtb => exact .cp15Command _ _ fun _ => .of_same rfl rfl
  case invDCache => exact .cp15Command _ _ fun _ => (Commands.settleFills s).trans (.invalidateDcache _)
  case invDCacheLine => exact .cp15Command _ _ fun _ => (Commands.settleFills s).trans (.invalidateDcacheLine ..)
  case cleanDCacheLine => exact .cp15Command _ _ fun _ => (Commands.settleFills s).trans (.cleanDcacheLine ..)
  case drainWriteBuffer => exact .cp15Command _ _ fun _ => .drainCommand s
  case allocDCacheLine => exact .cp15Function _ _ fun hp _ => .finishFunction hp fun _ => .allocateLine
  case invIDTlb => exact .cp15Command _ _ fun _ => (Commands.setTlb s .instr _).trans (.setTlb _ .data _)
  case invITlb | invITlbEntry | invDTlb | invDTlbEntry => exact .cp15Command _ _ fun _ => .setTlb s _ _
  case lockICacheLine => exact .cp15Function _ _ fun hp _ => .finishFunction hp fun _ => .lockIcacheLine
  case unlockICache => exact .unlockICache ..
  case readDCacheLock => exact .readDCacheLock ..
  case writeDCacheLock => exact .writeDCacheLock ..
  case unlockDCache => exact .unlockDCache ..
  case lockITlbEntry | lockDTlbEntry => exact .cp15Function _ _ fun hp _ => .finishFunction hp fun _ => .lockTlbEntry
  case unlockITlb | unlockDTlb => exact .cp15Function _ _ fun hp _ => .unlockTlb hp _

/-- The CPSR bits 23 to 6 stay where the instruction stays in its mode. -/
theorem StaysInMode.statusField {s t : State} (h : StaysInMode s t) : field t.core.cpsr 6 18 = field s.core.cpsr 6 18 :=
  field_congr fun i hi => h.status (6 + i) (by omega) (by omega)

theorem StaysInMode.of_usr {s t : State} (h : StaysInMode s t ∨ exceptionMode t.mode) (ht : t.mode = .usr) : StaysInMode s t := by
  refine h.resolve_right ?_
  rw [ht]
  rintro (h | h | h | h) <;> cases h

/-- Settles O13: what every instruction keeps, read in User mode. -/
theorem userModeIsConfined : Obligations.UserModeIsConfined := by
  intro i s t hu h
  obtain ⟨hk, hs⟩ := ((exec_lawful i s).onNext t h).confined hu
  refine ⟨hk.cp15, hk.itlbLock, hk.dtlbLock, hk.icacheLock, hk.power, hs.imp_left fun k => k.mode.trans hu, fun ht => ?_⟩
  have k := StaysInMode.of_usr hs ht
  refine ⟨k.saved, k.statusField, k.sds, k.banks hu, fun hsds => ?_⟩
  obtain ⟨hflags, hrest⟩ := k.cp14 hsds
  exact ⟨hflags, hrest⟩

end Sys2Proof.Machine
end

section
/-! PROOF. An ARM word decodes to an ARM instruction (30_encoding.md R312). -/

namespace Sys2Proof

open Laws (thumbRow)

theorem thumbRow_decodeUncond (w : Word) : thumbRow (decodeUncond w) = false := by
  unfold decodeUncond
  repeat' split
  all_goals rfl

theorem thumbRow_decodeMulSpace (c : Cond) (w : Word) : thumbRow (decodeMulSpace c w) = false := by
  unfold decodeMulSpace
  repeat' split
  all_goals rfl

theorem thumbRow_decodeMrs (c : Cond) (w : Word) : thumbRow (decodeMisc.decodeMrs c w) = false := by
  unfold decodeMisc.decodeMrs
  split <;> rfl

theorem thumbRow_decodeMisc (c : Cond) (w : Word) : thumbRow (decodeMisc c w) = false := by
  have hmrs := thumbRow_decodeMrs c w
  unfold decodeMisc
  split
  case h_1 => exact hmrs
  case h_2 => exact hmrs
  all_goals repeat' split
  all_goals rfl

theorem thumbRow_decodeDataProc (c : Cond) (w : Word) : thumbRow (decodeDataProc c w) = false := by
  unfold decodeDataProc
  split <;> rfl

theorem thumbRow_decode000 (c : Cond) (w : Word) : thumbRow (decode000 c w) = false := by
  unfold decode000
  split
  · exact thumbRow_decodeMulSpace c w
  · split
    · exact thumbRow_decodeMisc c w
    · exact thumbRow_decodeDataProc c w

theorem thumbRow_decode001 (c : Cond) (w : Word) : thumbRow (decode001 c w) = false := by
  unfold decode001
  split
  · rfl
  · exact thumbRow_decodeDataProc c w

theorem thumbRow_decodeLoadStore (c : Cond) (w : Word) : thumbRow (decodeLoadStore c w) = false := by
  unfold decodeLoadStore
  split <;> rfl

theorem thumbRow_decodeBlock (c : Cond) (w : Word) : thumbRow (decodeBlock c w) = false := by
  unfold decodeBlock
  split <;> rfl

theorem thumbRow_decode110 (c : Cond) (w : Word) : thumbRow (decode110 c w) = false := by
  unfold decode110
  repeat' split
  all_goals rfl

theorem thumbRow_decodeCp0 (c : Cond) (w : Word) : thumbRow (decodeCp0 c w) = false := by
  unfold decodeCp0
  split <;> rfl

theorem thumbRow_decodeCp15Function {c : Cond} {rd : Reg} {crn crm : BitVec 4} {op2 : BitVec 3} {i : Instr}
    (h : decodeCp15Function c rd crn crm op2 = some i) : thumbRow i = false := by
  unfold decodeCp15Function at h
  split at h <;> cases h <;> rfl

theorem thumbRow_decodeCoproc (c : Cond) (w : Word) : thumbRow (decodeCoproc c w) = false := by
  unfold decodeCoproc
  split
  · rfl
  · split
    · split
      · exact thumbRow_decodeCp15Function ‹_›
      · rfl
    · rfl
  · split <;> rfl

theorem thumbRow_decodeCond (c : Cond) (w : Word) : thumbRow (decodeCond c w) = false := by
  unfold decodeCond
  split
  · exact thumbRow_decode000 c w
  · exact thumbRow_decode001 c w
  · exact thumbRow_decodeLoadStore c w
  · split
    · exact thumbRow_decodeLoadStore c w
    · rfl
  · exact thumbRow_decodeBlock c w
  · split <;> rfl
  · exact thumbRow_decode110 c w
  · split
    · rfl
    · exact thumbRow_decodeCp0 c w
    · exact thumbRow_decodeCoproc c w

/-- No ARM word is a Thumb instruction. -/
theorem thumbRow_decode_arm (w : Word) : thumbRow (decode (.arm w)) = false := by
  show thumbRow (decodeArm w) = false
  unfold decodeArm
  split
  · exact thumbRow_decodeUncond w
  · exact thumbRow_decodeCond _ w

end Sys2Proof
end

section
/-! PROOF. A step keeps a legal mode, the constant bits of the Control register and the alignment of the PC: its inputs, a reset,
the exceptions at its boundary, and the instruction (60_exceptions.md R663, 70_reset_and_hazards.md R900). -/

namespace Sys2Proof.Machine

/-! Inputs: none reaches a core register or CP15. -/

namespace Commands

theorem refl (s : State) : Commands s s := .of_same rfl rfl

theorem captureDr (s : State) : Commands s s.captureDr := by
  unfold State.captureDr
  cases s.dataReg <;> exact .of_same rfl rfl

theorem shiftDr (s : State) (tdi : Bool) : Commands s (s.shiftDr tdi) := by
  unfold State.shiftDr
  cases s.dataReg <;> exact .of_same rfl rfl

theorem tapAction (s : State) (tdi : Bool) : Commands s (s.tapAction tdi) := by
  unfold State.tapAction
  split
  · exact .captureDr s
  · exact .shiftDr s tdi
  all_goals exact .of_same rfl rfl

theorem updateDcsr {s t : State} (h : s.updateDcsr = .ok t) : Commands s t := by
  simp only [State.updateDcsr] at h
  split at h <;> cases h
  exact .of_same rfl rfl

theorem ldicStart {s t : State} {sr : BitVec 33} (h : s.ldicStart sr = .ok t) : Commands s t := by
  simp only [State.ldicStart] at h
  split at h
  · cases h; exact .of_same rfl rfl
  · cases h; exact .of_same rfl rfl
  · split at h <;> cases h; exact .of_same rfl rfl
  · split at h <;> cases h; exact .of_same rfl rfl
  · cases h

theorem ldicData {s t : State} {d : LdicLoad} {w : Word} (h : s.ldicData d w = .ok t) : Commands s t := by
  simp only [State.ldicData] at h
  split at h
  · split at h <;> cases h
    exact .ite (.of_same rfl rfl) (.of_same rfl rfl)
  · cases h; exact .of_same rfl rfl

theorem updateLdic {s t : State} (h : s.updateLdic = .ok t) : Commands s t := by
  have shifted : Commands s (s.setJtag { s.jtag with tcksSinceLdic := 0, ldicReg := s.jtag.ldicSr, ldicSr2 := s.jtag.ldicSr }) :=
    .of_same rfl rfl
  simp only [State.updateLdic] at h
  split at h
  · exact shifted.trans (.ldicStart h)
  · exact shifted.trans (.ldicData h)

theorem updateDr {s t : State} (h : s.updateDr = .ok t) : Commands s t := by
  unfold State.updateDr at h
  split at h
  case h_4 => exact .updateDcsr h
  case h_7 => exact .updateLdic h
  all_goals cases h; exact .of_same rfl rfl

theorem latchIr {s t : State} {ir : BitVec 5} (h : s.latchIr ir = .ok t) : Commands s t := by
  unfold State.latchIr at h
  split at h <;> cases h
  exact .of_same rfl rfl

theorem tapEnter {s t : State} (h : s.tapEnter = .ok t) : Commands s t := by
  unfold State.tapEnter at h
  split at h
  · exact .latchIr h
  · exact .updateDr h
  · exact .latchIr h
  all_goals cases h; exact .refl _

theorem driveTdo (s : State) : Commands s s.driveTdo := .ite (.of_same rfl rfl) (.of_same rfl rfl)

theorem tck {s t : State} {tms tdi : Bool} (h : s.tck tms tdi = .ok t) : Commands s t := by
  have counted : Commands s s.countTck := .of_same rfl rfl
  have clocked : Commands s ((s.countTck.tapAction tdi).moveTap tms) :=
    (counted.trans (.tapAction _ tdi)).trans (.of_same rfl rfl)
  unfold State.tck at h
  split at h
  · split at h <;> cases h
    exact (clocked.trans (.tapEnter ‹_›)).trans (.driveTdo _)
  · cases h; exact .refl _

theorem assertTrst {s t : State} (h : s.assertTrst = .ok t) : Commands s t := by
  unfold State.assertTrst at h
  split at h <;> rename_i e
  · cases h
  · have latched := Commands.latchIr e
    cases h
    exact latched.trans (.ite (.of_same rfl rfl) (.of_same rfl rfl))

theorem setTrst {s t : State} {b : Bool} (h : s.setTrst b = .ok t) : Commands s t := by
  unfold State.setTrst at h
  split at h
  · exact .assertTrst h
  · cases h; exact .of_same rfl rfl

theorem markInstrParity (s : State) (mini : Bool) (set way : BitVec 5) (word : BitVec 3) :
    Commands s (s.markInstrParity mini set way word) := .ite (.of_same rfl rfl) (.of_same rfl rfl)

theorem markDataParity (s : State) (mini : Bool) (set way byte : BitVec 5) :
    Commands s (s.markDataParity mini set way byte) := by
  simp only [State.markDataParity]
  split
  · exact .refl s
  · exact .access (.setDlines s mini _)

theorem takeInput {s t : State} {i : Input} (h : s.takeInput i = .ok t) : Commands s t := by
  cases i with
  | trst => exact .setTrst h
  | tck => exact .tck h
  | retireWrite => cases h; exact .access (.retireWrite ..)
  | fillReturn => cases h; exact .access (.returnFill ..)
  | icParity => cases h; exact .markInstrParity ..
  | dcParity => cases h; exact .markDataParity ..
  | busWrite => cases h; exact .access (.foreignWrite ..)
  | fetchAhead => cases h; exact .access (.ite (.fetchAhead ..))
  | irq | fiq | resetPin | busBetween | powerFault => cases h; exact .of_same rfl rfl

end Commands

/-! Reset (70_reset_and_hazards.md R900). -/

theorem Commands.toKeeps {fits : Prop} {s t : State} (h : Commands s t) : Keeps fits s t := h.keeps (.refl fits t)

/-- A processor reset leaves all of them, whatever the state before it. -/
theorem Keeps.processorReset (fits : Prop) (s u : State) : Keeps fits s u.processorReset where
  mode _ := by
    have hlow (i) (hi : i < 5) : bitAt u.resetCore.cpsr i = bitAt (0xD3 : Word) i := by
      have hm : ∀ i < 5, bitAt (0xFF : Word) i = true := by decide
      rw [State.resetCore, bitAt_merge, if_pos (hm i hi)]
    have hf : field u.processorReset.core.cpsr 0 5 = field (0xD3 : Word) 0 5 :=
      field_congr fun i hi => by rw [Nat.zero_add]; exact hlow i hi
    rw [State.legalMode, hf]
    rfl
  control _ := by
    have hc : u.processorReset.cp15.control = 0x78 := rfl
    rw [State.controlLegal, hc]
    decide
  aligned _ _ := by
    have hpc : u.processorReset.core.pc = 0 := rfl
    rw [State.pcAligned_iff, hpc]
    exact Nat.zero_mod _

theorem Commands.setHeld (s : State) (b : Bool) : Commands s (s.setHeld b) := .of_same rfl rfl

theorem Commands.resetIcaches (s : State) : Commands s s.resetIcaches :=
  .ite (.refl s) (.ite (.of_same rfl rfl) (.of_same rfl rfl))

theorem Keeps.updateHold (fits : Prop) (s : State) : Keeps fits s s.updateHold := by
  unfold State.updateHold
  split
  · exact (Keeps.processorReset fits s _).trans (Commands.setHeld _ true).toKeeps
  · exact ((Commands.resetIcaches s).trans (.setHeld _ false)).toKeeps
  · exact .refl fits s
  · exact .refl fits s

theorem Keeps.takeInputs {fits : Prop} {s t : State} {l : List Input} (h : s.takeInputs l = .ok t) : Keeps fits s t := by
  induction l generalizing s with
  | nil => cases h; exact .refl fits _
  | cons i l ih =>
    unfold State.takeInputs at h
    split at h
    · cases h
    · exact ((Commands.takeInput ‹_›).toKeeps.trans (.updateHold fits _)).trans (ih h)

theorem Commands.setInputs (s : State) (l : List (List Input)) : Commands s { s with inputs := l } := .of_same rfl rfl

theorem Keeps.popInputs {fits : Prop} {s t : State} (h : s.popInputs = .ok t) : Keeps fits s t := by
  have rest : Keeps fits s s.busRest := (Commands.access (.busRest s)).toKeeps
  simp only [State.popInputs] at h
  split at h
  · cases h; exact rest
  · exact rest.trans ((Commands.setInputs s.busRest _).toKeeps.trans (.takeInputs h))

/-! The boundary (60_exceptions.md R663). -/

/-- The monitor at the end of a step reaches no core register. -/
theorem Commands.tick (s : State) : Commands s s.tick := by
  unfold State.tick
  split <;> exact .of_same rfl rfl

/-- The state that a boundary leaves. -/
def BoundaryOutcome.state : BoundaryOutcome → State
  | .taken s => s
  | .run s => s

theorem Keeps.takeDebug (fits : Prop) (s : State) (c : DebugCause) : Keeps fits s (s.takeDebug c) :=
  (Lawful.takeDebug fits s c).toKeeps

/-- Fault status is no Control register. -/
theorem Commands.setFault (s : State) (a b : Word) : Commands s (s.setFault a b) := ⟨rfl, rfl, id, id⟩

theorem Commands.setStickyAbort (s : State) : Commands s s.setStickyAbort := .of_same rfl rfl

theorem Keeps.takeImprecise (fits : Prop) (s : State) (parity : Bool) : Keeps fits s (s.takeImprecise parity) := by
  have recorded : Commands s { s.recordImprecise parity with
      pending := { (s.recordImprecise parity).pending with imprecise := none } } :=
    (Commands.setFault s _ _).trans (.of_same rfl rfl)
  simp only [State.takeImprecise]
  split
  · exact (recorded.trans (.setStickyAbort _)).toKeeps
  · exact recorded.keeps (.takeException rfl)

theorem Keeps.lowerEvent {fits : Prop} {s t : State} (h : s.lowerEvent = some t) : Keeps fits s t := by
  unfold State.lowerEvent at h
  split at h
  · cases h; exact .takeDebug ..
  split at h
  · cases h; exact .takeDebug ..
  split at h
  · cases h; exact .takeException rfl
  split at h
  · cases h; exact .takeException rfl
  split at h
  · cases h; exact .takeDebug ..
  · cases h

theorem Commands.deferImprecise (s : State) : Commands s s.deferImprecise := by
  unfold State.deferImprecise
  split <;> exact .of_same rfl rfl

theorem Keeps.boundary (fits : Prop) (s : State) : Keeps fits s s.boundary.state := by
  unfold State.boundary
  split
  · exact .takeDebug ..
  split
  · exact .takeDebug ..
  split
  · exact (Works.consume s 1).commands.keeps (.takeImprecise ..)
  · have deferred := Commands.deferImprecise s
    simp only
    split
    · exact deferred.keeps (.lowerEvent ‹_›)
    · exact deferred.toKeeps

/-! The instruction. -/

/-- The instruction belongs to the instruction set in use. -/
theorem State.fits_codeOf (s t : State) (h : t.thumb = s.thumb) (w : Word) :
    Laws.thumbRow (decode (s.codeOf w)) = true → t.thumb = true := by
  rw [h]
  cases ht : s.thumb
  · have e : s.codeOf w = .arm w := by rw [State.codeOf, ht]; rfl
    rw [e, thumbRow_decode_arm]
    exact id
  · exact fun _ => rfl

theorem Commands.setBankedReg (s : State) (m : Mode) (n : Reg) (v : Word) : Commands s (s.setBankedReg m n v) :=
  ⟨rfl, rfl, id, id⟩

theorem Commands.freeRegs (s : State) (m : Mode) (l : List Reg) : Commands s (s.freeRegs m l) := by
  induction l generalizing s with
  | nil => exact .refl s
  | cons r l ih => exact ((Commands.setBankedReg s m r (s.free 0)).trans (Works.consume _ 1).commands).trans (ih _)

theorem Commands.settleShadow (s : State) (i : Instr) : Commands s (s.settleShadow i) := by
  rw [State.settleShadow_eq]
  exact (Commands.ite (.refl s) (.freeRegs s _ _)).trans (.of_same rfl rfl)

theorem Commands.retire (s : State) : Commands s s.retire := by
  have settled (s : State) : Commands s s.settleDebug := by
    unfold State.settleDebug
    exact .ite ((Commands.setBankedReg s _ _ _).trans (Works.consume _ 1).commands) (.refl s)
  exact ((Works.count s .instrExecuted).commands.trans (settled _)).trans (.tick _)

theorem mapNext_next {f : State → State} {r : Result} {t : State} (h : mapNext f r = .next t) :
    ∃ u, r = .next u ∧ t = f u := by
  cases r <;> cases h
  exact ⟨_, rfl, rfl⟩

theorem Keeps.of_fits {fits : Prop} {s t : State} (h : Keeps fits s t) (k : fits) : Keeps True s t :=
  ⟨h.mode, h.control, fun _ => h.aligned k⟩

theorem Keeps.runCode {s t : State} {c : Code} (hc : ∀ u : State, u.thumb = s.thumb → Laws.thumbRow (decode c) = true →
    u.thumb = true) (h : s.runCode c = .next t) : Keeps True s t := by
  unfold State.runCode at h
  split at h
  · cases h
  split at h
  · cases h
  · obtain ⟨u, hu, rfl⟩ := mapNext_next h
    have settled := Commands.settleShadow s (decode c)
    have ran := (((exec_lawful _ _).onNext u hu).toKeeps).of_fits (hc _ settled.thumb)
    exact settled.keeps (ran.trans (Commands.retire u).toKeeps)

theorem Keeps.takePrefetchAbort (fits : Prop) (s : State) (c : PrefetchCause) : Keeps fits s (s.takePrefetchAbort c) :=
  ((Commands.setFault s _ _).trans (Works.consume _ 2).commands).keeps (.takeException rfl)

theorem Keeps.runNext {s t : State} (h : s.runNext = .next t) : Keeps True s t := by
  unfold State.runNext at h
  split at h <;> rename_i e
  · cases h
  · have fetched := Commands.access (.fetchWord (by rw [e]; rfl))
    split at h
    · have free := fetched.trans (Works.consume _ 1).commands
      exact free.keeps (.runCode (fun u hu => State.fits_codeOf _ u hu _) h)
    · cases h
      exact fetched.keeps ((Keeps.takePrefetchAbort True _ _).trans (Commands.tick _).toKeeps)
  · have fetched := Commands.access (.fetchWord (by rw [e]; rfl))
    exact fetched.keeps (.runCode (fun u hu => State.fits_codeOf _ u hu _) h)

theorem Keeps.runBoundary {s t : State} (h : s.runBoundary = .next t) : Keeps True s t := by
  have k := Keeps.boundary True s
  unfold State.runBoundary at h
  split at h <;> rename_i e <;> rw [e] at k
  · cases h
    exact k.trans (Commands.tick _).toKeeps
  · exact k.trans (.runNext h)

theorem Commands.endStep (s : State) : Commands s s.endStep := .of_same rfl rfl

theorem Keeps.proceed {s t : State} (h : s.proceed = .next t) : Keeps True s t := by
  have woken : Commands s (if s.jtag.held then s else s.wake) :=
    .ite (.refl s) (.ite (.of_same rfl rfl) (.refl s))
  simp only [State.proceed] at h
  generalize (if s.jtag.held then s else s.wake) = w at h woken
  split at h
  · cases h
    exact woken.toKeeps
  split at h
  · cases h
  · obtain ⟨u, hu, rfl⟩ := mapNext_next h
    exact woken.keeps ((Keeps.runBoundary hu).trans (Commands.endStep u).toKeeps)

/-- What every step keeps. -/
theorem step_keeps {s t : State} (h : step s = .next t) : Keeps True s t := by
  unfold step at h
  split at h
  · cases h
  · exact (Keeps.popInputs ‹_›).trans (.proceed h)

/-- Settles O10, from what every step keeps. -/
theorem stepKeepsModeAndControl : Obligations.StepKeepsModeAndControl :=
  fun _ _ hm hc h => ⟨(step_keeps h).mode hm, (step_keeps h).control hc⟩

/-- Settles O11, from what every step keeps. -/
theorem stepKeepsPcAligned : Obligations.StepKeepsPcAligned := fun _ _ ha h => (step_keeps h).aligned trivial ha

end Sys2Proof.Machine
end

section
/-! PROOF. What is not allowed takes the Undefined Instruction exception (10_state.md R46, 41_coprocessor_access.md R360). -/

namespace Sys2Proof.Machine

/-! What taking an exception leaves (60_exceptions.md R670). -/

theorem State.enterMode_eq (s : State) (m : Mode) (setF : Bool) (link : Word) :
    s.enterMode m setF link = { s with core := (s.enterMode m setF link).core } := by
  unfold State.enterMode State.setSpsrOf
  split <;> rfl

theorem State.takeException_eq (s : State) (m : Mode) (setF : Bool) (offset link : Word) :
    (s.takeException m setF offset link).core = { (s.enterMode m setF link).core with pc := s.vectorBase + offset } := by
  unfold State.takeException State.setPc
  rw [State.traceException_core]

theorem State.setSpsrOf_spsrOf_other {s : State} {m m' : Mode} (v : Word) (h : m'.spsrIndex ≠ m.spsrIndex) :
    (s.setSpsrOf m v).spsrOf m' = s.spsrOf m' := by
  unfold State.setSpsrOf State.spsrOf
  cases hm : m.spsrIndex with
  | none => rfl
  | some i =>
    cases hm' : m'.spsrIndex with
    | none => rfl
    | some j =>
      have hne : i.val ≠ j.val := fun e => h (by rw [hm, hm', Fin.ext e])
      simp only [Option.map_some, Option.some.injEq]
      exact Vector.getElem_set_ne _ _ hne

theorem State.takeException_spsrs (s : State) (m m' : Mode) (setF : Bool) (offset link : Word) :
    (s.takeException m setF offset link).spsrOf m' = (s.setSpsrOf m s.core.cpsr).spsrOf m' := by
  unfold State.spsrOf
  rw [State.takeException_eq]
  unfold State.enterMode State.setSpsrOf
  cases m.spsrIndex <;> rfl

theorem State.takeException_regs (s : State) (m : Mode) (setF : Bool) (offset link : Word) :
    (s.takeException m setF offset link).core.regs = s.core.regs.set (physReg m 14).toFin link := by
  simp [State.takeException, State.enterMode]

theorem State.takeException_acc0 (s : State) (m : Mode) (setF : Bool) (offset link : Word) :
    (s.takeException m setF offset link).core.acc0 = s.core.acc0 := by
  simp [State.takeException, State.enterMode]

/-- A message asks for no data breakpoint. -/
theorem State.traceException_dataBkpt (s : State) (offset : Word) :
    (s.traceException offset).pending.dataBkpt = s.pending.dataBkpt := by
  unfold State.traceException
  split <;> rfl

/-- Entering a mode writes core registers only. -/
theorem SameElsewhere.enterMode (s : State) (m : Mode) (setF : Bool) (link : Word) :
    SameElsewhere s (s.enterMode m setF link) := by
  rw [State.enterMode_eq]
  exact .here s _ s.mem s.btb

theorem SameWithoutAccess.takeException (s : State) (m : Mode) (setF : Bool) (offset link : Word) :
    SameWithoutAccess s (s.takeException m setF offset link) where
  memory pa := by simp [State.memByte, State.takeException, State.enterMode]
  elsewhere := ((SameElsewhere.enterMode s m setF link).trans (.traceException _ offset)).trans (.here _ _ _ _)
  dataBkpt := by
    simp only [State.takeException, State.setPc_pending, State.traceException_dataBkpt]
    rw [State.enterMode_eq]
  stale := by
    simp only [State.takeException, State.setPc_stale, State.traceException_stale]
    rw [State.enterMode_eq]
  storing := by
    simp only [State.takeException, State.setPc_storing, State.traceException_storing]
    rw [State.enterMode_eq]

theorem ExceptionAfter.takeException (s : State) {m : Mode} (setF : Bool) (offset link : Word)
    (hm : m.spsrIndex.isSome = true) : ExceptionAfter s (s.takeException m setF offset link) m setF offset link where
  pc := rfl
  regs := .one (s.takeException_regs m setF offset link)
  saved := State.takeException_spsr setF offset link hm
  otherSaved m' h := by rw [State.takeException_spsrs, State.setSpsrOf_spsrOf_other _ h]
  mode := by rw [State.takeException_cpsr, field_handlerCpsr]
  thumb := by rw [State.takeException_cpsr, bitAt_handlerCpsr_thumb]
  fiqMask := by rw [State.takeException_cpsr, handlerCpsr_bits _ _ _ (by decide)]; rfl
  irqMask := by rw [State.takeException_cpsr, handlerCpsr_bits _ _ _ (by decide)]; rfl
  flags := field_congr fun i hi => by
    rw [State.takeException_cpsr, handlerCpsr_bits _ _ _ (by omega), if_neg (by omega), if_neg (by omega), if_neg (by omega),
      if_neg (by omega)]
  accumulator := s.takeException_acc0 m setF offset link
  memory := (SameWithoutAccess.takeException s m setF offset link).memory
  predictor := by
    simp only [State.takeException, State.setPc_btb, State.traceException_btb]
    rw [State.enterMode_eq]

/-- What an exception leaves does not depend on the event counters before it. -/
theorem ExceptionAfter.of_count {s t : State} {e : Event} {m : Mode} {setF : Bool} {vector link : Word}
    (h : ExceptionAfter (s.count e) t m setF vector link) : ExceptionAfter s t m setF vector link where
  pc := h.pc
  regs := ⟨h.regs.written, h.regs.others⟩
  saved := h.saved
  otherSaved := h.otherSaved
  mode := h.mode
  thumb := h.thumb
  fiqMask := h.fiqMask
  irqMask := h.irqMask
  flags := h.flags
  accumulator := h.accumulator
  memory := h.memory
  predictor := h.predictor

theorem SameWithoutAccess.of_count {s t : State} {e : Event} (h : SameWithoutAccess (s.count e) t) : SameWithoutAccess s t where
  memory := h.memory
  elsewhere := (SameElsewhere.count s e).trans h.elsewhere
  dataBkpt := h.dataBkpt
  stale := h.stale
  storing := h.storing

/-- An exception that an instruction raises by what it is. -/
theorem TakesException.takeByInstruction (s : State) {m : Mode} (offset : Word) (hm : m.spsrIndex.isSome = true) :
    TakesException (.next (s.takeByInstruction m offset)) s m offset s.nextPc := by
  refine ⟨_, rfl, ?_⟩
  simp only [State.takeByInstruction]
  split
  · exact ⟨(ExceptionAfter.takeException _ false offset s.nextPc hm).of_count,
      (SameWithoutAccess.takeException _ m false offset s.nextPc).of_count⟩
  · exact ⟨.takeException s false offset s.nextPc hm, .takeException s m false offset s.nextPc⟩

/-- Undefined Instruction outside Special Debug State (60_exceptions.md R672). -/
theorem TakesException.undefined {s : State} {r : Result} (hs : s.sds = false) (h : r = s.undefined) :
    TakesException r s .und 0x04 s.nextPc := by
  rw [h, State.undefined, hs, if_neg Bool.false_ne_true]
  exact .takeByInstruction s 0x04 rfl

/-! What is refused access. -/

theorem State.accumulate_denied {s : State} {c : Cond} (hc : s.passed c = true) (h : s.cp0Allowed = false) (rs rm : Reg)
    (p : Word → Word → Int) : s.accumulate c rs rm p = s.undefined := by
  rw [State.accumulate, if_pos hc, h, if_neg Bool.false_ne_true]

theorem State.cp15Function_user {s : State} {c : Cond} (hc : s.passed c = true) (h : s.privileged = false) (rd : Reg)
    (f : Word → Result) : s.cp15Function c rd f = s.undefined := by
  rw [State.cp15Function, if_pos hc, h]
  rfl

theorem State.privileged_user {s : State} (h : s.mode = .usr) : s.privileged = false := by
  rw [State.privileged, h]
  rfl

/-- A coprocessor that is not there, or not for User mode (41_coprocessor_access.md R360). -/
theorem State.notReached_mcr {s : State} {cp : BitVec 4} (h : s.mode = .usr ∨ (cp ≠ 14 ∧ cp ≠ 15)) :
    ((cp != 14 && cp != 15) || !s.privileged) = true := by
  rcases h with h | ⟨h14, h15⟩
  · rw [State.privileged_user h, Bool.not_false, Bool.or_true]
  · rw [bne_iff_ne.mpr h14, bne_iff_ne.mpr h15]
    rfl

theorem State.notReached_ldc {s : State} {cp : BitVec 4} (h : s.mode = .usr ∨ cp ≠ 14) :
    (cp != 14 || !s.privileged) = true := by
  rcases h with h | h14
  · rw [State.privileged_user h, Bool.not_false, Bool.or_true]
  · rw [bne_iff_ne.mpr h14]
    rfl

/-- An odd register number has bit 0 set. -/
theorem bitAt_zero_of_odd {rd : Reg} (h : rd.toNat % 2 = 1) : bitAt rd 0 = true := by
  simp only [bitAt, BitVec.getLsbD, Nat.testBit_zero, h, decide_true]

/-- Settles O27: each of them is the Undefined Instruction exception, by the check that comes first. -/
theorem forbiddenTraps : Obligations.ForbiddenTraps := by
  intro s c rs rm rn rd op1 op2 crn crm cp p u n w b ix off hc hs traps
  have trap {i : Instr} (h : exec i s = s.undefined) : traps i := .undefined hs h
  refine ⟨fun h => ⟨?accumulates, trap ?mar, trap ?mra⟩, fun h => ⟨trap ?mcr, trap ?mrc⟩, fun h => ⟨trap ?ldc, trap ?stc⟩,
    fun h => ?functions, fun h => ⟨trap ?ldrd, trap ?strd⟩⟩
  case accumulates =>
    have denied {i : Instr} (f : Word → Word → Int) (e : exec i s = s.accumulate c rs rm f) : traps i :=
      trap (e.trans (State.accumulate_denied hc h rs rm f))
    simp only [accumulateRows, List.forall_mem_cons, List.not_mem_nil, false_implies, implies_true, and_true]
    and_intros
    all_goals exact denied _ (by unfold exec; rfl)
  case mar =>
    have h : s.cp0Allowed = false := h
    simp only [exec, execMar, hc, h, if_true, Bool.false_eq_true, if_false]
  case mra =>
    have h : s.cp0Allowed = false := h
    simp only [exec, execMra, hc, h, if_true, Bool.false_eq_true, if_false]
  case mcr =>
    have h := State.notReached_mcr h
    simp only [exec, execMcr, hc, h, if_true]
  case mrc =>
    have h := State.notReached_mcr h
    simp only [exec, execMrc, hc, h, if_true]
  case ldc =>
    have h := State.notReached_ldc h
    simp only [exec, execLdc, hc, h, if_true]
  case stc =>
    have h := State.notReached_ldc h
    simp only [exec, execStc, hc, h, if_true]
  case functions =>
    have hp := State.privileged_user h
    have user {i : Instr} (f : Word → Result) (e : exec i s = s.cp15Function c rd f) : traps i :=
      trap (e.trans (State.cp15Function_user hc hp rd f))
    have lock : traps (.readDCacheLock c rd) := trap (by simp only [exec, execReadDCacheLock, hc, hp, if_true, Bool.not_false])
    simp only [functionInstrs, List.forall_mem_cons, List.not_mem_nil, false_implies, implies_true, and_true]
    and_intros
    on_goal 17 => exact lock
    all_goals exact user _ (by unfold exec; rfl)
  case ldrd => simp only [exec, execLdrd, hc, bitAt_zero_of_odd h, if_true]
  case strd => simp only [exec, execStrd, hc, bitAt_zero_of_odd h, if_true]

end Sys2Proof.Machine
end

section
/-! PROOF. Data processing with R15 as its destination: a branch, or a return from an exception (10_state.md R35,
42_arm_data_processing.md R405). -/

namespace Sys2Proof.Machine

/-! The rows of the ALU are what the instructions compute (42_arm_data_processing.md R404). -/

/-- What the ALU gives for a row. -/
def AluRow.out (r : AluRow) : AluOut := { value := r.value, c := r.c, v := r.v }

theorem addWithCarry_value (x y : Word) (k : Bool) : (addWithCarry x y k).value = x + y + carryWord k := by
  apply BitVec.eq_of_toNat_eq
  cases k <;> simp [addWithCarry, carryWord, BitVec.toNat_add]

theorem sumRow_out (i : Instr) (x y : Word) (k : Bool) : (sumRow i x y k).out = addWithCarry x y k := by
  have hv := addWithCarry_value x y k
  unfold addWithCarry at hv ⊢
  simp only at hv
  simp only [AluRow.out, sumRow, hv]

theorem toInt_not (y : Word) : (~~~y).toInt = -1 - y.toInt := by
  have hy := y.isLt
  simp only [BitVec.toInt_eq_toNat_cond, BitVec.toNat_not]
  split <;> split <;> omega

/-- A difference is the sum with the complement. -/
theorem differenceRow_out (i : Instr) (x y : Word) (b : Bool) :
    (differenceRow i x y b).out = addWithCarry x (~~~y) (!b) := by
  have hy := y.isLt
  have hv : x + ~~~y + carryWord (!b) = x - y - carryWord b := by
    cases b <;> simp only [carryWord, Bool.not_true, Bool.not_false, if_true, Bool.false_eq_true, if_false] <;> bv_omega
  have hc : (2 ^ 32 ≤ x.toNat + (~~~y).toNat + (!b).toNat) ↔ (y.toNat + b.toNat ≤ x.toNat) := by
    rw [BitVec.toNat_not]
    cases b <;> simp only [Bool.not_true, Bool.not_false, Bool.toNat_true, Bool.toNat_false] <;> omega
  have hs : x.toInt + (~~~y).toInt + ((!b).toNat : Int) = x.toInt - y.toInt - (b.toNat : Int) := by
    rw [toInt_not]
    cases b <;> simp only [Bool.not_true, Bool.not_false, Bool.toNat_true, Bool.toNat_false] <;> omega
  rw [← sumRow_out i x (~~~y) (!b)]
  simp only [AluRow.out, differenceRow, sumRow, hv, hc, hs]

theorem ShifterOp.namesPc_mono {op2 : ShifterOp} {rn rd : Reg} (h : op2.namesPc rn rd = false) (x : Reg) (hx : x ≠ 15) :
    op2.namesPc x rd = false := by
  cases op2 with
  | imm => rfl
  | shiftImm => rfl
  | shiftReg rs kind rm =>
    simp only [ShifterOp.namesPc, Bool.or_eq_false_iff] at h ⊢
    exact ⟨⟨h.1.1, beq_eq_false_iff_ne.mpr hx⟩, h.2⟩

/-- A data-processing instruction that passes ends with the result of its row. -/
theorem exec_dataRows {s : State} {c : Cond} {rn rd : Reg} {op2 : ShifterOp} (hc : s.passed c = true)
    (hpc : op2.namesPc rn rd = false) (sf : Bool) :
    ∀ r ∈ dataRows s c sf rn rd op2, exec r.instr s = s.dataResult sf rd r.out := by
  have run {i : Instr} {n : Reg} (alu : Word → Word → Bool → AluOut) (o : AluOut) (hn : op2.namesPc n rd = false)
      (e : exec i s = s.dataProc c sf n rd op2 alu) (ho : alu (s.reg n) (s.shifter op2).1 (s.shifter op2).2 = o) :
      exec i s = s.dataResult sf rd o := by
    rw [e, State.dataProc, if_pos hc, hn, if_neg Bool.false_ne_true, ho]
  have h0 := ShifterOp.namesPc_mono hpc 0 (by decide)
  simp only [dataRows, List.forall_mem_cons, List.not_mem_nil, false_implies, implies_true, and_true]
  refine ⟨?and, ?eor, ?orr, ?bic, ?mov, ?mvn, ?add, ?adc, ?sub, ?sbc, ?rsb, ?rsc⟩
  case mov | mvn => exact run _ _ h0 (by unfold exec; rfl) rfl
  case and | eor | orr | bic => exact run _ _ hpc (by unfold exec; rfl) rfl
  case add | adc => exact run _ _ hpc (by unfold exec sumRow; rfl) (sumRow_out ..).symm
  case sub | rsb => exact run _ _ hpc (by unfold exec differenceRow; rfl) (by rw [differenceRow_out]; rfl)
  case sbc | rsc => exact run _ _ hpc (by unfold exec differenceRow; rfl) (by rw [differenceRow_out, Bool.not_not])

/-! Writes of the PC. -/

/-- A branch without a change of state that the BTB does not hold. -/
theorem State.jumpTo_next (s : State) (i : Bool) (v : Word) : JumpsTo (.next (s.jumpTo i v)) s { s.core with pc := v } := by
  refine ⟨_, rfl, ?core, fun pa => ?memory, ?btb, ?stale, ?storing,
    ((SameElsewhere.count s _).trans (.traceIndirect _ i v)).trans (.here _ _ _ _)⟩
  case core =>
    unfold State.jumpTo State.setPc
    rw [State.traceIndirect_core]
    rfl
  case memory => simp [State.memByte, State.jumpTo]
  all_goals simp [State.jumpTo]

theorem State.jumpResult_arm {s : State} {v : Word} (ht : s.thumb = false) :
    s.jumpResult v = if v.toNat % 4 = 0 then .next (s.jumpTo false v) else .refused .unalignedTarget := by
  rw [State.jumpResult, ht, if_neg Bool.false_ne_true]
  simp only [field_two_eq_zero_iff]

/-! Returns from an exception (60_exceptions.md R690). -/

theorem State.restoreCpsr_of_spsr {s : State} {w : Word} {m : Mode} (hw : s.spsrOf s.mode = some w)
    (hm : Mode.ofBits (field w 0 5) = some m) (hd : m ≠ .dbg) : s.restoreCpsr = .ok { s.setCpsr w with sds := false } := by
  unfold State.restoreCpsr
  rw [hw]
  simp only [hm]

theorem alignForState_eq (b : Bool) (v : Word) : alignForState b v = v &&& (if b then 0xFFFFFFFE else 0xFFFFFFFC) := by
  cases b <;> rfl

/-- A return: the CPSR is the SPSR, the PC is aligned, Special Debug State ends, and nothing else changes. -/
theorem State.returnTo_of_spsr {s : State} {w : Word} {m : Mode} (v : Word) (hw : s.spsrOf s.mode = some w)
    (hm : Mode.ofBits (field w 0 5) = some m) (hd : m ≠ .dbg) :
    ∃ t, s.returnTo v = .next t ∧
      t.core = { s.core with cpsr := w, pc := v &&& (if bitAt w 5 then 0xFFFFFFFE else 0xFFFFFFFC) } ∧ t.sds = false ∧
      SameMemory s t ∧ t.btb = s.btb ∧ SameElsewhere { s with sds := false } t := by
  have restored : SameElsewhere { s with sds := false } { s.setCpsr w with sds := false } := .here _ _ _ _
  have counted (p : Prop) [Decidable p] (u : State) : SameElsewhere u (if p then u.count .pcChanged else u) := by
    split
    · exact .count u _
    · exact .refl u
  simp only [State.returnTo, State.restoreCpsr_of_spsr hw hm hd]
  refine ⟨_, rfl, ?core, ?sds, fun pa => ?memory, ?btb,
    ((restored.trans (counted _ _)).trans (.traceIndirect _ _ _)).trans (.here _ _ _ _)⟩
  case core =>
    unfold State.setPc
    rw [State.traceIndirect_core, alignForState_eq]
    split <;> rfl
  case sds => simp only [State.setPc_sds, State.traceIndirect_sds]; split <;> rfl
  case memory =>
    simp only [State.memByte, State.setPc_mem, State.traceIndirect_mem]
    split <;> rfl
  case btb => simp only [State.setPc_btb, State.traceIndirect_btb]; split <;> rfl

theorem State.returnTo_no_spsr {s : State} (v : Word) (h : s.spsrOf s.mode = none) : s.returnTo v = .refused .noSpsr := by
  simp only [State.returnTo, State.restoreCpsr, h]

/-- Settles O19: the result goes to the PC as the branch or the return of its S bit. -/
theorem dataProcessingToPc : Obligations.DataProcessingToPc := by
  intro s c rn op2 hc ht hpc
  refine ⟨fun r hr => ?branch, fun r hr => ⟨fun w m hw hm hd => ?returns, fun hn => ?refused⟩⟩
  all_goals rw [exec_dataRows hc hpc _ r hr]
  case branch =>
    have e : s.dataResult false 15 r.out = s.jumpResult r.value := rfl
    rw [e, State.jumpResult_arm ht]
    split
    · exact s.jumpTo_next false r.value
    · rfl
  case returns => exact State.returnTo_of_spsr r.value hw hm hd
  case refused => exact State.returnTo_no_spsr r.value hn

end Sys2Proof.Machine
end

section
/-! PROOF. The registers of coprocessor 14 (10_state.md R101-R113, 41_coprocessor_access.md R363-R366). -/

namespace Sys2Proof.Machine

/-! Words under masks. -/

theorem setBit_true (k : Nat) (w : Word) (hk : k < 32) : setBit k true w = w ||| (1#32 <<< k) := by
  apply BitVec.eq_of_getLsbD_eq
  intro i hi
  have h := bitAt_setBit true w hk hi
  simp only [bitAt] at h
  rw [h, BitVec.getLsbD_or, BitVec.getLsbD_shiftLeft, BitVec.getLsbD_one]
  by_cases e : i = k
  · simp [e, hk]
  · simp [e]
    omega

/-- A masked read shows the bits of the mask (93 U4). -/
theorem merge_and_mask (mask w v : Word) : merge mask w v &&& mask = v &&& mask := by
  apply BitVec.eq_of_getLsbD_eq
  intro i _
  have h := bitAt_merge mask w v i
  simp only [bitAt] at h
  rw [BitVec.getLsbD_and, BitVec.getLsbD_and, h]
  cases mask.getLsbD i <;> simp

/-! How an instruction ends that changes the state outside the core registers. -/

/-- The advance of a state whose PC and T are those of `s`. -/
theorem State.advance_at {s u : State} (hn : s.hasNext) (hp : u.core.pc = s.core.pc) (ht : u.thumb = s.thumb) :
    u.advance = .next (u.setPc s.nextPc).traceInstr := by
  have hi : u.instrSize = s.instrSize := by rw [State.instrSize, State.instrSize, ht]
  have hnext : u.nextPc = s.nextPc := by rw [State.nextPc, State.nextPc, hp, hi]
  rw [State.advance_eq (by rw [hp, hi]; exact hn), hnext]

/-- With the trace buffer off nothing is recorded. -/
theorem State.advance_silent {s u : State} (hn : s.hasNext) (htr : s.traceOn = false) (hd : u.cp14.dcsr = s.cp14.dcsr)
    (hp : u.core.pc = s.core.pc) (ht : u.thumb = s.thumb) : u.advance = .next (u.setPc s.nextPc) := by
  have h : (u.setPc s.nextPc).traceOn = false := by
    rw [← htr]
    simp only [State.traceOn, State.debugOn, State.setPc_cp14, hd]
  rw [State.advance_at hn hp ht, State.traceInstr_off h]

theorem CompletesAs.advance {s u : State} (hn : s.hasNext) (hp : u.core.pc = s.core.pc) (ht : u.thumb = s.thumb) :
    CompletesAs u.advance s u := by
  refine ⟨_, State.advance_at hn hp ht, ?_, ?_⟩
  · rw [State.traceInstr_core]; rfl
  · rw [SystemIs, State.traceInstr_core]; rfl

/-! MCR (41_coprocessor_access.md R363). -/

theorem State.privileged_of_ne {s : State} (h : s.mode ≠ .usr) : s.privileged = true := bne_iff_ne.mpr h

theorem exec_mcr_cp14 {s : State} {c : Cond} {rd : Reg} (hc : s.passed c = true) (hp : s.mode ≠ .usr) (hrd : rd ≠ 15)
    (n : BitVec 4) : exec (.mcr c 0 n rd 14 0 0) s = finishMcr (s.writeCp14 n (s.reg rd)) := by
  have h15 : (rd == 15) = false := beq_eq_false_iff_ne.mpr hrd
  simp only [exec, execMcr, hc, State.privileged_of_ne hp, h15, if_true]
  rfl

theorem exec_mrc_cp14 {s : State} {c : Cond} (hc : s.passed c = true) (hp : s.mode ≠ .usr) (n : BitVec 4) (rd : Reg) :
    exec (.mrc c 0 n rd 14 0 0) s = finishMrc rd (s.readCp14 n) := by
  simp only [exec, execMrc, hc, State.privileged_of_ne hp, if_true]
  rfl

/-- The writable bit of TXRXCTRL (10_state.md R113). -/
theorem setBit_thirty (b v : Word) : setBit 30 (bitAt v 30) b = (b &&& 0xBFFFFFFF) ||| (v &&& 0x40000000) := by
  apply BitVec.eq_of_getLsbD_eq
  intro i hi
  have hm : ∀ i < 32, (0xBFFFFFFF : Word).getLsbD i = decide (i ≠ 30) ∧ (0x40000000 : Word).getLsbD i = decide (i = 30) := by
    decide
  have h := bitAt_setBit (k := 30) (bitAt v 30) b (by decide) hi
  simp only [bitAt] at h
  rw [h, BitVec.getLsbD_or, BitVec.getLsbD_and, BitVec.getLsbD_and, (hm i hi).1, (hm i hi).2]
  by_cases e : i = 30 <;> simp [e]

theorem setBit_thirtyOne_false (w : Word) : setBit 31 false w = w &&& 0x7FFFFFFF := by
  apply BitVec.eq_of_getLsbD_eq
  intro i hi
  have hm : ∀ i < 32, (0x7FFFFFFF : Word).getLsbD i = decide (i ≠ 31) := by decide
  have h := bitAt_setBit (k := 31) false w (by decide) hi
  simp only [bitAt] at h
  rw [h, BitVec.getLsbD_and, hm i hi]
  by_cases e : i = 31 <;> simp [e]

/-- With the trace buffer off a write of CP14 changes the registers of its row (10_state.md R101-R113). -/
theorem State.writeCp14_rows {s : State} (ht : s.traceOn = false) (v : Word) :
    ∀ r ∈ cp14Writes s.cp14 v, s.writeCp14 r.1 v = .ok { s with cp14 := r.2 } := by
  simp only [cp14Writes, List.forall_mem_cons, List.not_mem_nil, false_implies, implies_true, and_true]
  refine ⟨rfl, rfl, rfl, rfl, ?tx, rfl, ?chkpt0, ?chkpt1, ?txrxctrl⟩
  case tx => simp only [State.writeCp14, setBit_true 28 _ (by decide)]; rfl
  case chkpt0 => simp only [State.writeCp14, ht, Bool.false_eq_true, if_false]; rfl
  case chkpt1 => simp only [State.writeCp14, ht, Bool.false_eq_true, if_false]; rfl
  case txrxctrl => simp only [State.writeCp14, setBit_thirty]; rfl

/-! MRC (41_coprocessor_access.md R364). -/

/-- With the trace buffer off a read of CP14 gives its row's value on the bits that the spec gives, and uses free values for the
others. -/
theorem State.readCp14_rows {s : State} (ht : s.traceOn = false) : ∀ r ∈ cp14Reads s.cp14,
    ∃ x n, s.readCp14 r.1 = .ok (x, s.consume n) ∧ x &&& r.2.1 = r.2.2 &&& r.2.1 := by
  have masked {k : BitVec 4} {mask v : Word} (h : s.readCp14 k = .ok (s.readMasked mask v)) :
      ∃ x n, s.readCp14 k = .ok (x, s.consume n) ∧ x &&& mask = v &&& mask := ⟨_, 1, h, merge_and_mask ..⟩
  have plain {k : BitVec 4} {mask v : Word} (h : s.readCp14 k = .ok (v, s)) :
      ∃ x n, s.readCp14 k = .ok (x, s.consume n) ∧ x &&& mask = v &&& mask := ⟨v, 0, h, rfl⟩
  have checkpoint (w : Word) : s.readChkpt w = (w, s) := by rw [State.readChkpt, ht]; rfl
  simp only [cp14Reads, List.forall_mem_cons, List.not_mem_nil, false_implies, implies_true, and_true]
  exact ⟨masked rfl, plain rfl, plain rfl, plain rfl, masked rfl, masked rfl, plain rfl, masked rfl,
    plain (congrArg _ (checkpoint _)), plain (congrArg _ (checkpoint _)), plain rfl⟩

/-- The end of an MRC that reads a special register. -/
theorem ReadsSpecial.finishMrc {s : State} {rd : Reg} {mask v x : Word} {n : Nat} (hn : s.hasNext) (hrd : rd ≠ 15)
    (hx : x &&& mask = v &&& mask) : ReadsSpecial (Machine.finishMrc rd (.ok (x, s.consume n))) s rd mask v := by
  have hw : (s.consume n).writeMrc rd x = (s.consume n).setBankedReg s.mode rd x := by
    rw [State.writeMrc, if_neg hrd, State.setReg_of_ne _ hrd]; rfl
  have e : Machine.finishMrc rd (.ok (x, s.consume n)) = ((s.consume n).setBankedReg s.mode rd x).advance :=
    congrArg State.advance hw
  refine ⟨_, x, e.trans (State.advance_at hn rfl rfl), .one ?regs, hx, ?pc, ?cpsr, ?spsrs, ?acc, fun pa => ?memory, ?system⟩
  case memory => simp only [State.memByte, State.traceInstr_mem, State.setPc_mem, State.setBankedReg_mem]; rfl
  case system => rw [SystemIs, State.traceInstr_core, State.traceInstr_freeCtr]; rfl
  all_goals rw [State.traceInstr_core]; rfl

/-! PMNC (60_exceptions.md R732). -/

theorem bitAt_pmncValue (old v : Word) (i : Nat) : bitAt (pmncValue old v) i =
    ((bitAt v i && bitAt (0x0FFFF079 : Word) i) || (bitAt old i && bitAt (0x700 : Word) i && !bitAt v i)) := by
  by_cases hi : i < 32
  · simp only [bitAt, pmncValue, BitVec.getLsbD_or, BitVec.getLsbD_and, BitVec.getLsbD_not, hi, decide_true, Bool.true_and]
  · have hx (x : Word) : x.getLsbD i = false := BitVec.getLsbD_of_ge x i (by omega)
    simp only [bitAt, hx, Bool.false_and, Bool.or_self]

/-- The bits of PMNC that a write sets. -/
theorem bitAt_pmncValue_written {old v : Word} {i : Nat} (h : bitAt (0x0FFFF079 : Word) i = true)
    (h' : bitAt (0x700 : Word) i = false) : bitAt (pmncValue old v) i = bitAt v i := by
  rw [bitAt_pmncValue, h, h', Bool.and_true, Bool.and_false, Bool.false_and, Bool.or_false]

/-- The flags of PMNC, which a one clears. -/
theorem bitAt_pmncValue_flag {old v : Word} {i : Nat} (h : bitAt (0x0FFFF079 : Word) i = false)
    (h' : bitAt (0x700 : Word) i = true) : bitAt (pmncValue old v) i = (bitAt old i && !bitAt v i) := by
  rw [bitAt_pmncValue, h, h', Bool.and_false, Bool.and_true, Bool.false_or]

theorem field_pmncValue_high (old v : Word) : field (pmncValue old v) 12 16 = field v 12 16 := by
  have hm : ∀ i < 16, bitAt (0x0FFFF079 : Word) (12 + i) = true ∧ bitAt (0x700 : Word) (12 + i) = false := by decide
  exact field_congr fun i hi => bitAt_pmncValue_written (hm i hi).1 (hm i hi).2

theorem field_pmncValue_low (old v : Word) : field (pmncValue old v) 3 4 = field (v &&& 0x78) 3 4 := by
  have hm : ∀ i < 4, bitAt (0x0FFFF079 : Word) (3 + i) = true ∧ bitAt (0x700 : Word) (3 + i) = false ∧
      bitAt (0x78 : Word) (3 + i) = true := by decide
  refine field_congr fun i hi => (bitAt_pmncValue_written (hm i hi).1 (hm i hi).2.1).trans ?_
  exact (Bool.and_true _).symm.trans ((congrArg _ (hm i hi).2.2.symm).trans (BitVec.getLsbD_and ..).symm)

/-! MRC with Rd = 15 (41_coprocessor_access.md R366). -/

/-- The flags come from the upper four bits of the value. -/
theorem Completes.mrcFlags {s : State} (hn : s.hasNext) (v : Word) :
    Completes (Machine.finishMrc 15 (.ok (v, s))) s []
      { n := bitAt v 31, z := bitAt v 30, c := bitAt v 29, v := bitAt v 28 } s.flagQ s.core.acc0 := by
  have hlow : ∀ i < 28, bitAt (0xF0000000 : Word) i = false := by decide
  have kept {i : Nat} (hi : i < 28) : bitAt (merge 0xF0000000 s.core.cpsr v) i = bitAt s.core.cpsr i := by
    rw [bitAt_merge, hlow i hi]; rfl
  have taken {i : Nat} (hi : bitAt (0xF0000000 : Word) i = true) : bitAt (merge 0xF0000000 s.core.cpsr v) i = bitAt v i := by
    rw [bitAt_merge, if_pos hi]
  refine .ofCore (c := { s.core with cpsr := merge 0xF0000000 s.core.cpsr v }) rfl hn rfl ?status rfl (.nil rfl) ?flags
    (kept (by decide)) rfl
  case status => exact field_congr fun i hi => kept (by omega)
  case flags =>
    simp only [State.nzcv, State.flagN, State.flagZ, State.flagC, State.flagV]
    rw [taken (by decide), taken (by decide), taken (by decide), taken (by decide)]

/-- Settles O47, register by register. -/
theorem cp14Registers : Obligations.Cp14Registers := by
  intro s c rd hc hp hn ht
  refine ⟨fun hrd => ⟨fun r hr => ?writes, fun r hr => ?reads, ?pmnc, ?rx⟩, ?flags⟩
  case writes =>
    rw [exec_mcr_cp14 hc hp hrd, State.writeCp14_rows ht _ r hr]
    exact .advance hn rfl rfl
  case reads =>
    obtain ⟨x, n, hread, hx⟩ := State.readCp14_rows ht r hr
    rw [exec_mrc_cp14 hc hp, hread]
    exact .finishMrc hn hrd hx
  case pmnc =>
    rw [exec_mcr_cp14 hc hp hrd]
    have e : finishMcr (s.writeCp14 0 (s.reg rd)) = .next ((s.setCp14 (writePmnc (s.reg rd) s.cp14)).setPc s.nextPc) :=
      State.advance_silent hn ht rfl rfl rfl
    refine ⟨_, e, rfl, field_pmncValue_high .., field_pmncValue_low .., ?enable, ?clears, rfl, rfl, rfl, rfl⟩
    case enable => exact bitAt_pmncValue_written (by decide) (by decide)
    case clears => rintro k (rfl | rfl | rfl) <;> exact bitAt_pmncValue_flag (by decide) (by decide)
  case rx =>
    have hw : s.readRx.2.writeMrc rd s.readRx.1 = s.readRx.2.setBankedReg s.mode rd s.cp14.rx := by
      rw [State.writeMrc, if_neg hrd, State.setReg_of_ne _ hrd]; rfl
    have e : Machine.finishMrc rd (s.readCp14 9) = .next ((s.readRx.2.setBankedReg s.mode rd s.cp14.rx).setPc s.nextPc) :=
      (congrArg State.advance hw).trans (State.advance_silent hn ht rfl rfl rfl)
    rw [exec_mrc_cp14 hc hp]
    refine ⟨_, e, .one rfl, rfl, ?_⟩
    rw [← setBit_thirtyOne_false]
    rfl
  case flags =>
    rw [exec_mrc_cp14 hc hp]
    exact .mrcFlags hn _

end Sys2Proof.Machine
end

section
/-! PROOF. What the bus operations change, and what the stores of the data side keep: the canonical form of memory and the
size of the write buffer (20_memory.md R152, R230). -/

namespace Sys2Proof.Machine

/-! The bus. -/

/-- Only memory, the record of what it held before, the calls into devices, the pending events and the count of free values
may differ. -/
def BusFrame (s t : State) : Prop :=
  t = { s with mem := t.mem, deviceOps := t.deviceOps, pending := t.pending, freeCtr := t.freeCtr, stale := t.stale }

namespace BusFrame

theorem refl (s : State) : BusFrame s s := rfl

theorem trans {s t u : State} (h : BusFrame s t) (k : BusFrame t u) : BusFrame s u := by
  unfold BusFrame at h k ⊢
  rw [h] at k
  exact k

theorem ite {s t : State} {p : Prop} [Decidable p] (h : BusFrame s t) : BusFrame s (if p then t else s) := by
  split
  · exact h
  · exact .refl s

theorem writeBuf {s t : State} (h : BusFrame s t) : t.writeBuf = s.writeBuf := by rw [h]
theorem fillBuf {s t : State} (h : BusFrame s t) : t.fillBuf = s.fillBuf := by rw [h]
theorem pendBuf {s t : State} (h : BusFrame s t) : t.pendBuf = s.pendBuf := by rw [h]
theorem platform {s t : State} (h : BusFrame s t) : t.platform = s.platform := by rw [h]
theorem extAborts {s t : State} (h : BusFrame s t) : t.extAborts = s.extAborts := by rw [h]

theorem putBytes (s : State) (pa v : Word) (n : Nat) : BusFrame s (s.putBytes pa v n) := by
  induction n with
  | zero => exact .refl s
  | succ n ih => exact ih.trans rfl

theorem noteOld (s old : State) (pa : Word) : BusFrame s (s.noteOld old pa) := by
  rw [State.noteOld_eq]
  rfl

theorem storeBytes (s : State) (pa v : Word) (n : Nat) : BusFrame s (s.storeBytes pa v n) :=
  (putBytes s pa v n).trans (.noteOld _ _ _)

theorem foreignWrites (s : State) (l : List (Word × Byte)) : BusFrame s (s.foreignWrites l) := by
  induction l generalizing s with
  | nil => exact .refl s
  | cons x t ih =>
    have first : BusFrame s (s.foreignWrite x.1 x.2) := BusFrame.ite (.storeBytes s x.1 _ 1)
    exact first.trans (ih _)

theorem writeBlock (s : State) (keep : Bool) (e : WriteEntry) (n : Nat) : BusFrame s (s.writeBlock keep e n) := by
  induction n with
  | zero => exact .refl s
  | succ n ih =>
    simp only [State.writeBlock]
    split
    · exact ih.trans rfl
    · exact ih

theorem noteOldBlock (s old : State) (b : BitVec 28) : BusFrame s (s.noteOldBlock old b) :=
  (((BusFrame.noteOld s old _).trans (.noteOld _ old _)).trans (.noteOld _ old _)).trans (.noteOld _ old _)

theorem deliver (s : State) (bound : Option Nat) (e : WriteEntry) : BusFrame s (s.deliver bound e) := by
  have written : BusFrame s ((s.writeBlock (bitAt (s.free 0) 0) e 16).noteOldBlock s e.block) :=
    (BusFrame.writeBlock s _ e 16).trans (.noteOldBlock _ _ _)
  have called (u : State) : BusFrame u (if s.entryCalls e 16 then u.noteDevice (.write e) else u) := .ite rfl
  have pended (u : State) : BusFrame u (if s.entryAborts e 16 then (u.consume 1).pendImprecise false bound else u) := .ite rfl
  exact (written.trans (called _)).trans (pended _)

theorem deliverAll (s : State) (l : List WriteEntry) : BusFrame s (s.deliverAll l) := by
  induction l generalizing s with
  | nil => exact .refl s
  | cons e t ih => exact (deliver s none e).trans (ih _)

theorem busRead (s : State) (k : BusKind) (look : Word → Byte) (pa : Word) (n : Nat) :
    BusFrame s (s.busRead k look pa n).after := by
  rw [State.busRead_after]
  rfl

end BusFrame

/-! Stores. -/

/-- What a store of the data side keeps: it requests no line and pends nothing. -/
structure StoreKept (s t : State) : Prop where
  canonical : s.memCanonical = true → t.memCanonical = true
  writes : s.writeBuf.length ≤ 8 → t.writeBuf.length ≤ 8
  fills : t.fillBuf = s.fillBuf
  pends : t.pendBuf = s.pendBuf

/-- Joining bytes to an entry adds none. -/
theorem joinNewest_length {block : BitVec 28} {lane : BitVec 4} {v : Word} {n : Nat} {l l' : List WriteEntry}
    (h : joinNewest block lane v n l = some l') : l'.length = l.length := by
  induction l generalizing l' with
  | nil => cases h
  | cons e t ih =>
    unfold joinNewest at h
    split at h
    · split at h
      · split at h <;> cases h
        rfl
      · obtain ⟨t', ht, rfl⟩ := Option.map_eq_some_iff.mp h
        rw [List.length_cons, List.length_cons, ih ht]
    · cases h

namespace StoreKept

theorem refl (s : State) : StoreKept s s := ⟨id, id, rfl, rfl⟩

theorem trans {s t u : State} (h : StoreKept s t) (k : StoreKept t u) : StoreKept s u :=
  ⟨k.canonical ∘ h.canonical, k.writes ∘ h.writes, k.fills.trans h.fills, k.pends.trans h.pends⟩

theorem ite {s t : State} {p : Prop} [Decidable p] (h : StoreKept s t) : StoreKept s (if p then t else s) := by
  split
  · exact h
  · exact .refl s

/-- What leaves memory and the write buffer alone. -/
theorem of_same {s t : State} (hm : t.mem = s.mem) (hw : t.writeBuf = s.writeBuf) (hf : t.fillBuf = s.fillBuf)
    (hp : t.pendBuf = s.pendBuf) : StoreKept s t := by
  refine ⟨fun h => ?_, fun h => hw ▸ h, hf, hp⟩
  rwa [State.memCanonical, hm]

/-- A bus operation that keeps the canonical form. -/
theorem bus {s t : State} (h : BusFrame s t) (hm : Memory.wf s.mem = true → Memory.wf t.mem = true) : StoreKept s t :=
  ⟨hm, fun k => h.writeBuf ▸ k, h.fillBuf, h.pendBuf⟩

/-- A write-back buffer that only loses entries. -/
theorem setWriteBuf (s : State) {l : List WriteEntry} (h : l.length ≤ s.writeBuf.length) :
    StoreKept s { s with writeBuf := l } := ⟨id, fun k => h.trans k, rfl, rfl⟩

theorem consume (s : State) (n : Nat) : StoreKept s (s.consume n) := .of_same rfl rfl rfl rfl

theorem count (s : State) (e : Event) : StoreKept s (s.count e) := .of_same rfl rfl rfl rfl

theorem pendImprecise (s : State) (parity : Bool) (bound : Option Nat) : StoreKept s (s.pendImprecise parity bound) :=
  .of_same rfl rfl rfl rfl

theorem busRead (s : State) (k : BusKind) (look : Word → Byte) (pa : Word) (n : Nat) :
    StoreKept s (s.busRead k look pa n).after := .bus (.busRead s k look pa n) fun h => by rwa [State.busRead_mem]

theorem deliver (s : State) (bound : Option Nat) (e : WriteEntry) : StoreKept s (s.deliver bound e) :=
  .bus (.deliver s bound e) (State.deliver_wf bound e)

theorem drainWrites (s : State) : StoreKept s s.drainWrites :=
  (bus (.deliverAll s s.writeBuf) (State.deliverAll_wf s.writeBuf)).trans (.setWriteBuf _ (Nat.zero_le _))

theorem retireWrite (s : State) (i : Nat) : StoreKept s (s.retireWrite i) := by
  unfold State.retireWrite
  split
  · exact .refl s
  · rename_i e _
    refine .ite ((deliver s none e).trans (.setWriteBuf _ ?_))
    rw [(BusFrame.deliver s none e).writeBuf]
    exact List.length_eraseIdx_le ..

theorem writesBeforeRead (s : State) : StoreKept s s.writesBeforeRead := .ite (.drainWrites s)

/-- The oldest entry of a write buffer may always leave (20_memory.md R230). -/
theorem retireWrite_zero_length (s : State) : (s.retireWrite 0).writeBuf.length = s.writeBuf.length - 1 := by
  unfold State.retireWrite
  cases hw : s.writeBuf with
  | nil => simp [hw]
  | cons e t => simp [State.mayRetire]

theorem makeRoom (s : State) : StoreKept s s.makeRoom := .ite (.retireWrite s 0)

theorem makeRoom_length {s : State} (h : s.writeBuf.length ≤ 8) : s.makeRoom.writeBuf.length < 8 := by
  unfold State.makeRoom
  split
  · rw [retireWrite_zero_length]
    omega
  · omega

theorem appendWrite (s : State) (e : WriteEntry) : StoreKept s (s.appendWrite e) where
  canonical := State.appendWrite_wf e
  writes h := by
    have room := makeRoom_length h
    simp only [State.appendWrite, List.length_append, List.length_singleton]
    omega
  fills := (makeRoom s).fills
  pends := (makeRoom s).pends

theorem bufferStore (s : State) (pa v : Word) (n : Nat) (coalesces : Bool) :
    StoreKept s (s.bufferStore pa v n coalesces) := by
  simp only [State.bufferStore]
  split
  · rename_i l hl
    refine .setWriteBuf s ?_
    split at hl
    · rw [List.length_reverse, joinNewest_length hl, List.length_reverse]
    · cases hl
  · exact .appendWrite s _

theorem storeNow (s : State) (pa v : Word) (n : Nat) : StoreKept s (s.storeNow pa v n) := by
  unfold State.storeNow
  split
  · exact .bus (.storeBytes s pa v n) (State.storeBytes_wf pa v n)
  · exact .deliver s _ _

theorem storeMemory (s : State) (t : Target) (big : Bool) (w : Width) (v : Word) : StoreKept s (s.storeMemory t big w v) := by
  unfold State.storeMemory
  split
  · exact .storeNow s _ _ _
  · exact .bufferStore s _ _ _ _

/-! The data caches: their lines are not memory, their write-backs go through the write buffer. -/

theorem setDlines (s : State) (mini : Bool) (l : List (Nat × DLine)) : StoreKept s (s.setDlines mini l) := by
  cases mini <;> exact .of_same rfl rfl rfl rfl

theorem putDline (s : State) (h : Hit) (d : DLine) : StoreKept s (s.putDline h d) := .setDlines s _ _

theorem storeHit (s : State) (h : Hit) (t : Target) (big : Bool) (w : Width) (v : Word) :
    StoreKept s (s.storeHit h t big w v) := by
  simp only [State.storeHit]
  split
  · exact .putDline s _ _
  · exact (putDline s _ _).trans (.storeMemory _ _ _ _ _)

theorem writeBackHalf (s : State) (d : DLine) (high : Bool) : StoreKept s (s.writeBackHalf d high) :=
  (count s _).trans (.appendWrite _ _)

theorem writeBackLine (s : State) (detects : Bool) (d : DLine) : StoreKept s (s.writeBackLine detects d) := by
  have halves (u : State) : StoreKept u (u.writeBackHalves d) :=
    (StoreKept.ite (.writeBackHalf u d false)).trans (StoreKept.ite (.writeBackHalf _ d true))
  exact (StoreKept.ite (.pendImprecise s true none)).trans (halves _)

theorem evict (s : State) (detects mini : Bool) (key : Nat) : StoreKept s (s.evict detects mini key) := by
  unfold State.evict
  split
  · exact .ite (.writeBackLine s detects _)
  · exact .refl s

theorem allocMain (s : State) (detects : Bool) (l pl : BitVec 27) (data : LineData) :
    StoreKept s (s.allocMain detects l pl data) := (evict s detects false _).trans (.of_same rfl rfl rfl rfl)

theorem allocMini (s : State) (l pl : BitVec 27) (data : LineData) : StoreKept s (s.allocMini l pl data) :=
  (evict s true true _).trans (.of_same rfl rfl rfl rfl)

theorem retry (s : State) (p : PendEntry) : StoreKept s (s.retry p) := by
  unfold State.retry
  split
  · exact .refl s
  · split
    · exact .storeHit s _ _ _ _ _
    · exact .storeMemory s _ _ _ _

theorem finishFill (s : State) (f : FillEntry) : StoreKept s (s.finishFill f) := by
  unfold State.finishFill
  split
  · exact .pendImprecise s _ _
  · split
    · unfold State.allocLine
      split
      · exact .allocMini s _ _ _
      · exact .allocMain s _ _ _ _
    · exact .refl s

end StoreKept

end Sys2Proof.Machine
end

section
/-! PROOF. The accesses of the memory system, and the requests and the pended accesses behind them, keep the canonical form
of memory and the sizes of the buffers (20_memory.md R152, R230, R232, R233). -/

namespace Sys2Proof.Machine

/-- What every operation keeps. -/
structure MemoryKept (s t : State) : Prop where
  canonical : s.memCanonical = true → t.memCanonical = true
  bounded : s.buffersBounded = true → t.buffersBounded = true

theorem State.buffersBounded_iff (s : State) :
    s.buffersBounded = true ↔ s.writeBuf.length ≤ 8 ∧ s.fillBuf.length ≤ 4 ∧ s.pendBuf.length ≤ 4 := by
  simp only [State.buffersBounded, Bool.and_eq_true, decide_eq_true_eq, and_assoc]

theorem StoreKept.kept {s t : State} (h : StoreKept s t) : MemoryKept s t where
  canonical := h.canonical
  bounded k := by
    rw [State.buffersBounded_iff] at k ⊢
    exact ⟨h.writes k.1, h.fills ▸ k.2.1, h.pends ▸ k.2.2⟩

namespace MemoryKept

theorem refl (s : State) : MemoryKept s s := ⟨id, id⟩

theorem trans {s t u : State} (h : MemoryKept s t) (k : MemoryKept t u) : MemoryKept s u :=
  ⟨k.canonical ∘ h.canonical, k.bounded ∘ h.bounded⟩

theorem ite {s t u : State} {p : Prop} [Decidable p] (h : MemoryKept s t) (k : MemoryKept s u) :
    MemoryKept s (if p then t else u) := by
  split
  · exact h
  · exact k

end MemoryKept

/-- Memory and its buffers. -/
def State.memorySide (s : State) : List Host.Cell × List WriteEntry × List FillEntry × List PendEntry :=
  (s.mem, s.writeBuf, s.fillBuf, s.pendBuf)

/-- What leaves memory and its buffers alone. -/
theorem MemoryKept.of_same {s t : State} (h : t.memorySide = s.memorySide) : MemoryKept s t := by
  simp only [State.memorySide, Prod.mk.injEq] at h
  obtain ⟨hm, hw, hf, hp⟩ := h
  exact (StoreKept.of_same hm hw hf hp).kept

/-! Outstanding requests. -/

/-- Releasing pended accesses requests no line. -/
theorem State.releasePended_fillBuf (s : State) (l : List PendEntry) : (s.releasePended l).fillBuf = s.fillBuf := by
  induction l generalizing s with
  | nil => rfl
  | cons p t ih =>
    unfold State.releasePended
    split
    · rfl
    · exact (ih _).trans (StoreKept.retry s p).fills

theorem State.releasePended_bounded {s : State} {l : List PendEntry} (hl : l.length ≤ 4) (h : s.buffersBounded = true) :
    (s.releasePended l).buffersBounded = true := by
  induction l generalizing s with
  | nil =>
    rw [State.buffersBounded_iff] at h ⊢
    exact ⟨h.1, h.2.1, Nat.zero_le _⟩
  | cons p t ih =>
    unfold State.releasePended
    split
    · rw [State.buffersBounded_iff] at h ⊢
      exact ⟨h.1, h.2.1, hl⟩
    · exact ih (Nat.le_of_succ_le hl) ((StoreKept.retry s p).kept.bounded h)

theorem State.completeFill_fillBuf (s : State) (f : FillEntry) : (s.completeFill f).fillBuf = s.fillBuf.erase f :=
  (State.releasePended_fillBuf _ _).trans (StoreKept.finishFill { s with fillBuf := s.fillBuf.erase f } f).fills

namespace MemoryKept

theorem completeFill (s : State) (f : FillEntry) : MemoryKept s (s.completeFill f) where
  canonical := State.completeFill_wf f
  bounded h := by
    have erased : ({ s with fillBuf := s.fillBuf.erase f } : State).buffersBounded = true := by
      rw [State.buffersBounded_iff] at h ⊢
      exact ⟨h.1, List.length_erase_le.trans h.2.1, h.2.2⟩
    have finished := (StoreKept.finishFill _ f).kept.bounded erased
    exact State.releasePended_bounded ((State.buffersBounded_iff _).mp finished).2.2 finished

theorem completeFills (s : State) (l : List FillEntry) : MemoryKept s (s.completeFills l) := by
  induction l generalizing s with
  | nil => exact .refl s
  | cons f t ih => exact (completeFill s f).trans (ih _)

theorem settleFills (s : State) : MemoryKept s s.settleFills := .completeFills s _

theorem drainAll (s : State) : MemoryKept s s.drainAll := (settleFills s).trans (StoreKept.drainWrites _).kept

theorem returnFill (s : State) (i : Nat) : MemoryKept s (s.returnFill i) := by
  unfold State.returnFill
  split
  · exact .completeFill s _
  · exact .refl s

theorem beforeRequest (s : State) : MemoryKept s s.beforeRequest :=
  (ite (.completeFills s _) (.refl s)).trans (StoreKept.writesBeforeRead _).kept

/-- Before a request the fill buffer has room for it (20_memory.md R232). -/
theorem beforeRequest_room {s : State} (h : s.fillBuf.length ≤ 4) : s.beforeRequest.fillBuf.length < 4 := by
  unfold State.beforeRequest
  rw [(StoreKept.writesBeforeRead _).fills]
  split
  · cases hf : s.fillBuf with
    | nil => simp [hf] at *
    | cons f t =>
      rw [hf, List.length_cons] at h
      simp only [List.take_succ_cons, List.take_zero, State.completeFills, State.completeFill_fillBuf, hf,
        List.erase_cons_head]
      omega
  · omega

/-- A request is added where nothing but the request changes the buffers. -/
theorem request {s t : State} (h : StoreKept s.beforeRequest t) (f : FillEntry) : MemoryKept s (t.addFill f) where
  canonical k := h.canonical ((beforeRequest s).canonical k)
  bounded k := by
    have room := beforeRequest_room ((State.buffersBounded_iff s).mp k).2.1
    have kept := h.kept.bounded ((beforeRequest s).bounded k)
    rw [State.buffersBounded_iff] at kept ⊢
    refine ⟨kept.1, ?_, kept.2.2⟩
    simp only [State.addFill, List.length_append, List.length_singleton, h.fills]
    omega

theorem requestFill (s : State) (t : Target) : MemoryKept s (s.requestFill t).2 := request (.busRead _ _ _ _ _) _

theorem pend (s : State) (p : PendEntry) : MemoryKept s (s.pend p) := by
  unfold State.pend
  split
  · refine ⟨id, fun k => ?_⟩
    rw [State.buffersBounded_iff] at k ⊢
    refine ⟨k.1, k.2.1, ?_⟩
    simp only [List.length_append, List.length_singleton]
    omega
  · exact (settleFills s).trans (StoreKept.retry _ p).kept

theorem settleLine (s : State) (l : BitVec 27) : MemoryKept s (s.settleLine l) := ite (.settleFills s) (.refl s)

theorem fence (s : State) (t : Target) (write : Bool) : MemoryKept s (s.fence t write) :=
  ite (.drainAll s) (ite (.settleFills s) (.refl s))

theorem consume (s : State) (n : Nat) : MemoryKept s (s.consume n) := .of_same rfl

theorem count (s : State) (e : Event) : MemoryKept s (s.count e) := .of_same rfl

theorem pendImprecise (s : State) (parity : Bool) (bound : Option Nat) : MemoryKept s (s.pendImprecise parity bound) :=
  .of_same rfl

/-! Loads and stores. -/

theorem loadHit (s : State) (h : Hit) (t : Target) (w : Width) : MemoryKept s (s.loadHit h t w).2 := by
  simp only [State.loadHit]
  split
  · exact .refl s
  · exact (pendImprecise s _ _).trans (.consume _ 1)

theorem loadMemory (s : State) (t : Target) (w : Width) : MemoryKept s (s.loadMemory t w).2 := by
  simp only [State.loadMemory]
  split
  · have read : MemoryKept s (s.readNow t w).2.2 := (StoreKept.busRead s _ _ _ _).kept
    exact read.trans (.ite (.pendImprecise _ _ _) (.refl _))
  · exact request (.busRead _ _ _ _ _) _

theorem loadMiss {s t : State} {a : Target} {w : Width} {v : Word} (h : s.loadMiss a w = .ok (v, t)) : MemoryKept s t := by
  unfold State.loadMiss at h
  split at h
  · split at h <;> cases h
    exact .requestFill s a
  · obtain rfl : (s.loadMemory a w).2 = t := congrArg Prod.snd (Except.ok.inj h)
    exact .loadMemory s a w

theorem loadLookup {s t : State} {a : Target} {w : Width} {v : Word} (h : s.loadLookup a w = .ok (v, t)) :
    MemoryKept s t := by
  unfold State.loadLookup at h
  split at h
  · rename_i k _
    split at h
    · cases h
    · obtain rfl : (s.loadHit k a w).2 = t := congrArg Prod.snd (Except.ok.inj h)
      exact .loadHit _ _ _ _
  · exact (count s _).trans (.loadMiss h)

theorem loadAt {s t : State} {a : Target} {w : Width} {v : Word} (h : s.loadAt a w = .ok (v, t)) : MemoryKept s t := by
  have fenced : MemoryKept s ((s.count .dcacheAccess).fence a false) := (count s _).trans (.fence _ a false)
  unfold State.loadAt at h
  split at h
  · cases h
  · dsimp only at h
    split at h
    · cases h
      exact fenced.trans ((count _ _).trans (.pend _ _))
    · exact (fenced.trans (.settleLine _ _)).trans (.loadLookup h)

theorem storeMiss {s t : State} {a : Target} {w : Width} {v : Word} (h : s.storeMiss a w v = .ok t) : MemoryKept s t := by
  unfold State.storeMiss at h
  split at h
  · split at h <;> cases h
    exact (requestFill s a).trans (.pend _ _)
  · cases h
    exact (StoreKept.storeMemory s _ _ _ _).kept

theorem storeLookup {s t : State} {a : Target} {w : Width} {v : Word} (h : s.storeLookup a w v = .ok t) :
    MemoryKept s t := by
  unfold State.storeLookup at h
  split at h
  · cases h
    exact (StoreKept.storeHit _ _ _ _ _ _).kept
  · exact (count s _).trans (.storeMiss h)

theorem storeAt {s t : State} {a : Target} {w : Width} {v : Word} (h : s.storeAt a w v = .ok t) : MemoryKept s t := by
  have noted : MemoryKept s (s.noteStore a w) := .of_same rfl
  have fenced : MemoryKept s (((s.noteStore a w).count .dcacheAccess).fence a true) :=
    (noted.trans (.count _ _)).trans (.fence _ a true)
  unfold State.storeAt at h
  split at h
  · cases h
  · dsimp only at h
    split at h
    · cases h
      exact fenced.trans ((count _ _).trans (.pend _ _))
    · exact (fenced.trans (.settleLine _ _)).trans (.storeLookup h)

/-! Other bus masters. -/

theorem foreignWrites (s : State) (l : List (Word × Byte)) : MemoryKept s (s.foreignWrites l) :=
  (StoreKept.bus (.foreignWrites s l) (State.foreignWrites_wf l)).kept

theorem busGap (s : State) : MemoryKept s s.busGap := by
  unfold State.busGap
  split
  · exact .refl s
  · rename_i later _
    have popped : MemoryKept s { s with midBus := later } := .of_same rfl
    exact popped.trans (.foreignWrites _ _)

theorem busRest (s : State) : MemoryKept s s.busRest := by
  unfold State.busRest
  split
  · exact .refl s
  · have popped : MemoryKept s { s with midBus := [] } := .of_same rfl
    exact popped.trans (.foreignWrites _ _)

end MemoryKept

/-! Translation and fetches read memory only. -/

theorem State.readDescriptor_memorySide (s : State) (pa : Word) : (s.readDescriptor pa).2.memorySide = s.memorySide := by
  have h : (s.readDescriptor pa).2 = (s.busRead .walk s.memByte pa 4).after := rfl
  rw [h, State.busRead_after]
  rfl

theorem State.walkSecond_memorySide {s t : State} {fine : Bool} {mva a : Word} {d : BitVec 4}
    (h : (s.walkSecond fine mva a d).after? = some t) : t.memorySide = s.memorySide := by
  have read := s.readDescriptor_memorySide a
  unfold State.walkSecond at h
  split at h <;> rename_i e <;> rw [e] at read
  · cases h
    exact read
  · unfold State.secondLevel at h
    split at h <;> cases h <;> exact read

theorem State.walk_memorySide {s t : State} {mva : Word} (h : (s.walk mva).after? = some t) :
    t.memorySide = s.memorySide := by
  have read := s.readDescriptor_memorySide (field s.cp15.ttbr 14 18 ++ field mva 20 12 ++ 0#2 : BitVec 32)
  unfold State.walk at h
  split at h <;> rename_i e <;> rw [e] at read
  · cases h
    exact read
  · unfold State.firstLevel at h
    dsimp only at h
    split at h
    case h_1 | h_3 => cases h; exact read
    case h_2 | h_4 => exact (State.walkSecond_memorySide h).trans read

theorem State.countTlbMiss_memorySide (s : State) (side : Side) : (s.countTlbMiss side).memorySide = s.memorySide := by
  cases side <;> rfl

theorem State.setTlb_memorySide (s : State) (side : Side) (t : Tlb) : (s.setTlb side t).memorySide = s.memorySide := by
  cases side <;> rfl

theorem State.translate_memorySide {s t : State} {side : Side} {mva : Word} (h : (s.translate side mva).after? = some t) :
    t.memorySide = s.memorySide := by
  unfold State.translate at h
  split at h
  · cases h
    rfl
  · split at h <;> rename_i e <;> cases h
    · rw [State.setTlb_memorySide, State.walk_memorySide (by rw [e]; rfl), State.countTlbMiss_memorySide]
    · rw [State.walk_memorySide (by rw [e]; rfl), State.countTlbMiss_memorySide]

theorem State.translateChecked_memorySide {s t : State} {side : Side} {mva : Word} {privileged write : Bool}
    (h : (s.translateChecked side mva privileged write).after? = some t) : t.memorySide = s.memorySide := by
  unfold State.translateChecked at h
  split at h <;> rename_i e
  · cases h
  · cases h
    exact State.translate_memorySide (by rw [e]; rfl)
  · have translated := State.translate_memorySide (s := s) (side := side) (mva := mva) (by rw [e]; rfl)
    split at h <;> cases h <;> exact translated

theorem State.fetchMiss_memorySide {s t : State} {mva pa : Word} {cacheable : Bool}
    (h : (s.fetchMiss mva pa cacheable).after? = some t) : t.memorySide = s.memorySide := by
  have read (look : Word → Byte) :
      ((s.count .icacheMiss).busRead .fetch look (lineOf pa ++ 0#5) 32).after.memorySide = s.memorySide := by
    rw [State.busRead_after]
    rfl
  unfold State.fetchMiss at h
  dsimp only at h
  split at h <;> cases h <;> split <;> exact read _

theorem State.fetched_memorySide {s t : State} {w : Word} {l : List Word} (h : (s.fetched w l).after? = some t) :
    t.memorySide = s.memorySide := by
  obtain rfl : (s.chooseWord w l).2 = t := Option.some.inj h
  unfold State.chooseWord
  split <;> rfl

theorem State.fetchAt_memorySide {s t : State} {mva pa : Word} {cacheable : Bool}
    (h : (s.fetchAt mva pa cacheable).after? = some t) : t.memorySide = s.memorySide := by
  unfold State.fetchAt at h
  split at h
  · split at h
    · cases h
      rfl
    · exact State.fetched_memorySide h
  · split at h <;> rename_i e
    · exact (State.fetched_memorySide h).trans (State.fetchMiss_memorySide (by rw [e]; rfl))
    · cases h
      exact State.fetchMiss_memorySide (by rw [e]; rfl)
    · cases h

namespace MemoryKept

/-- The fetch of an instruction, whether it gives a word or aborts. -/
theorem fetchWord {s t : State} (h : s.fetchWord.after? = some t) : MemoryKept s t := by
  unfold State.fetchWord at h
  dsimp only at h
  refine .of_same ?_
  split at h
  · split at h <;> rename_i e
    · cases h
    · cases h
      exact State.translateChecked_memorySide (by rw [e]; rfl)
    · exact (State.fetchAt_memorySide h).trans (State.translateChecked_memorySide (by rw [e]; rfl))
  · exact State.fetchAt_memorySide h

theorem fetchAhead (s : State) (va : Word) : MemoryKept s (s.fetchAhead va) := by
  have brought (u : State) (mva pa : Word) (c : Bool) : (u.bringLine mva pa c).memorySide = u.memorySide := by
    unfold State.bringLine
    split
    · rfl
    · split <;> rename_i e
      · exact State.fetchMiss_memorySide (by rw [e]; rfl)
      · exact State.fetchMiss_memorySide (by rw [e]; rfl)
      · rfl
  unfold State.fetchAhead
  dsimp only
  refine .ite (.refl s) (.ite (.of_same ?_) (.of_same (brought ..)))
  split <;> rename_i e
  · rfl
  · exact State.translateChecked_memorySide (by rw [e]; rfl)
  · exact (brought ..).trans (State.translateChecked_memorySide (by rw [e]; rfl))

theorem translateData {s t : State} {mva : Word} {w : Width} {privileged write : Bool}
    (h : (s.translateData mva w privileged write).after? = some t) : MemoryKept s t := by
  unfold State.translateData at h
  split at h
  · cases h
    exact .refl _
  · split at h
    · split at h <;> rename_i e <;> cases h <;> exact .of_same (State.translateChecked_memorySide (by rw [e]; rfl))
    · cases h
      exact .refl _

theorem noteMatch (s : State) (w : Width) (mva : Word) (f : BitVec 2 → Bool) : MemoryKept s (s.noteMatch w mva f) :=
  ite (.of_same rfl) (.refl s)

/-- Steps 1 to 4 of an access (20_memory.md R150). -/
theorem prepare {s t : State} {va : Word} {w : Width} {privileged write : Bool}
    (h : (s.prepare va w privileged write).after? = some t) : MemoryKept s t :=
  (noteMatch s w (s.mva va) _).trans (.translateData h)

/-- `MemRead`, whether it completes or aborts (20_memory.md R150). -/
theorem memRead {s t : State} {va : Word} {w : Width} {privileged : Bool} (h : (s.memRead va w privileged).after? = some t) :
    MemoryKept s t := by
  unfold State.memRead at h
  split at h <;> rename_i e
  · cases h
  · cases h
    exact .prepare (by rw [e]; rfl)
  · have prepared : MemoryKept s _ := .prepare (by rw [e]; rfl)
    split at h <;> rename_i e' <;> cases h
    exact prepared.trans (.loadAt e')

/-- `MemWrite`, whether it completes or aborts (20_memory.md R150). -/
theorem memWrite {s t : State} {va : Word} {w : Width} {v : Word} {privileged : Bool}
    (h : (s.memWrite va w v privileged).after? = some t) : MemoryKept s t := by
  unfold State.memWrite at h
  split at h <;> rename_i e
  · cases h
  · cases h
    exact .prepare (by rw [e]; rfl)
  · have prepared : MemoryKept s _ := .prepare (by rw [e]; rfl)
    split at h <;> rename_i e' <;> cases h
    exact prepared.trans (.storeAt e')

end MemoryKept

end Sys2Proof.Machine
end

section
/-! PROOF. Every instruction keeps the canonical form of memory and the sizes of the buffers: what works on registers leaves
them alone, the rest goes through the accesses and the functions of the memory system. -/

namespace Sys2Proof.Machine

/-! What leaves memory and its buffers alone. -/

@[simp] theorem State.consume_memorySide (s : State) (n : Nat) : (s.consume n).memorySide = s.memorySide := rfl

@[simp] theorem State.count_memorySide (s : State) (e : Event) : (s.count e).memorySide = s.memorySide := rfl

@[simp] theorem State.setPc_memorySide (s : State) (v : Word) : (s.setPc v).memorySide = s.memorySide := rfl

@[simp] theorem State.setCpsr_memorySide (s : State) (v : Word) : (s.setCpsr v).memorySide = s.memorySide := rfl

@[simp] theorem State.setAcc_memorySide (s : State) (v : Acc) : (s.setAcc v).memorySide = s.memorySide := rfl

@[simp] theorem State.setBankedReg_memorySide (s : State) (m : Mode) (n : Reg) (v : Word) :
    (s.setBankedReg m n v).memorySide = s.memorySide := rfl

@[simp] theorem State.setFault_memorySide (s : State) (a b : Word) : (s.setFault a b).memorySide = s.memorySide := rfl

@[simp] theorem State.setStickyAbort_memorySide (s : State) : s.setStickyAbort.memorySide = s.memorySide := rfl

@[simp] theorem State.setAluFlags_memorySide (s : State) (o : AluOut) : (s.setAluFlags o).memorySide = s.memorySide := rfl

@[simp] theorem State.setNz_memorySide (s : State) (n z : Bool) : (s.setNz n z).memorySide = s.memorySide := rfl

@[simp] theorem State.recordDataAbort_memorySide (s : State) (a : AbortInfo) :
    (s.recordDataAbort a).memorySide = s.memorySide := rfl

/-- A choice between states that agree. -/
@[simp] theorem State.ite_memorySide {s t : State} {p : Prop} [Decidable p] :
    (if p then s else t).memorySide = if p then s.memorySide else t.memorySide := apply_ite ..

@[simp] theorem State.raiseQ_memorySide (s : State) (b : Bool) : (s.raiseQ b).memorySide = s.memorySide := by
  unfold State.raiseQ; split <;> rfl

@[simp] theorem State.setReg_memorySide (s : State) (n : Reg) (v : Word) : (s.setReg n v).memorySide = s.memorySide := by
  unfold State.setReg; split <;> rfl

@[simp] theorem State.writeBase_memorySide (s : State) (rn : Reg) (b : Option Word) :
    (s.writeBase rn b).memorySide = s.memorySide := by
  cases b
  · rfl
  · exact s.setReg_memorySide ..

@[simp] theorem State.writeMrc_memorySide (s : State) (rd : Reg) (v : Word) : (s.writeMrc rd v).memorySide = s.memorySide := by
  unfold State.writeMrc
  split
  · rfl
  · exact s.setReg_memorySide ..

@[simp] theorem State.setSpsrOf_memorySide (s : State) (m : Mode) (v : Word) : (s.setSpsrOf m v).memorySide = s.memorySide := by
  unfold State.setSpsrOf; split <;> rfl

@[simp] theorem State.enterMode_memorySide (s : State) (m : Mode) (setF : Bool) (link : Word) :
    (s.enterMode m setF link).memorySide = s.memorySide := by rw [State.enterMode_eq]; rfl

@[simp] theorem State.traceInstr_memorySide (s : State) : s.traceInstr.memorySide = s.memorySide := by
  simp only [State.memorySide, State.traceInstr_mem, State.traceInstr_writeBuf, State.traceInstr_fillBuf,
    State.traceInstr_pendBuf]

@[simp] theorem State.traceDirect_memorySide (s : State) (v : Word) : (s.traceDirect v).memorySide = s.memorySide := by
  simp only [State.memorySide, State.traceDirect_mem, State.traceDirect_writeBuf, State.traceDirect_fillBuf,
    State.traceDirect_pendBuf]

@[simp] theorem State.traceIndirect_memorySide (s : State) (i : Bool) (v : Word) :
    (s.traceIndirect i v).memorySide = s.memorySide := by
  simp only [State.memorySide, State.traceIndirect_mem, State.traceIndirect_writeBuf, State.traceIndirect_fillBuf,
    State.traceIndirect_pendBuf]

@[simp] theorem State.traceException_memorySide (s : State) (o : Word) : (s.traceException o).memorySide = s.memorySide := by
  simp only [State.memorySide, State.traceException_mem, State.traceException_writeBuf, State.traceException_fillBuf,
    State.traceException_pendBuf]

@[simp] theorem State.btbUpdate_memorySide (s : State) (v : Word) (b : Bool) : (s.btbUpdate v b).memorySide = s.memorySide := by
  unfold State.btbUpdate
  split
  · split
    · rfl
    · split <;> rfl
  · rfl

@[simp] theorem State.resolveBranch_memorySide (s : State) (v : Word) (b : Bool) :
    (s.resolveBranch v b).memorySide = s.memorySide := by
  simp [State.resolveBranch]

@[simp] theorem State.freeRegs_memorySide (s : State) (m : Mode) (l : List Reg) : (s.freeRegs m l).memorySide = s.memorySide := by
  induction l generalizing s with
  | nil => rfl
  | cons r t ih => exact ih _

@[simp] theorem State.setBlockRegs_memorySide (s : State) (m : Mode) (l : List (Reg × Word)) :
    (s.setBlockRegs m l).memorySide = s.memorySide := by
  induction l generalizing s with
  | nil => rfl
  | cons x t ih =>
    refine (ih _).trans ?_
    split <;> rfl

@[simp] theorem State.setSomeRegs_memorySide (s : State) (m : Mode) (rn : Reg) (pick : Word) (l : List (Reg × Word)) :
    (s.setSomeRegs m rn pick l).memorySide = s.memorySide := by
  induction l generalizing s with
  | nil => rfl
  | cons x t ih =>
    refine (ih _).trans ?_
    split <;> rfl

/-! Branches, exceptions and returns. -/

@[simp] theorem State.branchTo_memorySide (s : State) (v : Word) : (s.branchTo v).memorySide = s.memorySide := by
  simp [State.branchTo]

@[simp] theorem State.branchStateTo_memorySide (s : State) (b : Bool) (v : Word) :
    (s.branchStateTo b v).memorySide = s.memorySide := by
  simp [State.branchStateTo]

@[simp] theorem State.jumpTo_memorySide (s : State) (i : Bool) (v : Word) : (s.jumpTo i v).memorySide = s.memorySide := by
  simp [State.jumpTo]

@[simp] theorem State.takeException_memorySide (s : State) (m : Mode) (setF : Bool) (offset link : Word) :
    (s.takeException m setF offset link).memorySide = s.memorySide := by
  simp [State.takeException]

@[simp] theorem State.takeByInstruction_memorySide (s : State) (m : Mode) (offset : Word) :
    (s.takeByInstruction m offset).memorySide = s.memorySide := by
  simp [State.takeByInstruction]

@[simp] theorem State.takeDataAbort_memorySide (s : State) (a : AbortInfo) (counted : Bool) :
    (s.takeDataAbort a counted).memorySide = s.memorySide := by
  simp only [State.takeDataAbort, State.takeException_memorySide, State.ite_memorySide, State.traceInstr_memorySide, ite_self]
  rfl

@[simp] theorem State.takeDebug_memorySide (s : State) (c : DebugCause) : (s.takeDebug c).memorySide = s.memorySide := by
  have noted : (s.noteDebugEntry c).memorySide = s.memorySide := rfl
  unfold State.takeDebug
  split
  · exact (State.enterMode_memorySide (s.noteDebugEntry c) .dbg true (s.core.pc + 4)).trans noted
  · exact (State.enterMode_memorySide _ .abt false (s.core.pc + 4)).trans noted

/-! Outcomes. -/

/-- What is claimed of the outcome of an instruction. -/
structure Result.KeepsMemory (s : State) (r : Result) : Prop where
  onNext : ∀ t, r = .next t → MemoryKept s t

namespace Result.KeepsMemory

variable {s : State}

theorem refused (r : Refusal) : Result.KeepsMemory s (.refused r) := ⟨fun _ h => nomatch h⟩

/-- A next state with the memory and the buffers of `s`. -/
theorem same {t : State} (h : t.memorySide = s.memorySide) : Result.KeepsMemory s (.next t) := by
  refine ⟨?_⟩
  rintro _ ⟨⟩
  exact .of_same h

/-- The work before the end. -/
theorem after {t : State} {r : Result} (h : MemoryKept s t) (k : Result.KeepsMemory t r) : Result.KeepsMemory s r :=
  ⟨fun u hu => h.trans (k.onNext u hu)⟩

/-- Work on registers before the end. -/
theorem beside {t : State} {r : Result} (h : t.memorySide = s.memorySide) (k : Result.KeepsMemory t r) :
    Result.KeepsMemory s r := .after (.of_same h) k

theorem ite {p : Prop} [Decidable p] {r q : Result} (h : Result.KeepsMemory s r) (k : Result.KeepsMemory s q) :
    Result.KeepsMemory s (if p then r else q) := by
  split
  · exact h
  · exact k

theorem guarded {p : Prop} [Decidable p] {e : Refusal} {r : Result} (h : Result.KeepsMemory s r) :
    Result.KeepsMemory s (if p then .refused e else r) := .ite (.refused e) h

/-! The ends of an instruction. -/

theorem advance (s : State) : Result.KeepsMemory s s.advance := by
  refine ⟨fun t h => ?_⟩
  obtain ⟨-, rfl⟩ := State.advance_next h
  exact .of_same (by simp)

/-- An instruction that works on registers only. -/
theorem advance_beside {t : State} (h : t.memorySide = s.memorySide) : Result.KeepsMemory s t.advance := .beside h (.advance t)

theorem conditional {c : Cond} {r : Result} (h : Result.KeepsMemory s r) :
    Result.KeepsMemory s (if s.passed c then r else s.advance) := .ite h (.advance s)

theorem setReg_advance (n : Reg) (v : Word) : Result.KeepsMemory s (s.setReg n v).advance := .advance_beside (by simp)

theorem branchNotTaken (v : Word) : Result.KeepsMemory s (s.branchNotTaken v) := .advance_beside (by simp)

theorem jumpExchange (s : State) (v : Word) : Result.KeepsMemory s (s.jumpExchange v) :=
  .ite (.same (by simp)) (.guarded (.same (by simp)))

theorem jumpResult (v : Word) : Result.KeepsMemory s (s.jumpResult v) :=
  .ite (.same (by simp)) (.ite (.same (by simp)) (.refused _))

theorem undefined : Result.KeepsMemory s s.undefined := .guarded (.same (by simp))

theorem softwareInterrupt : Result.KeepsMemory s s.softwareInterrupt := .guarded (.same (by simp))

theorem returnTo (s : State) (v : Word) : Result.KeepsMemory s (s.returnTo v) := by
  simp only [State.returnTo]
  split
  · exact .refused _
  · rename_i h
    obtain ⟨w, m, -, -, -, rfl⟩ := State.restoreCpsr_ok h
    refine .same ?_
    simp only [State.setPc_memorySide, State.traceIndirect_memorySide, State.ite_memorySide, State.count_memorySide, ite_self]
    rfl

theorem abortSingle (s : State) (a : AbortInfo) (counted : Bool) (rn : Reg) (b : Option Word) (regs : BitVec 16) :
    Result.KeepsMemory s (s.abortSingle a counted rn b regs) := by
  refine .ite (.advance_beside ?_) (.same (by simp))
  have written : ((s.recordDataAbort a).setStickyAbort.writeBase rn b).memorySide = s.memorySide := by simp
  exact written

theorem abortMultiple (s : State) (a : AbortInfo) (m : Mode) (regs : BitVec 16) :
    Result.KeepsMemory s (s.abortMultiple a m regs) := .ite (.advance_beside (by simp)) (.same (by simp))

/-! Loads and stores. -/

theorem loadSingle (a : Address) (rn rd : Reg) (w : Width) (privileged : Bool) (conv : Word → Word) :
    Result.KeepsMemory s (s.loadSingle a rn rd w privileged conv) := by
  unfold State.loadSingle
  split
  case h_1 => exact .refused _
  case h_2 h => exact .after (.memRead (by rw [h]; rfl)) (.abortSingle ..)
  case h_3 h => exact .after (.memRead (by rw [h]; rfl)) (.beside (by simp) (.ite (.jumpExchange ..) (setReg_advance ..)))

theorem storeSingle (a : Address) (rn : Reg) (w : Width) (privileged : Bool) (v : Word) :
    Result.KeepsMemory s (s.storeSingle a rn w privileged v) := by
  unfold State.storeSingle
  split
  case h_1 => exact .refused _
  case h_2 h => exact .after (.memWrite (by rw [h]; rfl)) (.abortSingle ..)
  case h_3 h => exact .after (.memWrite (by rw [h]; rfl)) (.advance_beside (by simp))

theorem load2 (c : Cond) (ix : Indexing) (u : Bool) (rn rd : Reg) (off : Offset2) (w : Width) (privileged pcAllowed : Bool)
    (conv : Word → Word → Word) : Result.KeepsMemory s (s.load2 c ix u rn rd off w privileged pcAllowed conv) :=
  .conditional (.guarded (.guarded (.loadSingle ..)))

theorem store2 (c : Cond) (ix : Indexing) (u : Bool) (rn rd : Reg) (off : Offset2) (w : Width)
    (privileged pcAllowed : Bool) : Result.KeepsMemory s (s.store2 c ix u rn rd off w privileged pcAllowed) :=
  .conditional (.guarded (.storeSingle ..))

theorem load3 (c : Cond) (ix : Indexing) (u : Bool) (rn rd : Reg) (off : Offset3) (w : Width) (conv : Word → Word) :
    Result.KeepsMemory s (s.load3 c ix u rn rd off w conv) := .conditional (.guarded (.guarded (.loadSingle ..)))

theorem ldrd (c : Cond) (ix : Indexing) (u : Bool) (rn rd : Reg) (off : Offset3) :
    Result.KeepsMemory s (execLdrd c ix u rn rd off s) := by
  refine .conditional (.ite .undefined (.guarded (.ite (.abortSingle ..) ?_)))
  split
  case h_1 => exact .refused _
  case h_2 h => exact .after (.memRead (by rw [h]; rfl)) (.abortSingle ..)
  case h_3 s1 h =>
    have first : MemoryKept s s1.busGap := (MemoryKept.memRead (by rw [h]; rfl)).trans (.busGap _)
    refine .after first ?_
    split
    case h_1 => exact .refused _
    case h_2 h2 => exact .after (.memRead (by rw [h2]; rfl)) (.abortSingle ..)
    case h_3 h2 => exact .after (.memRead (by rw [h2]; rfl)) (.advance_beside (by simp))

theorem strd (c : Cond) (ix : Indexing) (u : Bool) (rn rd : Reg) (off : Offset3) :
    Result.KeepsMemory s (execStrd c ix u rn rd off s) := by
  refine .conditional (.ite .undefined (.guarded (.ite (.abortMultiple ..) ?_)))
  split
  case h_1 => exact .refused _
  case h_2 h => exact .after (.memWrite (by rw [h]; rfl)) (.abortMultiple ..)
  case h_3 s1 h =>
    have first : MemoryKept s s1.busGap := (MemoryKept.memWrite (by rw [h]; rfl)).trans (.busGap _)
    refine .after first ?_
    split
    case h_1 => exact .refused _
    case h_2 h2 => exact .after (.memWrite (by rw [h2]; rfl)) (.abortMultiple ..)
    case h_3 h2 => exact .after (.memWrite (by rw [h2]; rfl)) (.advance_beside (by simp))

theorem pld (u : Bool) (rn : Reg) (off : Offset2) (b : Bool) : Result.KeepsMemory s (execPld u rn off b s) := by
  refine .guarded ?_
  split
  · exact .advance _
  · exact .after ((MemoryKept.fence s _ false).trans (.requestFill _ _)) (.advance _)

/-- A swap, whatever ends it where the access aborts. -/
theorem swap (w : Width) (rn rd rm : Reg) (conv : Word → Word → Word) (abort : State → AbortInfo → Result)
    (k : ∀ t i, Result.KeepsMemory t (abort t i)) : Result.KeepsMemory s (s.swap w rn rd rm conv abort) := by
  have prepared {a : Access Target} {t : State} (e : s.prepareSwap (s.reg rn) w s.privileged = a) (h : a.after? = some t) :
      MemoryKept s t := by
    subst e
    exact (MemoryKept.noteMatch s w _ _).trans (.translateData h)
  unfold State.swap
  simp only
  split
  case h_1 => exact .refused _
  case h_2 h => exact .after (prepared h rfl) (k _ _)
  case h_3 h =>
    refine .after (prepared h rfl) ?_
    split
    · exact .refused _
    · rename_i h1
      split
      · exact .refused _
      · rename_i h2
        refine .after ((MemoryKept.loadAt h1).trans (.storeAt h2)) ?_
        exact .after (.ite (StoreKept.drainWrites _).kept (.refl _)) (setReg_advance ..)

end Result.KeepsMemory

/-! Multiple transfers. -/

namespace MemoryKept

/-- Between two words other bus masters may write. -/
theorem gap (s : State) (b : Bool) : MemoryKept s (if b then s else s.busGap) := .ite (.refl s) (.busGap s)

theorem readBlock {s t : State} {va : Word} {privileged : Bool} {l : List Reg}
    (h : (s.readBlock va privileged l).after? = some t) : MemoryKept s t := by
  induction l generalizing s va with
  | nil => cases h; exact .refl _
  | cons r l ih =>
    unfold State.readBlock at h
    split at h
    case h_1 => cases h
    case h_2 e => cases h; exact .memRead (by rw [e]; rfl)
    case h_3 e =>
      rw [BlockRead.after?_cons] at h
      exact ((MemoryKept.memRead (by rw [e]; rfl)).trans (.gap _ _)).trans (ih h)

theorem writeWord {s t : State} {keep : Bool} {va v : Word} {privileged : Bool}
    (h : (s.writeWord keep va v privileged).after? = some t) : MemoryKept s t := by
  unfold State.writeWord at h
  split at h
  · exact .memWrite h
  · split at h <;> rename_i e <;> cases h <;> exact .prepare (by rw [e]; rfl)

theorem writeBlockRegs {s t : State} {keep : BitVec 16} {va : Word} {privileged : Bool} {l : List (Reg × Word)}
    (h : (s.writeBlockRegs keep va privileged l).after? = some t) : MemoryKept s t := by
  induction l generalizing s va with
  | nil => cases h; exact .refl _
  | cons x l ih =>
    unfold State.writeBlockRegs at h
    split at h
    case h_1 => cases h
    case h_2 e => cases h; exact .writeWord (by rw [e]; rfl)
    case h_3 e =>
      rw [BlockWrite.after?_succ] at h
      exact ((MemoryKept.writeWord (by rw [e]; rfl)).trans (.gap _ _)).trans (ih h)

theorem tried (s : State) (va : Word) (privileged : Bool) : MemoryKept s (s.tried va privileged) := by
  unfold State.tried
  split
  case h_1 => exact .refl s
  case h_2 e => exact .prepare (by rw [e]; rfl)
  case h_3 e => exact .prepare (by rw [e]; rfl)

end MemoryKept

namespace Result.KeepsMemory

variable {s : State}

theorem abortLdm (a : AbortInfo) (m : Mode) (rn : Reg) (list : BitVec 16) (w : Bool) (values : List (Reg × Word)) :
    Result.KeepsMemory s (s.abortLdm a m rn list w values) :=
  .ite (.abortMultiple ..) (.beside (by simp) (.abortMultiple ..))

theorem loadMultiple (b : BlockMode) (w : Bool) (rn : Reg) (list : BitVec 16) (m : Mode) {finish : State → Option Word → Result}
    (k : ∀ t pc, Result.KeepsMemory t (finish t pc)) : Result.KeepsMemory s (s.loadMultiple b w rn list m finish) := by
  unfold State.loadMultiple
  simp only
  split
  case h_1 => exact .refused _
  case h_2 h => exact .after (.readBlock (by rw [h]; rfl)) (.abortLdm ..)
  case h_3 h => exact .after (.readBlock (by rw [h]; rfl)) (.beside (by simp) (k _ _))

theorem abortStm (n : Nat) (a : AbortInfo) (va : Word) (rn : Reg) (w : Bool) (values : List (Reg × Word)) :
    Result.KeepsMemory s (s.abortStm n a va rn w values) := by
  refine .after (.consume s 1) ?_
  unfold State.abortStm
  simp only
  split
  case h_1 => exact .refused _
  case h_2 h => exact .after (.writeBlockRegs (by rw [h]; rfl)) (.abortMultiple ..)
  case h_3 h => exact .after ((MemoryKept.writeBlockRegs (by rw [h]; rfl)).trans (.tried ..)) (.abortMultiple ..)

theorem storeMultiple (b : BlockMode) (w : Bool) (rn : Reg) (list : BitVec 16) (m : Mode) :
    Result.KeepsMemory s (s.storeMultiple b w rn list m) := by
  refine .after (.consume s 1) ?_
  unfold State.storeMultiple
  simp only
  split
  case h_1 => exact .refused _
  case h_2 => exact .abortStm ..
  case h_3 h => exact .after (.writeBlockRegs (by rw [h]; rfl)) (.advance_beside (by simp))

theorem finishLdm (s : State) (pc : Option Word) : Result.KeepsMemory s (Machine.finishLdm s pc) := by
  cases pc
  · exact .advance _
  · exact .jumpExchange ..

theorem finishLdmRet (s : State) (pc : Option Word) : Result.KeepsMemory s (Machine.finishLdmRet s pc) := by
  cases pc
  · exact .advance _
  · exact .returnTo ..

theorem thumbLdm (w : Bool) (rn : Reg) (list : BitVec 16) : Result.KeepsMemory s (s.thumbLdm w rn list) :=
  .guarded (.guarded (.loadMultiple _ _ _ _ _ .finishLdm))

/-! Computing instructions, branches, status. -/

theorem dataProc (c : Cond) (sf : Bool) (rn rd : Reg) (op2 : ShifterOp) (alu : Word → Word → Bool → AluOut) :
    Result.KeepsMemory s (s.dataProc c sf rn rd op2 alu) :=
  .conditional (.guarded (.ite (.ite (.returnTo ..) (.jumpResult _)) (.advance_beside (by simp))))

theorem dataTest (c : Cond) (rn rd : Reg) (op2 : ShifterOp) (alu : Word → Word → Bool → AluOut) :
    Result.KeepsMemory s (s.dataTest c rn rd op2 alu) := .conditional (.guarded (.advance_beside (by simp)))

theorem mulResult (sf : Bool) (rd : Reg) (v : Word) : Result.KeepsMemory s (s.mulResult sf rd v) :=
  .advance_beside (by simp)

theorem longResult (sf : Bool) (rdHi rdLo : Reg) (p : BitVec 64) : Result.KeepsMemory s (s.longResult sf rdHi rdLo p) :=
  .advance_beside (by simp)

theorem longMultiply (c : Cond) (sf signed acc : Bool) (rdHi rdLo rs rm : Reg) :
    Result.KeepsMemory s (s.longMultiply c sf signed acc rdHi rdLo rs rm) := .conditional (.guarded (.longResult ..))

theorem raiseQ_setReg (b : Bool) (n : Reg) (v : Word) : Result.KeepsMemory s (((s.raiseQ b).setReg n v).advance) :=
  .advance_beside (by simp)

/-- An instruction of coprocessor 0, where it is allowed (10_state.md R46). -/
theorem coprocessor0 {c : Cond} {r : Result} (h : Result.KeepsMemory s r) :
    Result.KeepsMemory s (if s.passed c then if s.cp0Allowed then r else s.undefined else s.advance) :=
  .conditional (.ite h .undefined)

theorem accumulate (c : Cond) (rs rm : Reg) (p : Word → Word → Int) : Result.KeepsMemory s (s.accumulate c rs rm p) :=
  .coprocessor0 (.guarded (.advance_beside (by simp)))

theorem mrs (c : Cond) (r : Bool) (rd : Reg) : Result.KeepsMemory s (execMrs c r rd s) := by
  refine .conditional (.guarded (.ite ?_ (.setReg_advance ..)))
  split
  · exact .refused _
  · exact .setReg_advance ..

theorem msr (r : Bool) (mask : BitVec 4) (v : Word) : Result.KeepsMemory s (s.msr r mask v) := by
  refine .ite ?saved ?current
  case saved =>
    unfold State.msrSpsr
    split
    · exact .refused _
    · exact .advance_beside (by simp)
  case current =>
    unfold State.msrCpsr
    simp only
    split
    · split
      · exact .refused _
      · exact .advance_beside (by simp)
    · exact .advance_beside (by simp)

theorem thumbArith (rd : LowReg) (o : AluOut) : Result.KeepsMemory s (s.thumbArith rd o) := .advance_beside (by simp)

theorem thumbLogic (rd : LowReg) (v : Word) : Result.KeepsMemory s (s.thumbLogic rd v) := .advance_beside (by simp)

/-- A Thumb operation on registers with a PC destination (46_thumb.md R600, R614). -/
theorem highResult (d : Reg) (v : Word) :
    Result.KeepsMemory s (if d = 15 then s.jumpResult v else (s.setReg d v).advance) := .ite (.jumpResult _) (.setReg_advance ..)

theorem breakpoint : Result.KeepsMemory s s.breakpoint := .ite (.same (by simp)) (.advance _)

end Result.KeepsMemory

end Sys2Proof.Machine
end

section
/-! PROOF. The instructions of coprocessors 14 and 15 keep the canonical form of memory and the sizes of the buffers, and so
does every instruction (41_coprocessor_access.md). -/

namespace Sys2Proof.Machine

/-! The registers of coprocessors 14 and 15 are beside memory. -/

theorem State.writeBkptReg_memorySide (s : State) (f : Cp15 → Cp15) : (s.writeBkptReg f).memorySide = s.memorySide := by
  unfold State.writeBkptReg
  split <;> rfl

theorem State.writeCp15_memorySide {s t : State} {op1 : BitVec 3} {crn crm : BitVec 4} {op2 : BitVec 3} {v : Word}
    (h : s.writeCp15 op1 crn crm op2 v = .ok t) : t.memorySide = s.memorySide := by
  unfold State.writeCp15 at h
  split at h
  · cases h
  split at h
  · cases h
  rename_i r _
  cases r <;> simp only [State.writeCp15Reg] at h
  case control => split at h <;> cases h; rfl
  case ibcr0 | ibcr1 => split at h <;> cases h; exact s.writeBkptReg_memorySide _
  case dbr0 | dbr1 | dbcon => cases h; exact s.writeBkptReg_memorySide _
  all_goals cases h; rfl

theorem State.readCp15_memorySide {s t : State} {op1 : BitVec 3} {crn crm : BitVec 4} {op2 : BitVec 3} {w : Word}
    (h : s.readCp15 op1 crn crm op2 = .ok (w, t)) : t.memorySide = s.memorySide := by
  unfold State.readCp15 at h
  split at h
  · cases h
  split at h
  · cases h
  split at h
  · cases h
  rename_i r _
  cases r <;> cases h <;> rfl

theorem State.writeDcsr_memorySide (s : State) (v : Word) : (s.writeDcsr v).memorySide = s.memorySide := by
  simp only [State.writeDcsr]
  split
  · rfl
  · split <;> rfl

theorem State.writePwrmode_memorySide {s t : State} {v : Word} (h : s.writePwrmode v = .ok t) :
    t.memorySide = s.memorySide := by
  unfold State.writePwrmode at h
  split at h <;> cases h <;> rfl

theorem State.writeCp14_memorySide {s t : State} {n : BitVec 4} {v : Word} (h : s.writeCp14 n v = .ok t) :
    t.memorySide = s.memorySide := by
  unfold State.writeCp14 at h
  split at h
  case h_6 => exact State.writePwrmode_memorySide h
  case h_9 => cases h; exact s.writeDcsr_memorySide v
  case h_11 | h_12 => cases h; split <;> rfl
  case h_14 => cases h
  all_goals cases h; rfl

theorem State.readCp14_memorySide {s t : State} {n : BitVec 4} {w : Word} (h : s.readCp14 n = .ok (w, t)) :
    t.memorySide = s.memorySide := by
  have tbreg : s.readTbreg.2.memorySide = s.memorySide := by
    unfold State.readTbreg
    split <;> rfl
  have chkpt (x : Word) : (s.readChkpt x).2.memorySide = s.memorySide := by
    unfold State.readChkpt
    split <;> rfl
  unfold State.readCp14 at h
  split at h
  case h_10 => rwa [Except.ok.inj h] at tbreg
  case h_11 => have k := chkpt s.cp14.chkpt0; rwa [Except.ok.inj h] at k
  case h_12 => have k := chkpt s.cp14.chkpt1; rwa [Except.ok.inj h] at k
  case h_14 => cases h
  all_goals cases h; rfl

/-! The functions of CP15 (41_coprocessor_access.md R370-R377). -/

namespace MemoryKept

theorem cleanDcacheLine (s : State) (l : BitVec 27) : MemoryKept s (s.cleanDcacheLine l) := by
  unfold State.cleanDcacheLine
  split
  · exact .refl s
  · exact ((StoreKept.writeBackLine s true _).trans (.putDline _ _ _)).kept

theorem drainCommand (s : State) : MemoryKept s s.drainCommand := (drainAll s).trans (.of_same rfl)

theorem allocateLine {s t : State} {mva : Word} (h : (s.allocateLine mva).after? = some t) : MemoryKept s t := by
  have translated {r : Translation} {u : State}
      (e : (if s.mmuOn then s.translate .data mva else .ok { TlbEntry.empty with base := mva } s) = r)
      (k : r.after? = some u) : MemoryKept s u := by
    subst e
    split at k
    · exact .of_same (State.translate_memorySide k)
    · cases k
      exact .refl s
  unfold State.allocateLine at h
  split at h <;> rename_i e
  · cases h
  · cases h
    exact translated e rfl
  · have begun := translated e rfl
    split at h <;> rename_i e' <;> cases h
    simp only [State.allocateCommand] at e'
    split at e'
    · split at e' <;> cases e'
      exact begun.trans (.drainAll _)
    · cases e'
      exact (begun.trans (.drainAll _)).trans ((StoreKept.consume _ 8).trans (.allocMain ..)).kept

theorem translateToLock {s t : State} {side : Side} {mva : Word} {r : Access TlbEntry}
    (h : s.translateToLock side mva = r) (k : r.after? = some t) : MemoryKept s t := by
  subst h
  unfold State.translateToLock at k
  split at k <;> rename_i e <;> cases k <;> exact .of_same (State.translateChecked_memorySide (by rw [e]; rfl))

theorem lockIcacheLine {s t : State} {mva : Word} (h : (s.lockIcacheLine mva).after? = some t) : MemoryKept s t := by
  unfold State.lockIcacheLine at h
  split at h
  · cases h
  split at h
  · cases h
  split at h <;> rename_i e
  · cases h
  · cases h
    exact .translateToLock e rfl
  · rename_i s'
    have translated : MemoryKept s s' := .translateToLock e rfl
    simp only at h
    split at h
    · cases h
    have read (a : Word) := translated.trans (StoreKept.busRead s' .fetch s'.memByte a 32).kept
    split at h <;> cases h
    · exact read _
    · exact (read _).trans (.of_same rfl)

theorem lockTlbEntry {s t : State} {side : Side} {mva : Word} (h : (s.lockTlbEntry side mva).after? = some t) :
    MemoryKept s t := by
  refine .of_same ?_
  unfold State.lockTlbEntry at h
  split at h
  · cases h
  split at h
  · cases h
  split at h <;> rename_i e
  · cases h
  · cases h
    rw [State.walk_memorySide (by rw [e]; rfl), State.countTlbMiss_memorySide]
  · split at h <;> cases h
    · rw [State.walk_memorySide (by rw [e]; rfl), State.countTlbMiss_memorySide]
    · rw [State.setTlb_memorySide, State.walk_memorySide (by rw [e]; rfl), State.countTlbMiss_memorySide]

end MemoryKept

namespace Result.KeepsMemory

variable {s : State}

theorem finishMcr {r : Except Refusal State} (h : ∀ t, r = .ok t → t.memorySide = s.memorySide) :
    Result.KeepsMemory s (Machine.finishMcr r) := by
  cases r with
  | error e => exact .refused e
  | ok t => exact .advance_beside (h t rfl)

theorem finishMrc {r : Except Refusal (Word × State)} (rd : Reg) (h : ∀ w t, r = .ok (w, t) → t.memorySide = s.memorySide) :
    Result.KeepsMemory s (Machine.finishMrc rd r) := by
  cases r with
  | error e => exact .refused e
  | ok x => exact .advance_beside ((State.writeMrc_memorySide ..).trans (h x.1 x.2 rfl))

theorem mcr (c : Cond) (op1 : BitVec 3) (crn : BitVec 4) (rd : Reg) (cp : BitVec 4) (op2 : BitVec 3) (crm : BitVec 4) :
    Result.KeepsMemory s (execMcr c op1 crn rd cp op2 crm s) :=
  .conditional (.ite .undefined (.guarded (.ite (.finishMcr fun _ => State.writeCp15_memorySide)
    (.ite (.finishMcr fun _ => State.writeCp14_memorySide) (.refused _)))))

theorem mrc (c : Cond) (op1 : BitVec 3) (crn : BitVec 4) (rd : Reg) (cp : BitVec 4) (op2 : BitVec 3) (crm : BitVec 4) :
    Result.KeepsMemory s (execMrc c op1 crn rd cp op2 crm s) :=
  .conditional (.ite .undefined (.ite (.finishMrc rd fun _ _ => State.readCp15_memorySide)
    (.ite (.finishMrc rd fun _ _ => State.readCp14_memorySide) (.refused _))))

theorem ldc (c : Cond) (p u n w : Bool) (rn : Reg) (crd cp : BitVec 4) (off : Byte) :
    Result.KeepsMemory s (execLdc c p u n w rn crd cp off s) := by
  refine .conditional (.ite .undefined ?_)
  split
  · exact .refused _
  simp only
  split
  case h_1 => exact .refused _
  case h_2 h =>
    refine .after (.memRead (by rw [h]; rfl)) (.ite ?_ (.abortMultiple ..))
    split
    · exact .refused _
    · rename_i h
      exact .beside ((State.writeCp14_memorySide h).trans (State.consume_memorySide ..)) (.abortMultiple ..)
  case h_3 h =>
    refine .after (.memRead (by rw [h]; rfl)) ?_
    unfold State.finishLdc
    split
    · exact .refused _
    · exact .advance_beside ((State.writeBase_memorySide ..).trans (State.writeCp14_memorySide ‹_›))

theorem stc (c : Cond) (p u n w : Bool) (rn : Reg) (crd cp : BitVec 4) (off : Byte) :
    Result.KeepsMemory s (execStc c p u n w rn crd cp off s) := by
  refine .conditional (.ite .undefined ?_)
  split
  · exact .refused _
  simp only
  split
  case h_1 => exact .refused _
  case h_2 h => exact .after (.prepare (by rw [h]; rfl)) (.abortSingle ..)
  case h_3 h =>
    refine .after (.prepare (by rw [h]; rfl)) ?_
    split
    · exact .refused _
    · refine .beside (State.readCp14_memorySide ‹_›) ?_
      split
      · exact .refused _
      · exact .after (.storeAt ‹_›) (.advance_beside (by simp))

theorem cp15Function (c : Cond) (rd : Reg) {f : Word → Result} (h : ∀ v, Result.KeepsMemory s (f v)) :
    Result.KeepsMemory s (s.cp15Function c rd f) := .conditional (.ite .undefined (.guarded (h _)))

/-- A function that completes. -/
theorem cp15Command (c : Cond) (rd : Reg) {f : Word → State} (h : ∀ v, MemoryKept s (f v)) :
    Result.KeepsMemory s (s.cp15Function c rd fun v => (f v).advance) := .cp15Function c rd fun v => .after (h v) (.advance _)

/-- A function that may take a data abort. -/
theorem finishFunction {r : Access Unit} (h : ∀ t, r.after? = some t → MemoryKept s t) :
    Result.KeepsMemory s (Machine.finishFunction r) := by
  cases r with
  | stop e => exact .refused e
  | abort i t => exact .after (h t rfl) (.abortSingle ..)
  | ok _ t => exact .after (h t rfl) (.advance _)

theorem readDCacheLock (c : Cond) (rd : Reg) : Result.KeepsMemory s (execReadDCacheLock c rd s) :=
  .conditional (.ite .undefined (.finishMrc rd fun _ _ h => by cases h; rfl))

theorem unlockTlb (side : Side) : Result.KeepsMemory s (s.unlockTlb side) :=
  .ite (.advance_beside (State.setTlb_memorySide ..)) (.refused _)

end Result.KeepsMemory

/-- Every instruction keeps the canonical form of memory and the sizes of the buffers. -/
theorem exec_keepsMemory (i : Instr) (s : State) : Result.KeepsMemory s (exec i s) := by
  cases i <;> unfold exec
  -- branches
  case b => exact .ite (.same (by simp)) (.branchNotTaken _)
  case bl => exact .ite (.same (by simp)) (.branchNotTaken _)
  case blxImm => exact .same ((State.branchStateTo_memorySide ..).trans (by simp))
  case bx => exact .ite (.beside (by simp) (.jumpExchange ..)) (.advance_beside (by simp))
  case blxReg => exact .ite (.guarded (.beside (by simp) (.jumpExchange ..))) (.advance_beside (by simp))
  case tB => exact .same (by simp)
  case tBCond => exact .ite (.same (by simp)) (.branchNotTaken _)
  case tBlHead => exact .setReg_advance ..
  case tBlSuffix => exact .same ((State.branchTo_memorySide ..).trans (by simp))
  case tBlxSuffix => exact .same ((State.branchStateTo_memorySide ..).trans (by simp))
  case tBx => exact .beside (by simp) (.jumpExchange ..)
  case tBlxReg => exact .guarded (.beside (by simp) (.jumpExchange ..))
  -- exceptions and status
  case bkpt | tBkpt => exact .breakpoint
  case swi => exact .conditional .softwareInterrupt
  case tSwi => exact .softwareInterrupt
  case undefUncond | tUndefMisc | tUndefDE | tUndefBlx | tUndefRest => exact .undefined
  case undefBkptCond | undefMulSpace | undefArch | undefRest | cp0TransferOther | cp0Other | mcrr | mrrc | undefLdcStc | cdp =>
    exact .conditional .undefined
  case mrs => exact .mrs ..
  case msrReg => exact .conditional (.guarded (.msr ..))
  case msrImm => exact .conditional (.msr ..)
  -- data processing
  case and | eor | sub | rsb | add | adc | sbc | rsc | orr | mov | bic | mvn => exact .dataProc ..
  case tst | teq | cmp | cmn => exact .dataTest ..
  case clz => exact .conditional (.guarded (.setReg_advance ..))
  case qadd | qsub | qdadd | qdsub => exact .conditional (.guarded (.raiseQ_setReg ..))
  -- multiplies and coprocessor 0
  case mul | mla => exact .conditional (.guarded (.mulResult ..))
  case umull | umlal | smull | smlal => exact .longMultiply ..
  case smlaxy | smlawy => exact .conditional (.guarded (.raiseQ_setReg ..))
  case smulwy | smulxy => exact .conditional (.guarded (.setReg_advance ..))
  case smlalxy => exact .conditional (.guarded (.longResult ..))
  case mia | miaph | miabb | miabt | miatb | miatt => exact .accumulate ..
  case mar => exact .coprocessor0 (.guarded (.advance_beside (by simp)))
  case mra => exact .coprocessor0 (.guarded (.advance_beside (by simp)))
  -- loads and stores
  case ldr => exact .guarded (.load2 ..)
  case ldrb | ldrt | ldrbt => exact .load2 ..
  case str | strb | strt | strbt => exact .store2 ..
  case ldrh | ldrsh | ldrsb => exact .load3 ..
  case strh => exact .conditional (.guarded (.guarded (.storeSingle ..)))
  case ldrd => exact .ldrd ..
  case strd => exact .strd ..
  case pld => exact .pld ..
  case swp => exact .conditional (.guarded (.guarded (.swap _ _ _ _ _ _ fun _ _ => .abortMultiple ..)))
  case swpb => exact .conditional (.guarded (.swap _ _ _ _ _ _ fun _ _ => .abortSingle ..))
  case ldm | ldmUser => exact .conditional (.guarded (.guarded (.loadMultiple _ _ _ _ _ .finishLdm)))
  case ldmRet => exact .conditional (.guarded (.guarded (.guarded (.loadMultiple _ _ _ _ _ .finishLdmRet))))
  case stm | stmUser => exact .conditional (.guarded (.storeMultiple ..))
  -- Thumb computing
  case tLslImm | tLsrImm | tAsrImm | tLslReg | tLsrReg | tAsrReg | tRor => exact .thumbArith ..
  case tAddReg | tSubReg | tAddImm3 | tSubImm3 | tAddImm8 | tSubImm8 | tAdc | tSbc | tNeg => exact .thumbArith ..
  case tMovImm | tMul | tMvn | tAnd | tEor | tOrr | tBic => exact .thumbLogic ..
  case tCmpImm | tCmpReg | tCmpHigh | tCmn | tTst => exact .advance_beside (by simp)
  case tAddHigh | tMovHigh => exact .highResult ..
  case tAddPc | tAddSp | tIncSp | tDecSp => exact .setReg_advance ..
  -- Thumb loads and stores
  case tLdrImm | tLdrReg | tLdrPc | tLdrSp | tLdrbImm | tLdrbReg | tLdrsb => exact .loadSingle ..
  case tLdrhImm | tLdrhReg | tLdrsh => exact .guarded (.loadSingle ..)
  case tStrImm | tStrReg | tStrSp | tStrbImm | tStrbReg => exact .storeSingle ..
  case tStrhImm | tStrhReg => exact .guarded (.storeSingle ..)
  case tLdmia | tPop => exact .thumbLdm ..
  case tStmia | tPush => exact .guarded (.storeMultiple ..)
  -- coprocessors 14 and 15
  case mcr => exact .mcr ..
  case mrc => exact .mrc ..
  case ldc => exact .ldc ..
  case stc => exact .stc ..
  case invIDCacheBtb | invDCache | invDCacheLine =>
    exact .cp15Command _ _ fun _ => (MemoryKept.settleFills s).trans (.of_same rfl)
  case invICacheBtb | invICacheLine | invBtb => exact .cp15Command _ _ fun _ => .of_same rfl
  case cleanDCacheLine => exact .cp15Command _ _ fun _ => (MemoryKept.settleFills s).trans (.cleanDcacheLine ..)
  case drainWriteBuffer => exact .cp15Command _ _ fun _ => .drainCommand s
  case allocDCacheLine => exact .cp15Function _ _ fun _ => .finishFunction fun _ => .allocateLine
  case invIDTlb => exact .cp15Command _ _ fun _ => .of_same rfl
  case invITlb | invITlbEntry | invDTlb | invDTlbEntry => exact .cp15Command _ _ fun _ => .of_same rfl
  case lockICacheLine => exact .cp15Function _ _ fun _ => .finishFunction fun _ => .lockIcacheLine
  case unlockICache | unlockDCache => exact .cp15Function _ _ fun _ => .ite (.advance_beside rfl) (.refused _)
  case readDCacheLock => exact .readDCacheLock ..
  case writeDCacheLock => exact .cp15Function _ _ fun _ => .guarded (.advance_beside rfl)
  case lockITlbEntry | lockDTlbEntry => exact .cp15Function _ _ fun _ => .finishFunction fun _ => .lockTlbEntry
  case unlockITlb | unlockDTlb => exact .cp15Function _ _ fun _ => .unlockTlb _

end Sys2Proof.Machine
end

section
/-! PROOF. A step keeps the canonical form of memory and the sizes of the buffers: its inputs, a reset, the exceptions at its
boundary, and the instruction (20_memory.md R152, R230, R232, R233). -/

namespace Sys2Proof.Machine

/-! Inputs. -/

theorem State.latchIr_memorySide {s t : State} {ir : BitVec 5} (h : s.latchIr ir = .ok t) : t.memorySide = s.memorySide := by
  unfold State.latchIr at h
  split at h <;> cases h
  rfl

theorem State.tapAction_memorySide (s : State) (tdi : Bool) : (s.tapAction tdi).memorySide = s.memorySide := by
  unfold State.tapAction
  split
  case h_1 => unfold State.captureDr; cases s.dataReg <;> rfl
  case h_2 => unfold State.shiftDr; cases s.dataReg <;> rfl
  all_goals rfl

theorem State.ldicStart_memorySide {s t : State} {sr : BitVec 33} (h : s.ldicStart sr = .ok t) :
    t.memorySide = s.memorySide := by
  simp only [State.ldicStart] at h
  split at h
  case h_1 | h_2 => cases h; rfl
  case h_3 | h_4 => split at h <;> cases h; rfl
  case h_5 => cases h

theorem State.ldicData_memorySide {s t : State} {d : LdicLoad} {w : Word} (h : s.ldicData d w = .ok t) :
    t.memorySide = s.memorySide := by
  simp only [State.ldicData] at h
  split at h
  · split at h <;> cases h
    split <;> rfl
  · cases h
    rfl

theorem State.updateDr_memorySide {s t : State} (h : s.updateDr = .ok t) : t.memorySide = s.memorySide := by
  unfold State.updateDr at h
  split at h
  case h_4 =>
    simp only [State.updateDcsr] at h
    split at h <;> cases h
    rfl
  case h_7 =>
    simp only [State.updateLdic] at h
    split at h
    · have started := State.ldicStart_memorySide h
      exact started
    · have loaded := State.ldicData_memorySide h
      exact loaded
  all_goals cases h; rfl

theorem State.tapEnter_memorySide {s t : State} (h : s.tapEnter = .ok t) : t.memorySide = s.memorySide := by
  unfold State.tapEnter at h
  split at h
  case h_1 | h_3 => exact State.latchIr_memorySide h
  case h_2 => exact State.updateDr_memorySide h
  all_goals cases h; rfl

theorem State.tck_memorySide {s t : State} {tms tdi : Bool} (h : s.tck tms tdi = .ok t) : t.memorySide = s.memorySide := by
  have driven (u : State) : u.driveTdo.memorySide = u.memorySide := by
    unfold State.driveTdo
    split <;> rfl
  unfold State.tck at h
  split at h
  · split at h <;> rename_i e <;> cases h
    exact (driven _).trans ((State.tapEnter_memorySide e).trans (State.tapAction_memorySide s.countTck tdi))
  · cases h
    rfl

theorem State.setTrst_memorySide {s t : State} {b : Bool} (h : s.setTrst b = .ok t) : t.memorySide = s.memorySide := by
  unfold State.setTrst at h
  split at h
  · unfold State.assertTrst at h
    split at h <;> rename_i e <;> cases h
    refine Eq.trans ?_ (State.latchIr_memorySide e)
    split <;> rfl
  · cases h
    rfl

namespace MemoryKept

theorem foreignWrite (s : State) (pa : Word) (b : Byte) : MemoryKept s (s.foreignWrite pa b) := foreignWrites s [(pa, b)]

theorem markDataParity (s : State) (mini : Bool) (set way byte : BitVec 5) :
    MemoryKept s (s.markDataParity mini set way byte) := by
  simp only [State.markDataParity]
  split
  · exact .refl s
  · exact (StoreKept.setDlines s mini _).kept

theorem takeInput {s t : State} {i : Input} (h : s.takeInput i = .ok t) : MemoryKept s t := by
  cases i with
  | trst => exact .of_same (State.setTrst_memorySide h)
  | tck => exact .of_same (State.tck_memorySide h)
  | retireWrite => cases h; exact (StoreKept.retireWrite ..).kept
  | fillReturn => cases h; exact .returnFill ..
  | icParity => cases h; exact .ite (.of_same rfl) (.of_same rfl)
  | dcParity => cases h; exact .markDataParity ..
  | busWrite => cases h; exact .foreignWrite ..
  | fetchAhead => cases h; exact .ite (.fetchAhead ..) (.refl s)
  | irq | fiq | resetPin | busBetween | powerFault => cases h; exact .of_same rfl

/-! Reset (70_reset_and_hazards.md R900). -/

theorem freeBytes (s : State) (l : List Nat) : MemoryKept s (s.freeBytes l) := by
  induction l generalizing s with
  | nil => exact .refl s
  | cons a t ih =>
    have put (b : Byte) : MemoryKept s (s.putByte (BitVec.ofNat 32 a) b) := ⟨State.putByte_wf _ b, id⟩
    exact ((put _).trans (.consume _ 1)).trans (ih _)

theorem cutShort (s : State) : MemoryKept s s.cutShort := by
  unfold State.cutShort
  split
  · exact .freeBytes s _
  · exact .refl s
  · exact .refl s

theorem resetIcaches (s : State) : MemoryKept s s.resetIcaches := .ite (.refl s) (.ite (.of_same rfl) (.of_same rfl))

/-- A processor reset empties the buffers and keeps memory. -/
theorem processorReset (s : State) : MemoryKept s s.processorReset where
  canonical h := by rwa [State.memCanonical, s.processorReset_kept.1]
  bounded _ := by simp only [State.buffersBounded, State.processorReset, List.length_nil, Nat.zero_le, decide_true, Bool.and_self]

theorem beginReset (s : State) : MemoryKept s s.beginReset := by
  have cut : MemoryKept s (if s.executes && bitAt (s.free 0) 0 then (s.consume 1).cutShort else s.consume 1) :=
    .ite ((consume s 1).trans (.cutShort _)) (.consume s 1)
  exact (cut.trans (.resetIcaches _)).trans (.processorReset _)

theorem updateHold (s : State) : MemoryKept s s.updateHold := by
  have held (u : State) (b : Bool) : MemoryKept u (u.setHeld b) := .of_same rfl
  unfold State.updateHold
  split
  · exact (beginReset s).trans (held _ true)
  · exact (resetIcaches s).trans (held _ false)
  · exact .refl s
  · exact .refl s

theorem takeInputs {s t : State} {l : List Input} (h : s.takeInputs l = .ok t) : MemoryKept s t := by
  induction l generalizing s with
  | nil => cases h; exact .refl _
  | cons i l ih =>
    unfold State.takeInputs at h
    split at h
    · cases h
    · exact ((takeInput ‹_›).trans (.updateHold _)).trans (ih h)

theorem popInputs {s t : State} (h : s.popInputs = .ok t) : MemoryKept s t := by
  have popped (l : List (List Input)) : MemoryKept s { s.busRest with inputs := l } := (busRest s).trans (.of_same rfl)
  simp only [State.popInputs] at h
  split at h
  · cases h
    exact .busRest s
  · exact (popped _).trans (.takeInputs h)

/-! The boundary (60_exceptions.md R663). -/

theorem tick (s : State) : MemoryKept s s.tick := by
  unfold State.tick
  split <;> exact .of_same rfl

theorem takeException (s : State) (m : Mode) (setF : Bool) (offset link : Word) :
    MemoryKept s (s.takeException m setF offset link) := .of_same (by simp)

theorem takeDebug (s : State) (c : DebugCause) : MemoryKept s (s.takeDebug c) := .of_same (by simp)

theorem takeImprecise (s : State) (parity : Bool) : MemoryKept s (s.takeImprecise parity) := by
  have recorded : MemoryKept s { s.recordImprecise parity with
      pending := { (s.recordImprecise parity).pending with imprecise := none } } := .of_same rfl
  exact recorded.trans (.ite (.of_same rfl) (.takeException ..))

theorem lowerEvent {s t : State} (h : s.lowerEvent = some t) : MemoryKept s t := by
  unfold State.lowerEvent at h
  split at h
  · cases h; exact .takeDebug ..
  split at h
  · cases h; exact .takeDebug ..
  split at h
  · cases h; exact .takeException ..
  split at h
  · cases h; exact .takeException ..
  split at h
  · cases h; exact .takeDebug ..
  · cases h

theorem boundary (s : State) : MemoryKept s s.boundary.state := by
  have deferred : MemoryKept s s.deferImprecise := by
    unfold State.deferImprecise
    split <;> exact .of_same rfl
  unfold State.boundary
  split
  · exact .takeDebug ..
  split
  · exact .takeDebug ..
  split
  · exact (consume s 1).trans (.takeImprecise ..)
  · simp only
    split
    · exact deferred.trans (.lowerEvent ‹_›)
    · exact deferred

/-! The instruction. -/

theorem settleShadow (s : State) (i : Instr) : MemoryKept s (s.settleShadow i) := by
  rw [State.settleShadow_eq]
  exact (ite (.refl s) (.of_same (s.freeRegs_memorySide _ _))).trans (.of_same rfl)

theorem retire (s : State) : MemoryKept s s.retire := by
  have settled (u : State) : MemoryKept u u.settleDebug := .ite (.of_same rfl) (.refl u)
  exact ((count s .instrExecuted).trans (settled _)).trans (.tick _)

theorem runCode {s t : State} {c : Code} (h : s.runCode c = .next t) : MemoryKept s t := by
  unfold State.runCode at h
  split at h
  · cases h
  split at h
  · cases h
  · obtain ⟨u, hu, rfl⟩ := mapNext_next h
    exact ((settleShadow s _).trans ((exec_keepsMemory _ _).onNext u hu)).trans (.retire u)

theorem runNext {s t : State} (h : s.runNext = .next t) : MemoryKept s t := by
  unfold State.runNext at h
  split at h <;> rename_i e
  · cases h
  · have fetched : MemoryKept s _ := .fetchWord (by rw [e]; rfl)
    split at h
    · exact (fetched.trans (.consume _ 1)).trans (.runCode h)
    · cases h
      have aborted (u : State) (c : PrefetchCause) : MemoryKept u (u.takePrefetchAbort c) :=
        .of_same ((State.takeException_memorySide ..).trans rfl)
      exact fetched.trans ((aborted _ _).trans (.tick _))
  · exact (fetchWord (by rw [e]; rfl)).trans (.runCode h)

theorem runBoundary {s t : State} (h : s.runBoundary = .next t) : MemoryKept s t := by
  have bounded := boundary s
  unfold State.runBoundary at h
  split at h <;> rename_i e <;> rw [e] at bounded
  · cases h
    exact bounded.trans (.tick _)
  · exact bounded.trans (.runNext h)

theorem proceed {s t : State} (h : s.proceed = .next t) : MemoryKept s t := by
  have woken : MemoryKept s (if s.jtag.held then s else s.wake) := .ite (.refl s) (.ite (.of_same rfl) (.refl s))
  simp only [State.proceed] at h
  generalize (if s.jtag.held then s else s.wake) = w at h woken
  split at h
  · cases h
    exact woken
  split at h
  · cases h
  · obtain ⟨u, hu, rfl⟩ := mapNext_next h
    exact woken.trans ((runBoundary hu).trans (.of_same rfl))

end MemoryKept

/-- What every step keeps of memory and its buffers. -/
theorem step_keepsMemory {s t : State} (h : step s = .next t) : MemoryKept s t := by
  unfold step at h
  split at h
  · cases h
  · exact (MemoryKept.popInputs ‹_›).trans (.proceed h)

/-- Settles O9, from what every step keeps of memory. -/
theorem stepKeepsMemoryCanonical : Obligations.StepKeepsMemoryCanonical :=
  fun _ _ hm h => (step_keepsMemory h).canonical hm

/-- Settles O12, from what every step keeps of memory. -/
theorem stepKeepsBufferBounds : Obligations.StepKeepsBufferBounds := fun _ _ hb h => (step_keepsMemory h).bounded hb

end Sys2Proof.Machine
end

section
/-! PROOF. The data side sees its stores through the write buffer, and a drain gives them to memory (20_memory.md R230, R231,
R234, R246). -/

namespace Sys2Proof.Machine

/-! Blocks and lanes of addresses. -/

theorem field_low_toNat (a : Word) : (field a 0 4).toNat = a.toNat % 16 := by
  simp [field, BitVec.extractLsb'_toNat]

theorem field_block_toNat (a : Word) : (field a 4 28).toNat = a.toNat / 16 := by
  have ha := a.isLt
  simp only [field, BitVec.extractLsb'_toNat, Nat.shiftRight_eq_div_pow]
  omega

theorem field_block_eq_iff (a b : Word) : field a 4 28 = field b 4 28 ↔ a.toNat / 16 = b.toNat / 16 := by
  rw [BitVec.toNat_eq, field_block_toNat, field_block_toNat]

/-- The address of a lane of a block. -/
theorem block_lane_eq_iff (block : BitVec 28) {n : Nat} (hn : n < 16) (a : Word) :
    a = (block ++ BitVec.ofNat 4 n : BitVec 32) ↔ block = field a 4 28 ∧ (field a 0 4).toNat = n := by
  have hb := block.isLt
  have happ : (block ++ BitVec.ofNat 4 n : BitVec 32).toNat = block.toNat * 16 + n := by
    rw [BitVec.toNat_append, ← Nat.shiftLeft_add_eq_or_of_lt (BitVec.isLt _), Nat.shiftLeft_eq, BitVec.toNat_ofNat]
    omega
  rw [BitVec.toNat_eq, happ, BitVec.toNat_eq (x := block), field_block_toNat, field_low_toNat]
  omega

/-- The address of byte `i` of a store that stays in its block. -/
theorem toNat_add_ofNat {pa : Word} {n i : Nat} (hfit : pa.toNat % 16 + n ≤ 16) (hi : i < n) :
    (pa + BitVec.ofNat 32 i).toNat = pa.toNat + i := by
  have hp := pa.isLt
  rw [BitVec.toNat_add, BitVec.toNat_ofNat]
  omega

/-! One store. -/

/-- The byte that a store within a block puts at an address. -/
def storedByte (pa v : Word) (n : Nat) (a : Word) : Option Byte :=
  if a.toNat / 16 = pa.toNat / 16 ∧ pa.toNat % 16 ≤ a.toNat % 16 ∧ a.toNat % 16 < pa.toNat % 16 + n then
    some (byteOf v (a.toNat % 16 - pa.toNat % 16))
  else none

theorem storedByte_of_lt {pa : Word} {n i : Nat} (v : Word) (hfit : pa.toNat % 16 + n ≤ 16) (hi : i < n) :
    storedByte pa v n (pa + BitVec.ofNat 32 i) = some (byteOf v i) := by
  rw [storedByte, toNat_add_ofNat hfit hi, if_pos (by omega)]
  congr 2
  omega

theorem storedByte_of_ne {pa : Word} {n : Nat} (v : Word) (hfit : pa.toNat % 16 + n ≤ 16) {a : Word}
    (h : ∀ i < n, a ≠ pa + BitVec.ofNat 32 i) : storedByte pa v n a = none := by
  refine if_neg fun inside => ?_
  refine h (a.toNat % 16 - pa.toNat % 16) (by omega) ?_
  rw [BitVec.toNat_eq, toNat_add_ofNat hfit (by omega)]
  omega

/-! Entries. -/

/-- The byte that an entry holds of an address. -/
def WriteEntry.byteAt (e : WriteEntry) (a : Word) : Option Byte :=
  if e.block = field a 4 28 ∧ bitAt e.mask (field a 0 4).toNat then e.data[(field a 0 4).toNat]? else none

theorem WriteEntry.byteAt_of_ne {e : WriteEntry} {a : Word} (h : e.block ≠ field a 4 28) : e.byteAt a = none :=
  if_neg fun k => h k.1

theorem bufferedByte_nil (a : Word) : bufferedByte a [] = none := rfl

/-- A newer entry comes before an older one. -/
theorem bufferedByte_cons (a : Word) (e : WriteEntry) (t : List WriteEntry) :
    bufferedByte a (e :: t) = (bufferedByte a t).or (e.byteAt a) := by
  rw [bufferedByte, WriteEntry.byteAt]
  cases bufferedByte a t <;> rfl

theorem bufferedByte_append (a : Word) (l m : List WriteEntry) :
    bufferedByte a (l ++ m) = (bufferedByte a m).or (bufferedByte a l) := by
  induction l with
  | nil => simp [bufferedByte_nil]
  | cons e t ih => rw [List.cons_append, bufferedByte_cons, ih, bufferedByte_cons, Option.or_assoc]

theorem bufferedByte_single (a : Word) (e : WriteEntry) : bufferedByte a [e] = e.byteAt a := by
  rw [bufferedByte_cons, bufferedByte_nil, Option.none_or]

/-- The newest entry of a list that is newest first. -/
theorem bufferedByte_reverse_cons (a : Word) (e : WriteEntry) (t : List WriteEntry) :
    bufferedByte a (e :: t).reverse = (e.byteAt a).or (bufferedByte a t.reverse) := by
  rw [List.reverse_cons, bufferedByte_append, bufferedByte_single]

/-- The valid bytes after some lanes were filled. -/
theorem bitAt_fillLanes (mask : BitVec 16) (data : Vector Byte 16) (lane : BitVec 4) (v : Word) {n j : Nat}
    (hfit : lane.toNat + n ≤ 16) (hj : j < 16) :
    bitAt (fillLanes mask data lane v n).1 j = (bitAt mask j || decide (lane.toNat ≤ j ∧ j < lane.toNat + n)) := by
  induction n with
  | zero => simp [fillLanes]
  | succ n ih =>
    have hlane : (lane + BitVec.ofNat 4 n).toNat = lane.toNat + n := by
      rw [BitVec.toNat_add, BitVec.toNat_ofNat]
      omega
    have hbit : bitAt (1#16 <<< (lane.toNat + n)) j = decide (j = lane.toNat + n) := by
      simp only [bitAt, BitVec.getLsbD_shiftLeft, BitVec.getLsbD_one, hj, decide_true, Bool.true_and]
      by_cases h : j = lane.toNat + n
      · simp [h]
      · simp [h]
        omega
    have split : decide (lane.toNat ≤ j ∧ j < lane.toNat + (n + 1)) =
        (decide (lane.toNat ≤ j ∧ j < lane.toNat + n) || decide (j = lane.toNat + n)) := by
      rw [← Bool.decide_or, decide_eq_decide]
      omega
    simp only [fillLanes, bitAt, BitVec.getLsbD_or, hlane] at ih hbit ⊢
    rw [ih (by omega), hbit, split, Bool.or_assoc]

/-- The bytes after some lanes were filled. -/
theorem getElem_fillLanes (mask : BitVec 16) (data : Vector Byte 16) (lane : BitVec 4) (v : Word) {n j : Nat}
    (hfit : lane.toNat + n ≤ 16) (hj : j < 16) :
    (fillLanes mask data lane v n).2[j] =
      if lane.toNat ≤ j ∧ j < lane.toNat + n then byteOf v (j - lane.toNat) else data[j] := by
  induction n with
  | zero => rw [fillLanes, if_neg (by omega)]
  | succ n ih =>
    have hlane : (lane + BitVec.ofNat 4 n).toNat = lane.toNat + n := by
      rw [BitVec.toNat_add, BitVec.toNat_ofNat]
      omega
    have hset : (lane + BitVec.ofNat 4 n).toFin.val = lane.toNat + n := hlane
    simp only [fillLanes, Vector.getElem_set, hset, ih (by omega)]
    by_cases h : lane.toNat + n = j
    · rw [if_pos h, if_pos (by omega)]
      congr 1
      omega
    · rw [if_neg h]
      by_cases hin : lane.toNat ≤ j ∧ j < lane.toNat + n
      · rw [if_pos hin, if_pos (by omega)]
      · rw [if_neg hin, if_neg (by omega)]

/-- What an entry of the store's block holds once the store has joined it (20_memory.md R231). -/
theorem WriteEntry.byteAt_join {e : WriteEntry} {pa : Word} {n : Nat} (v : Word) (hfit : pa.toNat % 16 + n ≤ 16)
    (hb : e.block = field pa 4 28) (a : Word) :
    (e.join (field pa 0 4) v n).byteAt a = (storedByte pa v n a).or (e.byteAt a) := by
  have hj : a.toNat % 16 < 16 := Nat.mod_lt _ (by decide)
  have hl : (field pa 0 4).toNat + n ≤ 16 := by rw [field_low_toNat]; exact hfit
  have hm := bitAt_fillLanes e.mask e.data (field pa 0 4) v hl hj
  have hd := getElem_fillLanes e.mask e.data (field pa 0 4) v hl hj
  rw [field_low_toNat] at hm hd
  simp only [WriteEntry.byteAt, WriteEntry.join, storedByte, field_low_toNat, hm, Vector.getElem?_eq_getElem hj, hd, hb,
    field_block_eq_iff, Bool.or_eq_true, decide_eq_true_eq]
  by_cases hblock : pa.toNat / 16 = a.toNat / 16
  · by_cases hlane : pa.toNat % 16 ≤ a.toNat % 16 ∧ a.toNat % 16 < pa.toNat % 16 + n
    · simp [hblock, hlane]
    · simp [hblock, hlane]
  · simp [hblock, Ne.symm hblock]

/-- An entry that holds no byte. -/
def WriteEntry.blank (block : BitVec 28) (coalesces : Bool) : WriteEntry :=
  { block := block, mask := 0, data := emptyBlock, coalesces := coalesces }

theorem WriteEntry.byteAt_blank (block : BitVec 28) (coalesces : Bool) (a : Word) :
    (WriteEntry.blank block coalesces).byteAt a = none := by
  simp [WriteEntry.byteAt, WriteEntry.blank, bitAt]

/-- The entry of one store is that store joined to an entry that holds no byte. -/
theorem WriteEntry.byteAt_ofStore {pa : Word} {n : Nat} (v : Word) (coalesces : Bool) (hfit : pa.toNat % 16 + n ≤ 16)
    (a : Word) : (WriteEntry.ofStore pa v n coalesces).byteAt a = storedByte pa v n a := by
  refine (WriteEntry.byteAt_join (e := .blank (field pa 4 28) coalesces) v hfit rfl a).trans ?_
  rw [WriteEntry.byteAt_blank, Option.or_none]

/-- A store that joins the newest entry of its block is what a read finds, and every other byte is found as before
(20_memory.md R231). -/
theorem bufferedByte_joinNewest {pa v : Word} {n : Nat} (hfit : pa.toNat % 16 + n ≤ 16) {l l' : List WriteEntry}
    (h : joinNewest (field pa 4 28) (field pa 0 4) v n l = some l') (a : Word) :
    bufferedByte a l'.reverse = (storedByte pa v n a).or (bufferedByte a l.reverse) := by
  induction l generalizing l' with
  | nil => cases h
  | cons e t ih =>
    unfold joinNewest at h
    split at h
    · split at h
      · rename_i hb
        split at h <;> cases h
        rw [bufferedByte_reverse_cons, bufferedByte_reverse_cons, WriteEntry.byteAt_join v hfit hb, Option.or_assoc]
      · rename_i hb
        obtain ⟨t', ht, rfl⟩ := Option.map_eq_some_iff.mp h
        rw [bufferedByte_reverse_cons, bufferedByte_reverse_cons, ih ht, ← Option.or_assoc, ← Option.or_assoc]
        congr 1
        by_cases hs : a.toNat / 16 = pa.toNat / 16
        · have elsewhere : e.block ≠ field a 4 28 := by rwa [(field_block_eq_iff a pa).mpr hs]
          rw [WriteEntry.byteAt_of_ne elsewhere, Option.none_or, Option.or_none]
        · have elsewhere : storedByte pa v n a = none := if_neg fun inside => hs inside.1
          rw [elsewhere, Option.none_or, Option.or_none]
    · cases h

/-! What the data side sees. -/

/-- Every address is memory that answers, and memory is in its canonical form. -/
structure State.PlainMemory (s : State) : Prop where
  noRegion : s.platform = []
  noErrors : s.extAborts = none
  canonical : Memory.wf s.mem = true

namespace State.PlainMemory

theorem regionAt {s : State} (h : s.PlainMemory) (a : Word) : s.regionAt a = none := by
  simp [State.regionAt, h.noRegion]

theorem busError {s : State} (h : s.PlainMemory) (k : BusKind) (a : Word) : s.busError k a = false := by
  simp [State.busError, h.noErrors, h.regionAt a]

theorem deliver {s : State} (h : s.PlainMemory) (bound : Option Nat) (e : WriteEntry) : (s.deliver bound e).PlainMemory where
  noRegion := (BusFrame.deliver s bound e).platform.trans h.noRegion
  noErrors := (BusFrame.deliver s bound e).extAborts.trans h.noErrors
  canonical := State.deliver_wf bound e h.canonical

end State.PlainMemory

/-- The first `n` lanes of an entry reach memory. -/
theorem State.writeBlock_memByte {s : State} (h : s.PlainMemory) (keep : Bool) (e : WriteEntry) {n : Nat} (hn : n ≤ 16)
    (a : Word) :
    (s.writeBlock keep e n).memByte a = (if (field a 0 4).toNat < n then e.byteAt a else none).getD (s.memByte a) := by
  induction n with
  | zero => rfl
  | succ n ih =>
    have hwf := State.writeBlock_wf keep e n h.canonical
    have lane := block_lane_eq_iff e.block (n := n) (by omega) a
    have hdata : e.data[n]? = some (e.data[n]'(by omega)) := Vector.getElem?_eq_getElem (by omega)
    by_cases at_lane : a = (e.block ++ BitVec.ofNat 4 n : BitVec 32)
    · obtain ⟨hb, hl⟩ := lane.mp at_lane
      rw [hl, if_pos (Nat.lt_succ_self n), WriteEntry.byteAt, hl, hdata]
      simp only [State.writeBlock, h.regionAt, h.busError, Bool.not_false, Bool.or_true, Bool.and_true, beq_self_eq_true, hdata,
        Option.getD_some, ← at_lane]
      split
      · rw [if_pos ⟨hb, ‹_›⟩]
        exact memGet_put_same _ _ hwf
      · rw [if_neg fun k => ‹¬_› k.2, ih (by omega), hl, if_neg (Nat.lt_irrefl n)]
    · have before : (s.writeBlock keep e (n + 1)).memByte a = (s.writeBlock keep e n).memByte a := by
        simp only [State.writeBlock]
        split
        · exact memGet_put_other _ _ at_lane
        · rfl
      by_cases hl : (field a 0 4).toNat = n
      · have elsewhere : e.block ≠ field a 4 28 := fun hb => at_lane (lane.mpr ⟨hb, hl⟩)
        rw [before, ih (by omega), WriteEntry.byteAt_of_ne elsewhere, ite_self, ite_self]
      · have same : (field a 0 4).toNat < n + 1 ↔ (field a 0 4).toNat < n := by omega
        rw [before, ih (by omega)]
        simp only [same]

theorem State.deliver_memByte {s : State} (h : s.PlainMemory) (bound : Option Nat) (e : WriteEntry) (a : Word) :
    (s.deliver bound e).memByte a = (e.byteAt a).getD (s.memByte a) := by
  have written := State.writeBlock_memByte h (bitAt (s.free 0) 0) e (Nat.le_refl 16) a
  rw [if_pos (BitVec.isLt _)] at written
  rw [← written]
  unfold State.memByte
  simp only [State.deliver]
  split <;> split <;> simp [State.consume]

theorem State.deliverAll_memByte {s : State} (h : s.PlainMemory) (l : List WriteEntry) (a : Word) :
    (s.deliverAll l).memByte a = (bufferedByte a l).getD (s.memByte a) := by
  induction l generalizing s with
  | nil => rfl
  | cons e t ih =>
    rw [State.deliverAll, ih (h.deliver none e), State.deliver_memByte h, bufferedByte_cons]
    cases bufferedByte a t <;> rfl

theorem State.dataByte_eq (s : State) (a : Word) : s.dataByte a = (bufferedByte a s.writeBuf).getD (s.memByte a) := rfl

/-- The oldest entry on its way to memory is seen all the time. -/
theorem State.retireWrite_zero_dataByte {s : State} (h : s.PlainMemory) (a : Word) :
    (s.retireWrite 0).dataByte a = s.dataByte a := by
  cases hw : s.writeBuf with
  | nil => simp [State.retireWrite, hw]
  | cons e t =>
    have retired : s.retireWrite 0 = { s.deliver none e with writeBuf := t } := by
      simp [State.retireWrite, hw, State.mayRetire]
    have delivered := State.deliver_memByte h none e a
    have seen : (s.retireWrite 0).dataByte a = (bufferedByte a t).getD ((s.deliver none e).memByte a) := by rw [retired]; rfl
    rw [seen, delivered, State.dataByte_eq, hw, bufferedByte_cons, Option.getD_or]

theorem State.makeRoom_dataByte {s : State} (h : s.PlainMemory) (a : Word) : s.makeRoom.dataByte a = s.dataByte a := by
  unfold State.makeRoom
  split
  · exact State.retireWrite_zero_dataByte h a
  · rfl

theorem State.appendWrite_dataByte {s : State} (h : s.PlainMemory) (e : WriteEntry) (a : Word) :
    (s.appendWrite e).dataByte a = (e.byteAt a).getD (s.dataByte a) := by
  have seen : (s.appendWrite e).dataByte a = (bufferedByte a (s.makeRoom.writeBuf ++ [e])).getD (s.makeRoom.memByte a) := rfl
  rw [seen, bufferedByte_append, bufferedByte_single, Option.getD_or, ← State.dataByte_eq, State.makeRoom_dataByte h]

/-- What the data side sees once a store is in the write buffer (20_memory.md R230, R231, R246). -/
theorem State.bufferStore_dataByte {s : State} (h : s.PlainMemory) {pa : Word} (v : Word) {n : Nat} (coalesces : Bool)
    (hfit : pa.toNat % 16 + n ≤ 16) (a : Word) :
    (s.bufferStore pa v n coalesces).dataByte a = (storedByte pa v n a).getD (s.dataByte a) := by
  simp only [State.bufferStore]
  split
  · rename_i l hl
    split at hl
    · have joined := bufferedByte_joinNewest hfit hl a
      rw [List.reverse_reverse] at joined
      rw [State.dataByte_eq, joined, Option.getD_or]
      rfl
    · cases hl
  · rw [State.appendWrite_dataByte h, WriteEntry.byteAt_ofStore v coalesces hfit]

theorem State.bufferStore_plainMemory {s : State} (h : s.PlainMemory) (pa v : Word) (n : Nat) (coalesces : Bool) :
    (s.bufferStore pa v n coalesces).PlainMemory := by
  have frame := AccessFrame.bufferStore s pa v n coalesces
  refine ⟨?_, ?_, State.bufferStore_wf pa v n coalesces h.canonical⟩
  · rw [frame.eq]
    exact h.noRegion
  · rw [frame.eq]
    exact h.noErrors

/-- A drain gives memory what the data side saw (20_memory.md R234). -/
theorem State.drainWrites_memByte {s : State} (h : s.PlainMemory) (a : Word) : s.drainWrites.memByte a = s.dataByte a :=
  State.deliverAll_memByte h s.writeBuf a

/-- An aligned access stays within its block. -/
theorem aligned_fits {pa : Word} {n : Nat} (h : n = 1 ∨ (n = 2 ∧ pa.toNat % 2 = 0) ∨ (n = 4 ∧ pa.toNat % 4 = 0)) :
    pa.toNat % 16 + n ≤ 16 := by
  omega

/-- Settles O58, from what the data side sees of an entry that is joined, appended or delivered. -/
theorem writeBufferIsSeen : Obligations.WriteBufferIsSeen := by
  intro s pa v n coalesces hp he hm hn
  have plain : s.PlainMemory := ⟨hp, he, hm⟩
  have hfit := aligned_fits hn
  have seen := State.bufferStore_dataByte plain v coalesces hfit
  refine ⟨fun i hi => ?stored, fun a ha => ?others, rfl,
    State.drainWrites_memByte (State.bufferStore_plainMemory plain pa v n coalesces)⟩
  case stored => rw [seen, storedByte_of_lt v hfit hi, Option.getD_some]
  case others => rw [seen, storedByte_of_ne v hfit ha, Option.getD_none]

end Sys2Proof.Machine
end

section
/-! PROOF. A hit in a data cache is read from the line and written to it, and by the page's write policy to memory too
(20_memory.md R207-R209, R230, R235). -/

namespace Sys2Proof.Machine

/-! Lanes. -/

/-- The least significant byte of an access lies at a multiple of its size (20_memory.md R153). -/
theorem laneAddr_mod (big : Bool) (w : Width) (a : Word) : (laneAddr big w a).toNat % w.bytes = 0 := by
  cases w with
  | byte => exact Nat.mod_one _
  | half =>
    have even : (a &&& 0xFFFFFFFE).toNat % 2 ^ 1 = 0 := and_toNat_mod rfl
    cases big
    · exact even
    · show ((a &&& 0xFFFFFFFE) ^^^ 2).toNat % 2 ^ 1 = 0
      rw [BitVec.toNat_xor, Nat.xor_mod_two_pow, even]
      rfl
  | word => exact and_toNat_mod (k := 2) rfl

/-- An access stays within the block and the line of its address. -/
theorem mod_add_bytes_le {x m : Nat} {w : Width} (hx : x % w.bytes = 0) (hm : m = 16 ∨ m = 32) : x % m + w.bytes ≤ m := by
  rcases hm with rfl | rfl <;> cases w <;> simp only [Width.bytes] at hx ⊢ <;> omega

theorem Target.lanePa_fits (t : Target) (big : Bool) (w : Width) : (t.lanePa big w).toNat % 16 + w.bytes ≤ 16 :=
  mod_add_bytes_le (laneAddr_mod big w t.pa) (.inl rfl)

theorem Target.lane_fits (t : Target) (big : Bool) (w : Width) : (t.lane big w).toNat + w.bytes ≤ 32 := by
  have hl : (t.lane big w).toNat = (laneAddr big w t.mva).toNat % 32 := by
    simp [Target.lane, field, BitVec.extractLsb'_toNat]
  rw [hl]
  exact mod_add_bytes_le (laneAddr_mod big w t.mva) (.inr rfl)

/-- The bytes of a line after a store into it. -/
theorem getElem_setLanes (data : LineData) (lane : BitVec 5) (v : Word) {n : Nat} (hfit : lane.toNat + n ≤ 32) (i : Fin 32) :
    (setLanes data lane v n)[i] =
      if lane.toNat ≤ i.val ∧ i.val < lane.toNat + n then byteOf v (i.val - lane.toNat) else data[i] := by
  induction n with
  | zero => rw [setLanes, if_neg (by omega)]
  | succ n ih =>
    have hset : (lane + BitVec.ofNat 5 n).toFin.val = lane.toNat + n := by
      show (lane + BitVec.ofNat 5 n).toNat = lane.toNat + n
      rw [BitVec.toNat_add, BitVec.toNat_ofNat]
      omega
    simp only [Fin.getElem_fin] at ih ⊢
    simp only [setLanes, Vector.getElem_set, hset, ih (by omega)]
    by_cases h : lane.toNat + n = i.val
    · rw [if_pos h, if_pos (by omega)]
      congr 1
      omega
    · rw [if_neg h]
      by_cases hin : lane.toNat ≤ i.val ∧ i.val < lane.toNat + n
      · rw [if_pos hin, if_pos (by omega)]
      · rw [if_neg hin, if_neg (by omega)]

/-! Lines. -/

/-- What a search of a list of slots finds is found again after a write to its slot. -/
theorem find?_sparsePut {α : Type} {p : Nat × α → Bool} {l : List (Nat × α)} {k : Nat} {d d' : α}
    (h : l.find? p = some (k, d)) (hp : p (k, d') = true) : (sparsePut l k d').find? p = some (k, d') := by
  induction l with
  | nil => cases h
  | cons x t ih =>
    rw [sparsePut]
    split
    · exact List.find?_cons_of_pos hp
    split
    · exact List.find?_cons_of_pos hp
    · rename_i hne
      by_cases hx : p x = true
      · rw [List.find?_cons_of_pos hx] at h
        cases h
        exact absurd rfl hne
      · rw [List.find?_cons_of_neg hx] at h
        exact (List.find?_cons_of_neg hx).trans (ih h)

/-- The line that a lookup finds is found again with other contents. -/
theorem findDline_put {ways : Nat} {l : BitVec 27} {lines : List (Nat × DLine)} {k : Nat} {d d' : DLine}
    (h : findDline ways l lines = some (k, d)) (hv : d'.valid = d.valid) (ht : d'.tag = d.tag) :
    findDline ways l (sparsePut lines k d') = some (k, d') := by
  have old := List.find?_some h
  exact find?_sparsePut h (by simpa only [hv, ht] using old)

theorem State.dataHit_congr {s t : State} (hd : t.dcache = s.dcache) (hm : t.miniDCache = s.miniDCache) (l : BitVec 27) :
    t.dataHit l = s.dataHit l := by
  rw [State.dataHit, State.dataHit, hd, hm]

theorem State.dataHit_putDline {s : State} {l : BitVec 27} {h : Hit} {d : DLine} (hit : s.dataHit l = some h)
    (hv : d.valid = h.line.valid) (ht : d.tag = h.line.tag) : (s.putDline h d).dataHit l = some { h with line := d } := by
  unfold State.dataHit at hit
  split at hit
  · rename_i k x found
    cases hit
    have put := findDline_put found hv ht
    simp only [State.dataHit, State.putDline, State.setDlines, State.dlines, Bool.false_eq_true, if_false, put]
  · rename_i missed
    obtain ⟨⟨k, x⟩, found, rfl⟩ := Option.map_eq_some_iff.mp hit
    have put := findDline_put found hv ht
    simp only [State.dataHit, State.putDline, State.setDlines, State.dlines, if_true, missed, put, Option.map_some]

/-- A write of a line, in a state that differs elsewhere. -/
theorem State.putDline_eq {s u : State} (hd : u.dcache = s.dcache) (hm : u.miniDCache = s.miniDCache) (h : Hit) (d : DLine) :
    u.putDline h d = { u with dcache := (s.putDline h d).dcache, miniDCache := (s.putDline h d).miniDCache } := by
  unfold State.putDline State.setDlines State.dlines
  rw [hd, hm]
  split
  · rw [← hd]
  · rw [← hm]

/-! Accesses that hit, with nothing outstanding. -/

theorem State.fence_empty {s : State} (hf : s.fillBuf = []) (hw : s.writeBuf = []) (t : Target) (write : Bool) :
    s.fence t write = s := by
  unfold State.fence
  rw [State.drainAll_empty hf hw, State.settleFills_empty hf, ite_self, ite_self]

theorem State.settleLine_empty {s : State} (hp : s.pendBuf = []) (l : BitVec 27) : s.settleLine l = s := by
  simp only [State.settleLine, hp, List.any_nil, Bool.false_eq_true, if_false]

theorem State.pendingFill_empty {s : State} (hf : s.fillBuf = []) (l : BitVec 27) : s.pendingFill l = none := by
  simp only [State.pendingFill, hf, List.find?_nil]

section

variable {s : State} {t : Target} {w : Width} {h : Hit}
variable (hattr : s.attributeError t = none) (hf : s.fillBuf = []) (hw : s.writeBuf = []) (hp : s.pendBuf = [])
variable (hit : s.dataHit (lineOf t.mva) = some h)

include hattr hf hw hp hit

/-- A load that hits reads the line (20_memory.md R207). -/
theorem State.loadAt_hit (hlock : s.lockingLoad t h = false)
    (hgood : h.line.badParity &&& laneMask (t.lane s.bigEndian w) w.bytes = 0) :
    s.loadAt t w = .ok (lineValue h.line.data (t.lane s.bigEndian w) w, s.count .dcacheAccess) := by
  have counted : (s.count .dcacheAccess).fillBuf = [] := hf
  have hit' : (s.count .dcacheAccess).dataHit (lineOf t.mva) = some h := hit
  have hlock' : (s.count .dcacheAccess).lockingLoad t h = false := hlock
  have hgood' : h.line.badParity &&& laneMask (t.lane (s.count .dcacheAccess).bigEndian w) w.bytes = 0 := hgood
  simp only [State.loadAt, hattr, State.fence_empty (s := s.count .dcacheAccess) hf hw, State.pendingFill_empty counted,
    State.settleLine_empty (s := s.count .dcacheAccess) hp, State.loadLookup, hit', hlock', Bool.false_eq_true, if_false,
    State.loadHit, hgood', if_true]
  rfl

/-- The state of a store before it accesses the caches. -/
theorem State.storeAt_hit (v : Word) :
    s.storeAt t w v = .ok (((s.noteStore t w).count .dcacheAccess).storeHit h t s.bigEndian w v) := by
  have noted : ((s.noteStore t w).count .dcacheAccess).fillBuf = [] := hf
  have hit' : ((s.noteStore t w).count .dcacheAccess).dataHit (lineOf t.mva) = some h := hit
  simp only [State.storeAt, hattr, State.fence_empty (s := (s.noteStore t w).count .dcacheAccess) hf hw,
    State.pendingFill_empty noted, State.settleLine_empty (s := (s.noteStore t w).count .dcacheAccess) hp, State.storeLookup,
    hit']
  rfl

end

/-! Stores to external memory, through an empty buffer or at once. -/

/-- What a store to external memory does where nothing is buffered: its bytes are seen by the data side and no other byte
changes, in memory at once where the page stalls, else in the write buffer. -/
structure StoreSeen (s u : State) (stalls : Bool) (pa v : Word) (n : Nat) : Prop where
  frame : u = { s with mem := u.mem, stale := u.stale, writeBuf := u.writeBuf }
  stored : ∀ i < n, u.dataByte (pa + BitVec.ofNat 32 i) = byteOf v i
  others : ∀ a, (∀ i < n, a ≠ pa + BitVec.ofNat 32 i) → u.dataByte a = s.dataByte a
  atOnce : stalls = true → u.writeBuf = []
  buffered : stalls = false → SameMemory s u ∧ u.writeBuf ≠ []

theorem State.dataByte_empty {s : State} (hw : s.writeBuf = []) (a : Word) : s.dataByte a = s.memByte a := by
  rw [State.dataByte_eq, hw, bufferedByte_nil, Option.getD_none]

/-- A store that does not go through the buffer, to memory that answers (20_memory.md R235). -/
theorem State.storeNow_memory {s : State} {pa : Word} (v : Word) {n : Nat} (answers : s.Answers .write pa n) :
    s.storeNow pa v n = s.storeBytes pa v n := by
  have memory : s.allMemory pa n = true := State.allMemory_of fun i hi => (answers i hi).1
  have noError : s.anyError .write pa n = false := State.anyError_of fun i hi => (answers i hi).2
  rw [State.storeNow, memory, noError]
  rfl

/-- What the data side sees of it. -/
theorem State.storeNow_seen {s : State} {pa : Word} (v : Word) {n : Nat} (hw : s.writeBuf = []) (hn : n ≤ 4)
    (hwf : Memory.wf s.mem = true) (answers : s.Answers .write pa n) : StoreSeen s (s.storeNow pa v n) true pa v n := by
  have eq := State.storeBytes_eq (s := s) (c := s) pa v n rfl
  have empty : (s.storeBytes pa v n).writeBuf = [] := by
    rw [eq]
    exact hw
  have byte (a : Word) : (s.storeBytes pa v n).memByte a = (s.putBytes pa v n).memByte a := by rw [eq]; rfl
  rw [State.storeNow_memory v answers]
  refine ⟨?frame, fun i hi => ?stored, fun a ha => ?others, fun _ => empty, nofun⟩
  case frame => rw [eq]
  case stored => rw [State.dataByte_empty empty, byte, State.putBytes_same pa v hn hi hwf]
  case others => rw [State.dataByte_empty empty, State.dataByte_empty hw, byte, State.putBytes_other s pa v n ha]

theorem State.bufferStore_empty {s : State} (hw : s.writeBuf = []) (pa v : Word) (n : Nat) (coalesces : Bool) :
    s.bufferStore pa v n coalesces = { s with writeBuf := [WriteEntry.ofStore pa v n coalesces] } := by
  simp [State.bufferStore, hw, joinNewest, State.appendWrite, State.makeRoom]

/-- A store that enters the empty buffer (20_memory.md R230). -/
theorem State.bufferStore_seen {s : State} {pa : Word} (v : Word) {n : Nat} (coalesces : Bool) (hw : s.writeBuf = [])
    (hfit : pa.toNat % 16 + n ≤ 16) : StoreSeen s (s.bufferStore pa v n coalesces) false pa v n := by
  have seen (a : Word) : ({ s with writeBuf := [WriteEntry.ofStore pa v n coalesces] } : State).dataByte a =
      (storedByte pa v n a).getD (s.memByte a) := by
    rw [State.dataByte_eq, bufferedByte_single, WriteEntry.byteAt_ofStore v coalesces hfit]
    rfl
  rw [State.bufferStore_empty hw]
  refine ⟨rfl, fun i hi => ?stored, fun a ha => ?others, nofun, fun _ => ⟨fun _ => rfl, List.cons_ne_nil _ _⟩⟩
  case stored => rw [seen, storedByte_of_lt v hfit hi, Option.getD_some]
  case others => rw [seen, storedByte_of_ne v hfit ha, Option.getD_none, State.dataByte_empty hw]

theorem Width.bytes_le_four (w : Width) : w.bytes ≤ 4 := by cases w <;> decide

theorem State.storeMemory_seen {s : State} {t : Target} {big : Bool} {w : Width} (v : Word) (hw : s.writeBuf = [])
    (hwf : Memory.wf s.mem = true) (answers : s.Answers .write (t.lanePa big w) w.bytes) :
    StoreSeen s (s.storeMemory t big w v) t.stalls (t.lanePa big w) v w.bytes := by
  unfold State.storeMemory
  cases t.stalls
  · exact State.bufferStore_seen v t.coalesces hw (t.lanePa_fits big w)
  · exact State.storeNow_seen v hw w.bytes_le_four hwf answers

/-- Settles O57: a load reads the line that hits, and a store writes that line and, where the page is not write-back, external
memory. -/
theorem dataCacheHits : Obligations.DataCacheHits := by
  intro s t w h v hattr hf hw hp hit lane pa
  -- the store notes its bytes and counts the access, and then accesses the line
  obtain ⟨n, hn⟩ : ∃ n, n = (s.noteStore t w).count .dcacheAccess := ⟨_, rfl⟩
  have stored : s.storeAt t w v = .ok (n.storeHit h t s.bigEndian w v) := by
    rw [hn]
    exact State.storeAt_hit hattr hf hw hp hit v
  have noted : n = { s with cp14 := n.cp14, storing := n.storing } := by rw [hn]; rfl
  have nhit : n.dataHit (lineOf t.mva) = some h := by rw [noted]; exact hit
  obtain ⟨d, hd⟩ : ∃ d, d = h.line.store lane v w.bytes (s.writesBack t) := ⟨_, rfl⟩
  have nput : n.putDline h d = { n with dcache := (s.putDline h d).dcache, miniDCache := (s.putDline h d).miniDCache } :=
    State.putDline_eq (by rw [noted]) (by rw [noted]) h d
  have found : (n.putDline h d).dataHit (lineOf t.mva) = some { h with line := d } :=
    State.dataHit_putDline nhit (by rw [hd]; rfl) (by rw [hd]; rfl)
  have bytes (i : Fin 32) : d.data[i] =
      if lane.toNat ≤ i.val ∧ i.val < lane.toNat + w.bytes then byteOf v (i.val - lane.toNat) else h.line.data[i] := by
    rw [hd]
    exact getElem_setLanes h.line.data lane v (t.lane_fits s.bigEndian w) i
  refine ⟨fun good unlocked => ?load, fun back => ?writeBack, fun through canonical answers => ?writeThrough⟩
  case load =>
    exact ⟨s.count .dcacheAccess, State.loadAt_hit hattr hf hw hp hit unlocked good, rfl, fun _ => rfl, rfl, rfl⟩
  case writeBack =>
    have line : n.storeHit h t s.bigEndian w v = n.putDline h d := by
      have back' : n.writesBack t = true := by rw [noted]; exact back
      rw [State.storeHit, back', hd, back]
      rfl
    refine ⟨n.putDline h d, d, stored.trans (by rw [line]), ?_, found, bytes, ?_, ?_, ?_⟩
    · rw [nput]
      have put := State.putDline_eq (s := s) (u := { s with cp14 := n.cp14, storing := n.storing }) rfl rfl h d
      rw [put]
      rw [noted]
    · rw [hd, back]
      rfl
    · rw [nput, noted]
      exact fun _ => rfl
    · rw [nput, noted]
  case writeThrough =>
    obtain ⟨u, hu⟩ : ∃ u, u = n.putDline h d := ⟨_, rfl⟩
    have frame : u = { s with
        cp14 := u.cp14, storing := u.storing, dcache := (s.putDline h d).dcache, miniDCache := (s.putDline h d).miniDCache } := by
      rw [hu, nput, noted]
    have line : n.storeHit h t s.bigEndian w v = u.storeMemory t s.bigEndian w v := by
      have through' : n.writesBack t = false := by rw [noted]; exact through
      rw [State.storeHit, through', hu, hd, through]
      rfl
    have seen : StoreSeen u (u.storeMemory t s.bigEndian w v) t.stalls pa v w.bytes := by
      refine State.storeMemory_seen v ?_ ?_ ?_
      · rw [frame]
        exact hw
      · rw [frame]
        exact canonical
      · rw [frame]
        exact answers
    have before (a : Word) : u.dataByte a = s.dataByte a := by rw [frame]; rfl
    refine ⟨u.storeMemory t s.bigEndian w v, d, stored.trans (by rw [line]), ?_, ?_, ?_, ?_, bytes, ?_, seen.stored,
      fun a ha => (seen.others a ha).trans (before a), seen.atOnce, fun hs => ?_⟩
    · rw [seen.frame, frame]
    · rw [← found, ← hu]
      exact State.dataHit_congr (by rw [seen.frame]) (by rw [seen.frame]) _
    · rw [seen.frame, frame]
    · rw [seen.frame, frame]
    · rw [hd, through]
      simp [DLine.store]
    · obtain ⟨same, some⟩ := seen.buffered hs
      exact ⟨fun a => (same a).trans (by rw [frame]; rfl), some⟩

end Sys2Proof.Machine
end

section
/-! PROOF. With the MMU off a fetch that no cache or buffer holds gives the word of memory at the PC (20_memory.md R151, R155,
R174, R188, R256). -/

namespace Sys2Proof.Machine

/-! The word of a line at an address. -/

/-- The word of an address. -/
theorem wordAddr_toNat (a : Word) : (a &&& 0xFFFFFFFC).toNat = a.toNat / 4 * 4 := by
  have mask : ∀ i < 32, (0xFFFFFFFC : Word).getLsbD i = decide (2 ≤ i) := by decide
  have split : a &&& (0xFFFFFFFC : Word) = ((a >>> 2) <<< 2 : Word) := by
    refine BitVec.eq_of_getLsbD_eq fun i hi => ?_
    rw [BitVec.getLsbD_and, mask i hi, BitVec.getLsbD_shiftLeft, BitVec.getLsbD_ushiftRight]
    by_cases low : i < 2
    · simp [low]
    · simp [hi, low, Nat.le_of_not_lt low, Nat.add_sub_of_le (Nat.le_of_not_lt low)]
  have ha := a.isLt
  rw [split, BitVec.toNat_shiftLeft, BitVec.toNat_ushiftRight, Nat.shiftRight_eq_div_pow, Nat.shiftLeft_eq]
  omega

theorem wordAddr_wordAddr (a : Word) : a &&& 0xFFFFFFFC &&& 0xFFFFFFFC = a &&& 0xFFFFFFFC := by
  rw [BitVec.and_assoc, BitVec.and_self]

/-- The address of a byte of a line. -/
theorem lineByte_toNat (l : BitVec 27) (n : BitVec 5) : (l ++ n : BitVec 32).toNat = l.toNat * 32 + n.toNat := by
  rw [BitVec.toNat_append, ← Nat.shiftLeft_add_eq_or_of_lt n.isLt, Nat.shiftLeft_eq]

theorem lineOf_toNat (a : Word) : (lineOf a).toNat = a.toNat / 32 := by
  have ha := a.isLt
  simp only [lineOf, field, BitVec.extractLsb'_toNat, Nat.shiftRight_eq_div_pow]
  omega

theorem lineOf_wordAddr (a : Word) : lineOf (a &&& 0xFFFFFFFC) = lineOf a := by
  rw [BitVec.toNat_eq, lineOf_toNat, lineOf_toNat, wordAddr_toNat]
  omega

theorem lineBase_add (l : BitVec 27) {i : Nat} (hi : i < 32) :
    (l ++ 0#5 : BitVec 32) + BitVec.ofNat 32 i = l ++ BitVec.ofNat 5 i := by
  have hl := l.isLt
  rw [BitVec.toNat_eq, BitVec.toNat_add, lineByte_toNat, lineByte_toNat]
  simp only [BitVec.toNat_ofNat]
  omega

/-- The lane of a byte of the word of an address. -/
theorem wordLane_toNat (a : Word) {i : Nat} (hi : i < 4) :
    ((field a 2 3 ++ 0#2 : BitVec 5) + BitVec.ofNat 5 i).toNat = a.toNat / 4 % 8 * 4 + i := by
  rw [BitVec.toNat_add, BitVec.toNat_append, ← Nat.shiftLeft_add_eq_or_of_lt (BitVec.isLt _), Nat.shiftLeft_eq]
  simp only [field, BitVec.extractLsb'_toNat, Nat.shiftRight_eq_div_pow, BitVec.toNat_ofNat]
  omega

theorem lineByte_wordLane (a : Word) {i : Nat} (hi : i < 4) :
    (lineOf a ++ ((field a 2 3 ++ 0#2 : BitVec 5) + BitVec.ofNat 5 i) : BitVec 32) = (a &&& 0xFFFFFFFC) + BitVec.ofNat 32 i := by
  have ha := a.isLt
  rw [BitVec.toNat_eq, lineByte_toNat, wordLane_toNat a hi, BitVec.toNat_add, lineOf_toNat, wordAddr_toNat, BitVec.toNat_ofNat]
  omega

/-- The word of a line whose bytes are those of the addresses of the line. -/
theorem lineWord_eq {data : LineData} {get : Word → Byte} {a : Word}
    (h : ∀ n : BitVec 5, data[n.toFin] = get (lineOf a ++ n)) :
    lineWord data a = gather .word (fun i => get ((a &&& 0xFFFFFFFC) + BitVec.ofNat 32 i)) := by
  have byte {i : Nat} (hi : i < 4) : data[((field a 2 3 ++ 0#2 : BitVec 5) + BitVec.ofNat 5 i).toFin] =
      get ((a &&& 0xFFFFFFFC) + BitVec.ofNat 32 i) := by
    rw [h, lineByte_wordLane a hi]
  unfold lineWord gather
  simp only [byte (i := 0) (by omega), byte (i := 1) (by omega), byte (i := 2) (by omega), byte (i := 3) (by omega)]

/-! A line that returns from the bus without an error. -/

/-- An error-free line has each of its words. -/
theorem State.goodWords_of_answers {s : State} {line : Word} (answers : s.Answers .fetch line 32) {n : Nat} (hn : n ≤ 8) :
    ∀ j < n, bitAt (s.goodWords line n) j = true := by
  induction n with
  | zero => exact fun j hj => absurd hj (Nat.not_lt_zero j)
  | succ n ih =>
    intro j hj
    have noError : s.anyError .fetch (line + BitVec.ofNat 32 (4 * n)) 4 = false := by
      refine State.anyError_of fun i hi => ?_
      rw [BitVec.add_assoc, ← BitVec.ofNat_add]
      exact (answers (4 * n + i) (by omega)).2
    rw [State.goodWords, noError, if_neg Bool.false_ne_true, bitAt, BitVec.getLsbD_or]
    by_cases last : j = n
    · have bit : (1#8 <<< n).getLsbD j = true := by
        rw [last, BitVec.getLsbD_shiftLeft, BitVec.getLsbD_one]
        simp
        omega
      rw [bit, Bool.or_true]
    · have earlier := ih (by omega) j (by omega)
      rw [bitAt] at earlier
      rw [earlier, Bool.true_or]

/-- What a fetch that fills a buffer or a line leaves as it is. -/
structure FetchFrame (s t : State) : Prop where
  eq : t = { s with cp14 := t.cp14, icache := t.icache, fetchBufs := t.fetchBufs }

/-- A miss gives the word of memory at the address where nothing answers the line with an error (20_memory.md R188, R256). -/
theorem State.fetchMiss_memory {s : State} {a pa : Word} (hline : lineOf pa = lineOf a) (cacheable : Bool)
    (answers : s.Answers .fetch (lineOf a ++ 0#5) 32) :
    ∃ s1, s.fetchMiss a pa cacheable = .ok (s.memWord (a &&& 0xFFFFFFFC)) s1 ∧ FetchFrame s s1 := by
  obtain ⟨n, hn⟩ : ∃ n, n = s.count .icacheMiss := ⟨_, rfl⟩
  have noted : n = { s with cp14 := n.cp14 } := by rw [hn]; rfl
  have answers' : n.Answers .fetch (lineOf a ++ 0#5) 32 := by rw [noted]; exact answers
  have read : n.busRead .fetch n.memByte (lineOf a ++ 0#5) 32 =
      { aborts := false, byte := fun i => n.memByte ((lineOf a ++ 0#5) + BitVec.ofNat 32 i), after := n } :=
    State.busRead_memory (State.allMemory_of fun i hi => (answers' i hi).1) (State.anyError_of fun i hi => (answers' i hi).2)
  have good : bitAt (n.goodWords (lineOf a ++ 0#5) 8) (field a 2 3).toNat = true :=
    State.goodWords_of_answers answers' (Nat.le_refl 8) _ (BitVec.isLt _)
  have word : lineWord (Vector.ofFn fun i : Fin 32 => n.memByte ((lineOf a ++ 0#5) + BitVec.ofNat 32 i.val)) a =
      s.memWord (a &&& 0xFFFFFFFC) := by
    refine (lineWord_eq (get := n.memByte) fun k => ?_).trans ?_
    · rw [Fin.getElem_fin, Vector.getElem_ofFn]
      show n.memByte ((lineOf a ++ 0#5) + BitVec.ofNat 32 k.toNat) = _
      rw [lineBase_add _ k.isLt, BitVec.ofNat_toNat, BitVec.setWidth_eq]
    · rw [noted]
      rfl
  simp only [State.fetchMiss, ← hn, hline, read, good, if_true, word]
  refine ⟨_, rfl, ⟨?_⟩⟩
  split <;> rw [noted] <;> rfl

/-! What else a fetch may give. -/

/-- Of words that are all the one that was read there is no choice. -/
theorem State.fetched_same {s : State} {w : Word} {others : List Word} (h : ∀ x ∈ others, x = w) :
    s.fetched w others = .ok w s := by
  have all : others.all (fun x => x == w) = true := List.all_eq_true.mpr fun x hx => beq_iff_eq.mpr (h x hx)
  simp only [State.fetched, State.chooseWord, all, if_true]

/-- No line is dirty. -/
theorem dirtyWords_clean {pa : Word} {lines : List (Nat × DLine)}
    (clean : ∀ e ∈ lines, e.2.dirtyLow = false ∧ e.2.dirtyHigh = false) : dirtyWords pa lines = [] := by
  have none_dirty : lines.filter (fun e =>
      e.2.valid && e.2.paLine == lineOf pa && (if bitAt pa 4 then e.2.dirtyHigh else e.2.dirtyLow)) = [] := by
    refine List.filter_eq_nil_iff.mpr fun e he => ?_
    obtain ⟨low, high⟩ := clean e he
    simp [low, high]
  rw [dirtyWords, none_dirty, List.map_nil]

section

variable {s : State} {a : Word}
variable (hp : s.pendBuf = []) (hw : s.writeBuf = []) (hs : s.stale = Stale.none)
variable (clean : ∀ e ∈ s.dcache.lines ++ s.miniDCache.lines, e.2.dirtyLow = false ∧ e.2.dirtyHigh = false)

include hs in
theorem State.memoryWords_new (pa : Word) : ∀ x ∈ s.memoryWords pa, x = s.memWord (pa &&& 0xFFFFFFFC) := by
  intro x hx
  simp only [State.memoryWords, State.oldWords, hs, Stale.none, sparseGet, Option.getD_none] at hx
  split at hx
  · exact List.mem_singleton.mp hx
  · cases hx

include hp hw clean in
/-- No store is on its way to memory. -/
theorem State.unwrittenWords_none (pa : Word) : ∀ x ∈ s.unwrittenWords pa, x = s.memWord (pa &&& 0xFFFFFFFC) := by
  intro x hx
  rw [State.unwrittenWords, dirtyWords_clean fun e he => clean e (List.mem_append_left _ he),
    dirtyWords_clean fun e he => clean e (List.mem_append_right _ he), hp, List.append_nil, overlay, List.mem_singleton] at hx
  rw [hx]
  refine lineWord_eq (get := s.memByte) fun k => ?_
  rw [State.readLine, Fin.getElem_fin, Vector.getElem_ofFn, State.dataByte_empty hw]
  show s.memByte (lineOf pa ++ BitVec.ofNat 5 k.toNat) = _
  rw [BitVec.ofNat_toNat, BitVec.setWidth_eq]

include hp hw hs clean in
/-- With nothing buffered, pended, dirty or known to be old, an address that no cache or fetch buffer holds has one content. -/
theorem State.otherWords_same (miss : s.instrHit a = none) :
    ∀ x ∈ s.otherWords a a, x = s.memWord (a &&& 0xFFFFFFFC) := by
  have buffers : s.bufferWords a = [] := by
    unfold State.instrHit at miss
    split at miss
    · cases miss
    split at miss
    · cases miss
    split at miss
    · cases miss
    rename_i first
    have second := Option.map_eq_none_iff.mp miss
    simp [State.bufferWords, first, second]
  have pids : s.oldMvas = [] := by
    rw [State.oldMvas, hs]
    exact ite_self _
  have mapped : ∀ x ∈ s.mappedWords a a, x = s.memWord (a &&& 0xFFFFFFFC) := by
    intro x hx
    simp only [State.mappedWords, hs, Stale.none, List.flatMap_nil, List.append_nil, List.mem_append] at hx
    rcases hx with memory | unwritten
    · refine State.memoryWords_new hs a x memory
    · split at unwritten
      · refine (State.unwrittenWords_none hp hw clean _ x unwritten).trans ?_
        rw [wordAddr_wordAddr]
      · cases unwritten
  intro x hx
  simp only [State.otherWords, buffers, miss, pids, Bool.false_eq_true, if_false, List.nil_append, List.flatMap_nil,
    List.append_nil] at hx
  exact mapped x hx

end

/-- Settles O6: the miss reads the line from memory, and there is nothing else that the fetch may give. -/
theorem fetchReadsMemory : Obligations.FetchReadsMemory := by
  intro s off miss hp hw hs clean answers
  obtain ⟨s1, read, frame⟩ := State.fetchMiss_memory rfl true answers
  have same := State.fetched_same (s := s1) (State.otherWords_same hp hw hs clean miss)
  refine ⟨s1, ?_, ?_, ?_, ?_⟩
  · simp only [State.fetchWord, off, Bool.false_and, Bool.false_eq_true, if_false, State.fetchAt, miss, read, same]
  · rw [frame.eq]
  · rw [frame.eq]
  · rw [frame.eq]
    exact fun _ => rfl

end Sys2Proof.Machine
end

section
/-! PROOF. A step whose fetch gives a word runs the instruction that the word decodes to (20_memory.md R151, 30_encoding.md R297,
60_exceptions.md R663). -/

namespace Sys2Proof.Machine

/-- What `State.quiet` says, part by part. -/
theorem State.quiet_iff (s : State) : s.quiet = true ↔
    s.inputs = [] ∧ s.midBus = [] ∧ s.executes = true ∧ s.legalMode = true ∧ s.vectorTrap = false ∧ s.dataBkptDue = false ∧
      s.pending.imprecise = none ∧ (s.breaksTaken && (s.pending.extBreak || s.pending.traceFull)) = false ∧
      s.fiqDue = false ∧ s.irqDue = false ∧ s.instrBkptDue = false := by
  simp only [State.quiet, Bool.and_eq_true, Bool.not_eq_true', List.isEmpty_iff, Option.isNone_iff_eq_none, and_assoc]

/-- A core that executes in a legal mode runs its boundary, whatever interrupts are asserted. -/
theorem State.proceed_of_executes {s : State} (running : s.executes = true) (legal : s.legalMode = true) :
    s.proceed = mapNext State.endStep s.runBoundary := by
  have parts : s.jtag.held = false ∧ s.power = .active := by simpa [State.executes] using running
  obtain ⟨held, active⟩ := parts
  have awake : s.wake = s := if_neg fun idle => by simp [active] at idle
  have mode : (Mode.ofBits (field s.core.cpsr 0 5)).isNone = false := by
    rw [← Option.not_isSome]
    exact congrArg (!·) legal
  simp only [State.proceed, held, Bool.false_eq_true, if_false, awake, running, Bool.not_true, mode]

/-- Nothing is due at a boundary without an event (60_exceptions.md R663). -/
theorem State.boundary_of_quiet {s : State} (quiet : s.quiet = true) : s.boundary = .run s := by
  obtain ⟨-, -, -, -, trap, bkpt, imprecise, breaks, fiq, irq, instr⟩ := s.quiet_iff.mp quiet
  have due : s.impreciseDue = none := by rw [State.impreciseDue, imprecise]
  have deferred : s.deferImprecise = s := by rw [State.deferImprecise, imprecise]
  obtain ⟨ext, full⟩ : (s.breaksTaken && s.pending.extBreak) = false ∧ (s.breaksTaken && s.pending.traceFull) = false := by
    rwa [Bool.and_or_distrib_left, Bool.or_eq_false_iff] at breaks
  have lower : s.lowerEvent = none := by
    simp only [State.lowerEvent, ext, full, fiq, irq, instr, Bool.false_eq_true, if_false]
  simp only [State.boundary, trap, bkpt, due, deferred, lower, Bool.false_eq_true, if_false]

/-- A step without inputs and without an exception at the boundary fetches and runs. -/
theorem step_of_quiet {s : State} (quiet : s.quiet = true) : step s = mapNext State.endStep s.runNext := by
  obtain ⟨inputs, bus, running, legal, -⟩ := s.quiet_iff.mp quiet
  have rest : s.busRest = s := by rw [State.busRest, bus]
  have popped : s.popInputs = .ok s := by simp only [State.popInputs, rest, inputs]
  have boundary : s.runBoundary = s.runNext := by rw [State.runBoundary, State.boundary_of_quiet quiet]
  rw [step, popped]
  exact (State.proceed_of_executes running legal).trans (by rw [boundary])

/-- A fetched word runs as the code that it is in the state of the T bit. -/
theorem step_of_fetch {s s1 : State} {w : Word} (quiet : s.quiet = true) (fetch : s.fetchWord = .ok w s1) :
    step s = mapNext State.endStep (s1.runCode (s1.codeOf w)) := by
  rw [step_of_quiet quiet, State.runNext, fetch]

/-- Settles O5: nothing is due at the boundary, and the code that was fetched is run, or refused for its use of R13. -/
theorem stepRunsDecodedInstruction : Obligations.StepRunsDecodedInstruction := by
  refine ⟨fun s s1 w i quiet fetch code _ fresh stack shadow => ?runs, fun s s1 w quiet fetch fresh stack => ?refused⟩
  case runs =>
    have settled : s1.settleShadow i = s1 := if_pos shadow
    rw [step_of_fetch quiet fetch, State.runCode, code, fresh, stack, settled]
    rfl
  case refused =>
    rw [step_of_fetch quiet fetch, State.runCode, fresh, stack]
    rfl

end Sys2Proof.Machine
end

section
/-! PROOF. The table walk, and how a TLB fills, locks, unlocks and invalidates its entries (20_memory.md R162-R168,
R177-R179). -/

namespace Sys2Proof.Machine

/-! Fields of words. -/

theorem field_toNat {n : Nat} (a : BitVec n) (lo len : Nat) : (field a lo len).toNat = a.toNat / 2 ^ lo % 2 ^ len := by
  rw [field, BitVec.extractLsb'_toNat, Nat.shiftRight_eq_div_pow]

/-- The high bits of a word. -/
theorem field_high_toNat {n k : Nat} (h : k + n = 32) (a : Word) : (field a n k).toNat = a.toNat / 2 ^ n := by
  have bound : a.toNat / 2 ^ n < 2 ^ k := by
    rw [Nat.div_lt_iff_lt_mul (Nat.two_pow_pos n), ← Nat.pow_add, h]
    exact a.isLt
  rw [field_toNat, Nat.mod_eq_of_lt bound]

/-- The high bits of one word before the low bits of another. -/
theorem high_low_toNat {n k : Nat} (h : k + n = 32) (a m : Word) :
    (field a n k ++ field m 0 n).toNat = a.toNat / 2 ^ n * 2 ^ n + m.toNat % 2 ^ n := by
  rw [BitVec.toNat_append, ← Nat.shiftLeft_add_eq_or_of_lt (BitVec.isLt _), Nat.shiftLeft_eq, field_high_toNat h, field_toNat,
    Nat.pow_zero, Nat.div_one]

theorem field_high_beq {n k : Nat} (h : k + n = 32) (a m : Word) :
    (field a n k == field m n k) = decide (m.toNat / 2 ^ n = a.toNat / 2 ^ n) := by
  rw [BEq.comm, beq_eq_decide, decide_eq_decide, BitVec.toNat_eq, field_high_toNat h, field_high_toNat h]

theorem field_field {n lo len i k : Nat} (a : BitVec n) (h : i + k ≤ len) : field (field a lo len) i k = field a (lo + i) k := by
  refine BitVec.eq_of_getLsbD_eq fun j hj => ?_
  simp only [field, BitVec.getLsbD_extractLsb', hj, decide_true, Bool.true_and, show i + j < len by omega, Nat.add_assoc]

/-! Entries. -/

/-- One access permission field stands for all four sub-pages. -/
theorem field_oneAp (ap : BitVec 2) {k : Nat} (hk : k < 4) : field (oneAp ap) (2 * k) 2 = ap := by
  have each : ∀ ap : BitVec 2, ∀ k < 4, field (oneAp ap) (2 * k) 2 = ap := by decide
  exact each ap k hk

/-- The number of bits of an offset in a region. -/
def PageSize.bits : PageSize → Nat
  | .section1M => 20
  | .large64K => 16
  | .small4K => 12
  | .tiny1K => 10

/-- The entry of a descriptor maps the region of the MVA to the base of the descriptor (20_memory.md R168). -/
theorem tlbEntry_maps (mva : Word) (size : PageSize) (d : Word) {aps : BitVec 8} (domain : BitVec 4) (x : Bool)
    {ap : Word → BitVec 2} (rights : ∀ m, (tlbEntry mva size d aps domain x).ap m = ap m) :
    (tlbEntry mva size d aps domain x).Maps size.bits mva d ap domain x (bitAt d 3) (bitAt d 2) where
  valid := rfl
  unlocked := rfl
  covers m := by
    cases size
    case section1M => exact field_high_beq (n := 20) rfl mva m
    case large64K => exact field_high_beq (n := 16) rfl mva m
    case small4K => exact field_high_beq (n := 12) rfl mva m
    case tiny1K => exact field_high_beq (n := 10) rfl mva m
  address m := by
    cases size
    case section1M => exact high_low_toNat (k := 12) rfl d m
    case large64K => exact high_low_toNat (k := 16) rfl d m
    case small4K => exact high_low_toNat (k := 20) rfl d m
    case tiny1K => exact high_low_toNat (k := 22) rfl d m
  rights := rights
  domain := rfl
  attributes := ⟨rfl, rfl, rfl⟩

/-- The rights of an entry with one access permission field. -/
theorem tlbEntry_ap_one (mva : Word) (size : PageSize) (d : Word) (ap : BitVec 2) (domain : BitVec 4) (x : Bool) (m : Word) :
    (tlbEntry mva size d (oneAp ap) domain x).ap m = ap := by
  cases size
  case section1M => exact field_oneAp ap (k := 0) (by decide)
  case large64K => exact field_oneAp ap (field m 14 2).isLt
  case small4K => exact field_oneAp ap (field m 10 2).isLt
  case tiny1K => exact field_oneAp ap (k := 0) (by decide)

/-- The rights of the sub-pages of a page (20_memory.md R167). -/
theorem field_subPage (d m : Word) (lo : Nat) :
    field (field d 4 8) (2 * (field m lo 2).toNat) 2 = field d (4 + 2 * (m.toNat / 2 ^ lo % 4)) 2 := by
  have hk := (field m lo 2).isLt
  rw [field_field d (by omega), field_toNat]
  rfl

/-! The table walk. -/

/-- An error answers the read of a descriptor. -/
theorem State.readDescriptor_error {s : State} {pa : Word} (h : s.anyError .walk pa 4 = true) :
    ∃ s1, s.readDescriptor pa = (none, s1) := by
  simp [State.readDescriptor, State.busRead, h]

/-- Memory answers the read of a descriptor. -/
theorem State.readDescriptor_memory {s : State} {pa : Word} (h : s.Answers .walk pa 4) :
    s.readDescriptor pa = (some (s.memWord pa), s) := by
  rw [State.readDescriptor, State.busRead_memory (State.allMemory_of fun i hi => (h i hi).1)
    (State.anyError_of fun i hi => (h i hi).2)]
  rfl

/-- The second level of a walk (20_memory.md R165-R167). -/
structure SecondLevel (s : State) (fine : Bool) (mva a : Word) (domain : BitVec 4) : Prop where
  abort : s.anyError .walk a 4 = true → ∃ s1, s.walkSecond fine mva a domain = .fault (.walkSecond domain) s1
  answer : s.Answers .walk a 4 →
    let d := s.memWord a
    let gives (n : Nat) (ap : Word → BitVec 2) (x : Bool) : Prop :=
      ∃ e, s.walkSecond fine mva a domain = .ok e s ∧ e.Maps n mva d ap domain x (bitAt d 3) (bitAt d 2)
    (field d 0 2 = 0 → s.walkSecond fine mva a domain = .fault (.translationPage domain) s) ∧
    (field d 0 2 = 1 → gives 16 (fun m => field d (4 + 2 * (m.toNat / 2 ^ 14 % 4)) 2) (bitAt d 12)) ∧
    (field d 0 2 = 2 → gives 12 (fun m => field d (4 + 2 * (m.toNat / 2 ^ 10 % 4)) 2) false) ∧
    (field d 0 2 = 3 → gives (if fine then 10 else 12) (fun _ => field d 4 2) (bitAt d 6))

theorem State.secondLevel_rules (s : State) (fine : Bool) (mva a : Word) (domain : BitVec 4) :
    SecondLevel s fine mva a domain := by
  refine ⟨fun error => ?_, fun answers => ?_⟩
  · obtain ⟨s1, read⟩ := State.readDescriptor_error error
    exact ⟨s1, by rw [State.walkSecond, read]⟩
  · have read : s.walkSecond fine mva a domain = s.secondLevel fine mva (s.memWord a) domain := by
      rw [State.walkSecond, State.readDescriptor_memory answers]
    simp only [read]
    refine ⟨fun kind => ?fault, fun kind => ?large, fun kind => ?small, fun kind => ?last⟩
    case fault =>
      rw [State.secondLevel, kind]
      rfl
    case large =>
      refine ⟨_, by rw [State.secondLevel, kind]; rfl, ?_⟩
      exact tlbEntry_maps mva .large64K _ domain _ fun m => field_subPage _ m 14
    case small =>
      refine ⟨_, by rw [State.secondLevel, kind]; rfl, ?_⟩
      exact tlbEntry_maps mva .small4K _ domain _ fun m => field_subPage _ m 10
    case last =>
      refine ⟨_, by rw [State.secondLevel, kind]; rfl, ?_⟩
      cases fine
      · exact tlbEntry_maps mva .small4K _ domain _ (tlbEntry_ap_one mva _ _ _ domain _)
      · exact tlbEntry_maps mva .tiny1K _ domain _ (tlbEntry_ap_one mva _ _ _ domain _)

/-! The TLBs. -/

theorem Tlb.lookup_isSome_iff (t : Tlb) (mva : Word) :
    (t.lookup mva).isSome = true ↔ ∃ i : Fin 32, t.entries[i].valid = true ∧ t.entries[i].covers mva = true := by
  simp only [Tlb.lookup, List.find?_isSome, Vector.mem_toList_iff, Vector.mem_iff_getElem, Bool.and_eq_true]
  constructor
  · rintro ⟨_, ⟨i, hi, rfl⟩, found⟩
    exact ⟨⟨i, hi⟩, found⟩
  · rintro ⟨i, found⟩
    exact ⟨_, ⟨i.val, i.isLt, rfl⟩, found⟩

theorem Tlb.lookup_eq_some {t : Tlb} {mva : Word} {e : TlbEntry} (h : t.lookup mva = some e) :
    ∃ i : Fin 32, t.entries[i] = e ∧ e.valid = true ∧ e.covers mva = true := by
  unfold Tlb.lookup at h
  have matching := Bool.and_eq_true_iff.mp (List.find?_some (p := fun x : TlbEntry => x.valid && x.covers mva) h)
  obtain ⟨i, hi, at_i⟩ := Vector.mem_iff_getElem.mp (Vector.mem_toList_iff.mp (List.mem_of_find?_eq_some h))
  exact ⟨⟨i, hi⟩, at_i, matching⟩

/-- Entry invalidation leaves no entry for the address (20_memory.md R179). -/
theorem Tlb.lookup_invalidateEntry (t : Tlb) (mva : Word) : (t.invalidateEntry mva).lookup mva = none := by
  rw [← Option.not_isSome_iff_eq_none, Tlb.lookup_isSome_iff]
  rintro ⟨i, valid, covers⟩
  simp only [Tlb.invalidateEntry, Fin.getElem_fin, Vector.getElem_map] at valid covers
  split at valid
  · cases valid
  · rename_i other
    rw [if_neg other] at covers
    exact other covers

/-- The round-robin pointer is at or above the lock pointer (20_memory.md R177, R178). -/
def Tlb.PointersOrdered (t : Tlb) : Prop := t.lk.toNat ≤ t.rr.toNat

theorem Tlb.PointersOrdered.fill {t : Tlb} (h : t.PointersOrdered) (e : TlbEntry) : (t.fill e).PointersOrdered := by
  unfold Tlb.PointersOrdered at h ⊢
  simp only [Tlb.fill]
  split
  · exact Nat.le_refl _
  · rename_i last
    have hr := t.rr.isLt
    have hne : t.rr.toNat ≠ 31 := fun k => last (BitVec.eq_of_toNat_eq k)
    have next : (t.rr + 1).toNat = (t.rr.toNat + 1) % 32 := BitVec.toNat_add t.rr 1
    show t.lk.toNat ≤ (t.rr + 1).toNat
    omega

theorem Tlb.lock_rr (t : Tlb) (e : TlbEntry) : (t.lock e).rr = 31 := by
  unfold Tlb.lock
  split <;> rfl

/-- After a lock the round-robin pointer is at the last entry. -/
theorem Tlb.PointersOrdered.lock (t : Tlb) (e : TlbEntry) : (t.lock e).PointersOrdered := by
  rw [Tlb.PointersOrdered, Tlb.lock_rr]
  exact Nat.le_of_lt_succ (BitVec.isLt _)

theorem Tlb.lock_last {t : Tlb} (h : t.lk = 31) (e : TlbEntry) :
    t.lock e = { t with entries := t.entries.set 31 e, rr := 31 } := if_pos h

theorem Tlb.lock_lower {t : Tlb} (h : t.lk ≠ 31) (e : TlbEntry) :
    t.lock e = { entries := t.entries.set t.lk.toFin { e with locked := true }, lk := t.lk + 1, rr := 31 } := if_neg h

/-- An entry that is written. -/
theorem getElem_set_same (v : Vector TlbEntry 32) (i : Fin 32) (e : TlbEntry) : (v.set i e)[i] = e :=
  Vector.getElem_set_self i.isLt

theorem getElem_set_other (v : Vector TlbEntry 32) {i j : Fin 32} (e : TlbEntry) (h : j ≠ i) : (v.set i e)[j] = v[j] :=
  Vector.getElem_set_ne i.isLt j.isLt fun k => h (Fin.ext k.symm)

/-- Settles O56: the first level of a walk, its second level, and the entries and pointers of a TLB. -/
theorem tlbRules : Obligations.TlbRules := by
  refine ⟨fun s mva => ?walk, fun t e mva => ?tlb⟩
  case walk =>
    intro a1 d1 domain a2 d2 gives
    refine ⟨fun error => ?abort, fun answers => ?first⟩
    case abort =>
      obtain ⟨s1, read⟩ := State.readDescriptor_error error
      exact ⟨s1, by rw [State.walk, read]⟩
    case first =>
      have first : s.walk mva = s.firstLevel mva d1 := by rw [State.walk, State.readDescriptor_memory answers]
      refine ⟨fun kind => ?fault, fun kind => ?sect, fun kind => ?second⟩
      case fault =>
        rw [first, State.firstLevel, kind]
        rfl
      case sect =>
        refine ⟨_, first.trans (by rw [State.firstLevel, kind]; rfl), ?_⟩
        exact tlbEntry_maps mva .section1M d1 domain _ (tlbEntry_ap_one mva _ d1 _ domain _)
      case second =>
        rcases kind with kind | kind
        · have coarse : s.walk mva = s.walkSecond false mva a2 domain := by
            rw [first]
            simp only [a2, State.firstLevel, kind, if_true]
            rfl
          obtain ⟨abort, answer⟩ := State.secondLevel_rules s false mva a2 domain
          rw [← coarse] at abort answer
          simp only [gives, kind, if_true]
          exact ⟨abort, answer⟩
        · have fine : s.walk mva = s.walkSecond true mva a2 domain := by
            rw [first]
            simp only [a2, State.firstLevel, kind]
            rfl
          obtain ⟨abort, answer⟩ := State.secondLevel_rules s true mva a2 domain
          rw [← fine] at abort answer
          simp only [gives, kind]
          exact ⟨abort, answer⟩
  case tlb =>
    refine ⟨getElem_set_same _ _ e, rfl, fun i hi => getElem_set_other _ e hi, fun hl => ?lockLower, fun hl => ?lockLast,
      Tlb.lock_rr t e, fun i hi => ?lockOthers, fun ordered => ?pointers, fun i => ?invalidate,
      Tlb.lookup_invalidateEntry t mva, Tlb.lookup_isSome_iff t mva, fun x => Tlb.lookup_eq_some, fun i => ?unlock, rfl⟩
    case lockLower =>
      have lower : t.lk ≠ 31 := fun k => absurd hl (by rw [k]; decide)
      rw [Tlb.lock_lower lower]
      exact ⟨getElem_set_same _ _ _, rfl⟩
    case lockLast =>
      rw [Tlb.lock_last hl]
      exact ⟨getElem_set_same _ 31 e, hl⟩
    case lockOthers =>
      by_cases hl : t.lk = 31
      · rw [Tlb.lock_last hl]
        exact getElem_set_other (i := 31) _ e (by rw [hl] at hi; exact hi)
      · rw [Tlb.lock_lower hl]
        exact getElem_set_other _ _ hi
    case pointers =>
      have kept : t.PointersOrdered := ordered
      simp only [List.forall_mem_cons, List.not_mem_nil, false_implies, implies_true, and_true]
      exact ⟨kept.fill e, Tlb.PointersOrdered.lock t e, Nat.zero_le _, kept, kept⟩
    case invalidate =>
      simp only [Tlb.invalidate, Fin.getElem_fin, Vector.getElem_map]
      cases (t.entries[i.val]).locked <;> simp
    case unlock =>
      simp only [Tlb.unlock, Fin.getElem_fin, Vector.getElem_map, and_self]

end Sys2Proof.Machine
end

section
/-! PROOF. Domains and permissions decide an access, LDRT and STRT as User mode; LDR and STR through the MMU (20_memory.md R150,
R162, R168-R170, 44_arm_load_store.md R499). -/

namespace Sys2Proof.Machine

/-! The checks (20_memory.md R169, R170). -/

theorem State.checkAccess_manager {s : State} {e : TlbEntry} (h : s.domainField e.domain = 3) (mva : Word) (p write : Bool) :
    s.checkAccess e mva p write = .ok none := by
  rw [State.checkAccess, h]
  rfl

theorem State.checkAccess_noAccess {s : State} {e : TlbEntry} (h : s.domainField e.domain = 0 ∨ s.domainField e.domain = 2)
    (mva : Word) (p write : Bool) : s.checkAccess e mva p write = .ok (some e.domainFault) := by
  rcases h with h | h <;> rw [State.checkAccess, h] <;> rfl

/-- A client domain allows what the permission table allows. -/
theorem State.checkAccess_client {s : State} {e : TlbEntry} (h : s.domainField e.domain = 1) {mva : Word} {p write b : Bool}
    (row : apAllows (e.ap mva) (bitAt s.cp15.control 8) (bitAt s.cp15.control 9) p write = some b) :
    s.checkAccess e mva p write = .ok (if b then none else some e.permissionFault) := by
  rw [State.checkAccess, h, row]
  cases b <;> rfl

theorem State.checkAccess_reserved {s : State} {e : TlbEntry} (h : s.domainField e.domain = 1) {mva : Word} {p write : Bool}
    (row : apAllows (e.ap mva) (bitAt s.cp15.control 8) (bitAt s.cp15.control 9) p write = none) :
    s.checkAccess e mva p write = .error .reservedPermission := by
  rw [State.checkAccess, h, row]
  rfl

/-! Accesses through a TLB entry (20_memory.md R150, R162). -/

/-- The target of an access through an entry. -/
def TlbEntry.target (e : TlbEntry) (mva : Word) : Target := { mva := mva, pa := e.pa mva, x := e.x, c := e.c, b := e.b }

section

variable {s : State} {va : Word} {w : Width} {p write : Bool} {e : TlbEntry}
variable (on : s.mmuOn = true) (aligned : s.alignChecked = false ∨ misaligned w va = false)
variable (held : s.dtlb.lookup (s.mva va) = some e)

include on aligned held

theorem State.translateData_held :
    (s.checkAccess e (s.mva va) p write = .ok none →
      s.translateData (s.mva va) w p write = .ok (e.target (s.mva va)) s) ∧
    (∀ c, s.checkAccess e (s.mva va) p write = .ok (some c) →
      s.translateData (s.mva va) w p write = .abort { cause := c, mva := s.mva va } s) := by
  have noFault : (s.alignChecked && misaligned w (s.mva va)) = false := by
    rw [State.misaligned_mva, Bool.and_eq_false_iff]
    exact aligned
  have found : s.translate .data (s.mva va) = .ok e s := by rw [State.translate, State.tlb, held]
  refine ⟨fun allowed => ?_, fun c denied => ?_⟩
  · rw [State.translateData, noFault, on, State.translateChecked, found]
    simp only [allowed, Bool.false_eq_true, if_false, if_true]
    rfl
  · rw [State.translateData, noFault, on, State.translateChecked, found]
    simp only [denied, Bool.false_eq_true, if_false, if_true]

/-- Steps 1 to 4 of an access whose entry the TLB holds: the checks decide whether it goes on or aborts. -/
theorem State.prepare_held :
    (s.checkAccess e (s.mva va) p write = .ok none →
      s.prepare va w p write = .ok (e.target (s.mva va)) (s.noteAccess w (s.mva va) write)) ∧
    (∀ c, s.checkAccess e (s.mva va) p write = .ok (some c) →
      s.prepare va w p write = .abort { cause := c, mva := s.mva va } (s.noteAccess w (s.mva va) write)) := by
  obtain ⟨n, hn⟩ : ∃ n, n = s.noteAccess w (s.mva va) write := ⟨_, rfl⟩
  have noted : OnlyNoted s n := by rw [hn]; exact .noteAccess s w (s.mva va) write
  have mva : n.mva va = s.mva va := noted.mva va
  have checks : n.checkAccess e (s.mva va) p write = s.checkAccess e (s.mva va) p write := by rw [noted.eq]; rfl
  have path := State.translateData_held (s := n) (va := va) (w := w) (p := p) (write := write) (e := e)
    (by rw [noted.eq]; exact on) (by rw [noted.eq]; exact aligned) (by rw [mva, noted.eq]; exact held)
  rw [mva, checks] at path
  rw [State.prepare, ← hn]
  exact path

end

/-! Precise data aborts (60_exceptions.md R675). -/

/-- What an exception leaves depends on the core registers, Control, memory and the BTB before it. -/
theorem ExceptionAfter.of_same {s u t : State} {m : Mode} {setF : Bool} {vector link : Word}
    (h : ExceptionAfter u t m setF vector link) (core : u.core = s.core) (control : u.cp15.control = s.cp15.control)
    (mem : u.mem = s.mem) (btb : u.btb = s.btb) : ExceptionAfter s t m setF vector link where
  pc := by rw [h.pc, control]
  regs := ⟨h.regs.written, by rw [← core]; exact h.regs.others⟩
  saved := by rw [h.saved, core]
  otherSaved m' hm := by rw [h.otherSaved m' hm, State.spsrOf, State.spsrOf, core]
  mode := h.mode
  thumb := h.thumb
  fiqMask := by rw [h.fiqMask, core]
  irqMask := h.irqMask
  flags := by rw [h.flags, core]
  accumulator := by rw [h.accumulator, core]
  memory a := by rw [h.memory a, State.memByte, State.memByte, mem]
  predictor := by rw [h.predictor, btb]

theorem ExceptionAfter.takeDataAbort (s : State) (a : AbortInfo) (counted : Bool) :
    ExceptionAfter s (s.takeDataAbort a counted) .abt false 0x10 (s.core.pc + 8) := by
  have taken (u : State) := ExceptionAfter.takeException u (m := .abt) false 0x10 (s.core.pc + 8) rfl
  cases counted
  · exact (taken _).of_same rfl rfl rfl rfl
  · exact (taken _).of_same (State.traceInstr_core _) ((congrArg Cp15.control (State.traceInstr_cp15 _)).trans rfl)
      (State.traceInstr_mem _) (State.traceInstr_btb _)

/-- An access that is denied, of an instruction that is not in Special Debug State. -/
theorem ExceptionAfter.abortSingle {s u : State} (noted : OnlyNoted s u) (sds : s.sds = false) (a : AbortInfo) (counted : Bool)
    (rn : Reg) (newBase : Option Word) (regs : BitVec 16) :
    ∃ t, u.abortSingle a counted rn newBase regs = .next t ∧ ExceptionAfter s t .abt false 0x10 (s.core.pc + 8) := by
  have off : u.sds = false := by rw [noted.eq]; exact sds
  have link : u.core.pc = s.core.pc := by rw [noted.core]
  have taken := ExceptionAfter.takeDataAbort u a counted
  rw [link] at taken
  refine ⟨_, by rw [State.abortSingle, off, if_neg Bool.false_ne_true], ?_⟩
  exact taken.of_same noted.core (by rw [noted.eq]) noted.mem noted.btb

/-! A word through an entry, on a page that is neither cached nor buffered (20_memory.md R150, R168, R235). -/

section

variable {s : State} {t : Target} {w : Width}
variable (plain : t.x = false ∧ t.c = false ∧ t.b = false)
variable (hf : s.fillBuf = []) (hw : s.writeBuf = []) (hp : s.pendBuf = []) (miss : s.dataHit (lineOf t.mva) = none)

include plain hf hw hp miss

/-- A load that misses and goes to memory. -/
theorem State.loadAt_plain (answers : s.Answers .read (t.lanePa s.bigEndian w) w.bytes) :
    s.loadAt t w = .ok (gather w fun i => s.memByte (t.lanePa s.bigEndian w + BitVec.ofNat 32 i),
      (s.count .dcacheAccess).count .dcacheMiss) := by
  obtain ⟨hx, hc, hb⟩ := plain
  obtain ⟨n, hn⟩ : ∃ n, n = s.count .dcacheAccess := ⟨_, rfl⟩
  obtain ⟨m, hm⟩ : ∃ m, m = n.count .dcacheMiss := ⟨_, rfl⟩
  have frame : m = { s with cp14 := m.cp14 } := by rw [hm, hn]; rfl
  have noError : s.attributeError t = none := by simp [State.attributeError, Target.isMini, hx, hc]
  have stalls : t.stalls = true := by simp [Target.stalls, hx, hc, hb]
  have uncached : m.cacheable t = false := by simp [State.cacheable, hc]
  have answers' : m.Answers .read (t.lanePa s.bigEndian w) w.bytes := by rw [frame]; exact answers
  have read : m.busRead .read m.dataByte (t.lanePa s.bigEndian w) w.bytes =
      { aborts := false, byte := fun i => m.dataByte (t.lanePa s.bigEndian w + BitVec.ofNat 32 i), after := m } :=
    State.busRead_memory (State.allMemory_of fun i hi => (answers' i hi).1) (State.anyError_of fun i hi => (answers' i hi).2)
  have byte (a : Word) : m.dataByte a = s.memByte a := by
    rw [State.dataByte_empty (by rw [frame]; exact hw), frame]
    rfl
  have big : m.bigEndian = s.bigEndian := by rw [frame]; rfl
  have nf : n.fillBuf = [] := by rw [hn]; exact hf
  have nmiss : n.dataHit (lineOf t.mva) = none := by rw [hn]; exact miss
  have fence : n.fence t false = n := State.fence_empty nf (by rw [hn]; exact hw) t false
  have settle : n.settleLine (lineOf t.mva) = n := State.settleLine_empty (by rw [hn]; exact hp) _
  simp only [State.loadAt, noError, ← hn, fence, State.pendingFill_empty nf, settle, State.loadLookup, nmiss, ← hm,
    State.loadMiss, uncached, Bool.false_eq_true, if_false, State.loadMemory, stalls, if_true, State.readNow, read, byte, big]

/-- A store that misses and goes to memory at once. -/
theorem State.storeAt_plain (v : Word) (answers : s.Answers .write (t.lanePa s.bigEndian w) w.bytes) :
    s.storeAt t w v = .ok ((((s.noteStore t w).count .dcacheAccess).count .dcacheMiss).storeBytes (t.lanePa s.bigEndian w) v
      w.bytes) := by
  obtain ⟨hx, hc, hb⟩ := plain
  obtain ⟨n, hn⟩ : ∃ n, n = (s.noteStore t w).count .dcacheAccess := ⟨_, rfl⟩
  obtain ⟨m, hm⟩ : ∃ m, m = n.count .dcacheMiss := ⟨_, rfl⟩
  have frame : m = { s with cp14 := m.cp14, storing := m.storing } := by rw [hm, hn]; rfl
  have noError : s.attributeError t = none := by simp [State.attributeError, Target.isMini, hx, hc]
  have stalls : t.stalls = true := by simp [Target.stalls, hx, hc, hb]
  have uncached : m.cacheable t = false := by simp [State.cacheable, hc]
  have big : m.bigEndian = s.bigEndian := by rw [frame]; rfl
  have now : m.storeNow (t.lanePa s.bigEndian w) v w.bytes = m.storeBytes (t.lanePa s.bigEndian w) v w.bytes :=
    State.storeNow_memory v (by rw [frame]; exact answers)
  have nf : n.fillBuf = [] := by rw [hn]; exact hf
  have nmiss : n.dataHit (lineOf t.mva) = none := by rw [hn]; exact miss
  have fence : n.fence t true = n := State.fence_empty nf (by rw [hn]; exact hw) t true
  have settle : n.settleLine (lineOf t.mva) = n := State.settleLine_empty (by rw [hn]; exact hp) _
  simp only [State.storeAt, noError, ← hn, fence, State.pendingFill_empty nf, settle, State.storeLookup, nmiss, ← hm,
    State.storeMiss, uncached, Bool.false_and, Bool.false_eq_true, if_false, State.storeMemory, stalls, if_true, big, now]

end

/-- The low bits of an address go through every entry as they are (20_memory.md R168). -/
theorem TlbEntry.pa_mod_four (e : TlbEntry) (mva : Word) : (e.pa mva).toNat % 4 = mva.toNat % 4 := by
  unfold TlbEntry.pa
  split
  · have split := high_low_toNat (n := 20) (k := 12) rfl e.base mva
    omega
  · have split := high_low_toNat (n := 16) (k := 16) rfl e.base mva
    omega
  · have split := high_low_toNat (n := 12) (k := 20) rfl e.base mva
    omega
  · have split := high_low_toNat (n := 10) (k := 22) rfl e.base mva
    omega

theorem misaligned_word_iff (a : Word) : misaligned .word a = false ↔ a.toNat % 4 = 0 := by
  rw [misaligned, bne_eq_false_iff_eq, BitVec.toNat_eq, field_toNat, Nat.pow_zero, Nat.div_one]
  rfl

namespace State.Paged

variable {s : State} {va : Word} {e : TlbEntry}

theorem word_aligned {write : Bool} (h : s.Paged va e write) : misaligned .word va = false :=
  (misaligned_word_iff va).mpr h.aligned

/-- The word lies at the physical address of the entry itself. -/
theorem lane {write : Bool} (h : s.Paged va e write) (big : Bool) :
    (e.target (s.mva va)).lanePa big .word = e.pa (s.mva va) := by
  have low : (s.mva va).toNat % 4 = 0 := by
    rw [← misaligned_word_iff, State.misaligned_mva]
    exact h.word_aligned
  have pa : (e.pa (s.mva va)).toNat % 4 = 0 := (e.pa_mod_four _).trans low
  refine BitVec.eq_of_toNat_eq ((wordAddr_toNat (e.pa (s.mva va))).trans ?_)
  omega

/-- `MemRead` through an entry: the word of memory at its physical address, and nothing else but what it notes. -/
theorem memRead (h : s.Paged va e false) :
    ∃ s1, s.memRead va .word s.privileged =
        .ok (gather .word fun i => s.memByte (e.pa (s.mva va) + BitVec.ofNat 32 i)) s1 ∧ OnlyNoted s s1 := by
  have noted := OnlyNoted.noteAccess s .word (s.mva va) false
  obtain ⟨n, hn⟩ : ∃ n, n = s.noteAccess .word (s.mva va) false := ⟨_, rfl⟩
  rw [← hn] at noted
  have prepared := (State.prepare_held h.mmuOn (.inr h.word_aligned) h.held).1 h.allowed
  have read := State.loadAt_plain (s := n) (t := e.target (s.mva va)) (w := .word) h.plain (by rw [noted.eq]; exact h.noFill)
    (by rw [noted.eq]; exact h.noWrite) (by rw [noted.eq]; exact h.noPend) (by rw [noted.eq]; exact h.noLine)
    (by rw [h.lane, noted.eq]; exact h.answers)
  have byte (a : Word) : n.memByte a = s.memByte a := by rw [noted.eq]; rfl
  simp only [h.lane, byte] at read
  refine ⟨(n.count .dcacheAccess).count .dcacheMiss, ?_, noted.trans ⟨rfl, (SameElsewhere.count n _).trans (.count _ _)⟩⟩
  simp only [State.memRead, prepared, ← hn, read]

/-- `MemWrite` through an entry: the bytes of memory at its physical address are put, and nothing else changes but what it
notes. -/
theorem memWrite (h : s.Paged va e true) (v : Word) :
    ∃ s1, s.memWrite va .word v s.privileged = .ok () s1 ∧ SameElsewhere s s1 ∧
      s1 = { s with
        mem := (s.putBytes (e.pa (s.mva va)) v 4).mem
        cp14 := s1.cp14
        pending := s1.pending
        stale := s1.stale
        storing := s1.storing } := by
  have noted := OnlyNoted.noteAccess s .word (s.mva va) true
  obtain ⟨n, hn⟩ : ∃ n, n = s.noteAccess .word (s.mva va) true := ⟨_, rfl⟩
  rw [← hn] at noted
  have prepared := (State.prepare_held h.mmuOn (.inr h.word_aligned) h.held).1 h.allowed
  have stored := State.storeAt_plain (s := n) (t := e.target (s.mva va)) (w := .word) h.plain (by rw [noted.eq]; exact h.noFill)
    (by rw [noted.eq]; exact h.noWrite) (by rw [noted.eq]; exact h.noPend) (by rw [noted.eq]; exact h.noLine) v
    (by rw [h.lane, noted.eq]; exact h.answers)
  rw [h.lane] at stored
  obtain ⟨k, hk⟩ : ∃ k, k = ((n.noteStore (e.target (s.mva va)) .word).count .dcacheAccess).count .dcacheMiss := ⟨_, rfl⟩
  rw [← hk] at stored
  have counted : SameElsewhere s k := by
    rw [hk]
    exact ((noted.elsewhere.trans (.noteStore n _ _)).trans (.count _ _)).trans (.count _ _)
  have frame : k = { s with cp14 := k.cp14, pending := k.pending, storing := k.storing } := by
    rw [hk, noted.eq]
    rfl
  have put := State.storeBytes_eq (s := s) (c := k) (e.pa (s.mva va)) v 4 (by rw [frame])
  refine ⟨k.storeBytes (e.pa (s.mva va)) v 4, ?_, counted.trans (.storeBytes k _ v 4), ?_⟩
  · simp only [State.memWrite, prepared, ← hn, stored]
    rfl
  · rw [put, frame]

end State.Paged

/-! LDR, STR, LDRT and STRT (44_arm_load_store.md R495, R497, R499). -/

/-- A loaded word is not rotated where its address is aligned (20_memory.md R157). -/
theorem rotateRead_aligned {va : Word} (h : va.toNat % 4 = 0) (v : Word) : rotateRead va v = v := by
  have low : field va 0 2 = 0 := beq_iff_eq.mp (by simpa [misaligned] using (misaligned_word_iff va).mpr h)
  rw [rotateRead, low]
  refine BitVec.eq_of_getLsbD_eq fun i hi => ?_
  simp [hi]

/-- The registers after a load of one that is not the PC, and the end of the instruction. -/
theorem Loads.setReg {s s1 : State} (noted : OnlyNoted s s1) (hn : s.hasNext) {rd : Reg} (hd : rd ≠ 15) (v : Word) :
    Loads (s1.setReg rd v).advance s s.mode [(rd, v)] := by
  have mode : s1.mode = s.mode := by rw [State.mode, State.mode, noted.core]
  have done := State.advance_at (u := s1.setReg rd v) hn (by rw [State.setReg_pc, noted.core])
    (by rw [State.thumb, State.thumb, State.setReg_cpsr, noted.core])
  rw [State.setReg_of_ne v hd, mode] at done ⊢
  refine ⟨_, done, ?_⟩
  have frame : (s1.setBankedReg s.mode rd v).setPc s.nextPc =
      { s with
        cp14 := s1.cp14
        pending := s1.pending
        core := { s.core with regs := s.core.regs.set (physReg s.mode rd).toFin v, pc := s.nextPc } } := by
    rw [noted.eq]
    rfl
  have elsewhere : SameElsewhere s ((s1.setBankedReg s.mode rd v).setPc s.nextPc) := noted.elsewhere.trans (.here s1 _ _ _)
  rw [frame] at elsewhere ⊢
  refine ⟨.one ?_, ?_, ?_, ?_, ?_, fun a => ?_, ?_, ?_, ?_, elsewhere.trans (.traceInstr _)⟩
  all_goals simp [State.memByte]

/-- A load of mode 2 of a register that is not the PC. -/
theorem State.load2_good {s : State} {c : Cond} {ix : Indexing} {u : Bool} {rn rd : Reg} {off : Offset2} (w : Width)
    (p pcAllowed : Bool) (conv : Word → Word → Word) (hc : s.passed c = true) (hd : rd ≠ 15) (noPc : off.namesPc = false)
    (base : badBase ix rn rd = false) : s.load2 c ix u rn rd off w p pcAllowed conv =
      s.loadSingle (s.address2 ix u rn off) rn rd w p (conv (s.address2 ix u rn off).va) := by
  have notPc : (rd == 15) = false := beq_eq_false_iff_ne.mpr hd
  simp only [State.load2, hc, noPc, base, notPc, if_true, Bool.or_self, Bool.false_and, Bool.false_eq_true, if_false]

/-- A store of mode 2 of a register that is not the PC. -/
theorem State.store2_good {s : State} {c : Cond} {ix : Indexing} {u : Bool} {rn rd : Reg} {off : Offset2} (w : Width)
    (p pcAllowed : Bool) (hc : s.passed c = true) (hd : rd ≠ 15) (noPc : off.namesPc = false)
    (base : badBase ix rn rd = false) : s.store2 c ix u rn rd off w p pcAllowed =
      s.storeSingle (s.address2 ix u rn off) rn w p (s.reg rd) := by
  have notPc : (rd == 15) = false := beq_eq_false_iff_ne.mpr hd
  simp only [State.store2, hc, noPc, base, notPc, if_true, Bool.or_self, Bool.false_and, Bool.false_eq_true, if_false,
    State.storeReg, if_neg hd]

/-- A single transfer whose access is denied, outside Special Debug State. -/
theorem ExceptionAfter.loadSingle {s u : State} {a : Address} {rn rd : Reg} {w : Width} {p : Bool} {i : AbortInfo}
    (conv : Word → Word) (noted : OnlyNoted s u) (sds : s.sds = false) (denied : s.prepare a.va w p false = .abort i u) :
    ∃ t, s.loadSingle a rn rd w p conv = .next t ∧ ExceptionAfter s t .abt false 0x10 (s.core.pc + 8) := by
  simp only [State.loadSingle, State.memRead, denied]
  exact ExceptionAfter.abortSingle noted sds i _ rn _ _

theorem ExceptionAfter.storeSingle {s u : State} {a : Address} {rn : Reg} {w : Width} {p : Bool} {i : AbortInfo} (v : Word)
    (noted : OnlyNoted s u) (sds : s.sds = false) (denied : s.prepare a.va w p true = .abort i u) :
    ∃ t, s.storeSingle a rn w p v = .next t ∧ ExceptionAfter s t .abt false 0x10 (s.core.pc + 8) := by
  simp only [State.storeSingle, State.memWrite, denied]
  exact ExceptionAfter.abortSingle noted sds i _ rn _ _

/-- The end of a store of a word through an entry. -/
theorem State.advance_stored {s s1 : State} {pa v : Word} (hn : s.hasNext) (canonical : Memory.wf s.mem = true)
    (elsewhere : SameElsewhere s s1)
    (frame : s1 = { s with
      mem := (s.putBytes pa v 4).mem, cp14 := s1.cp14, pending := s1.pending, stale := s1.stale, storing := s1.storing }) :
    ∃ t, s1.advance = .next t ∧ t.core = { s.core with pc := s.nextPc } ∧
      (∀ i < 4, t.memByte (pa + BitVec.ofNat 32 i) = byteOf v i) ∧
      (∀ a, (∀ i < 4, a ≠ pa + BitVec.ofNat 32 i) → t.memByte a = s.memByte a) ∧ t.btb = s.btb ∧ SameElsewhere s t := by
  have core : s1.core = s.core := by rw [frame]
  have byte (a : Word) : (s1.setPc s.nextPc).traceInstr.memByte a = (s.putBytes pa v 4).memByte a := by
    rw [State.memByte, State.traceInstr_mem, State.setPc_mem, frame]
    rfl
  refine ⟨_, State.advance_at hn (by rw [core]) (by rw [State.thumb, State.thumb, core]), ?_, fun i hi => ?_, fun a ha => ?_,
    ?_, (elsewhere.trans (.here s1 _ s1.mem s1.btb)).trans (.traceInstr _)⟩
  · rw [State.traceInstr_core, State.setPc, core]
  · rw [byte, State.putBytes_same pa v (Nat.le_refl 4) hi canonical]
  · rw [byte, State.putBytes_other s pa v 4 ha]
  · rw [State.traceInstr_btb, State.setPc_btb, frame]

/-- Settles O55: the table, the abort of an access with the rights of User mode, and the accesses that an entry allows. -/
theorem accessRights : Obligations.AccessRights := by
  refine ⟨fun s e mva privileged write => ?table,
    fun s c u rn rd off e hc sds hm hd hn hne noPc on unchecked held client ap => ?user, fun s c u rn rd off e => ?paged⟩
  case table =>
    intro d sBit rBit allowed
    refine ⟨fun h => State.checkAccess_manager h mva _ _, fun h => State.checkAccess_noAccess h mva _ _, fun client => ?_⟩
    have row {b : Bool} (h : apAllows (e.ap mva) sBit rBit privileged write = some b) : allowed b :=
      State.checkAccess_client client h
    refine ⟨fun ap => row ?_, fun ap => row ?_, fun ap => row ?_, fun ap => ⟨fun hs hr => row ?_, fun hs hr => row ?_,
      fun hs hr => row ?_, fun hs hr => State.checkAccess_reserved client ?_⟩⟩
    · rw [ap]; rfl
    · rw [ap]; rfl
    · rw [ap]; rfl
    · rw [ap, hs, hr]; rfl
    · rw [ap, hs, hr]; rfl
    · rw [ap, hs, hr]; rfl
    · show apAllows (e.ap mva) sBit rBit privileged write = none
      rw [ap, hs, hr]; rfl
  case user =>
    have rights (p write : Bool) : s.checkAccess e (s.mva (s.reg rn)) p write = .ok (if p then none else some e.permissionFault) :=
      State.checkAccess_client client (by rw [ap]; rfl)
    have base : badBase .postIndexed rn rd = false := by
      rw [badBase, beq_eq_false_iff_ne.mpr hn, beq_eq_false_iff_ne.mpr hne]
      rfl
    have denied (write : Bool) :=
      (State.prepare_held (w := .word) (p := false) (write := write) on (.inl unchecked) held).2 _ (rights false write)
    have noted (write : Bool) := OnlyNoted.noteAccess s .word (s.mva (s.reg rn)) write
    refine ⟨?ldrt, ?strt, ?privileged⟩
    case ldrt =>
      have run : exec (.ldrt c u rn rd off) s = _ := State.load2_good .word false false rotateRead hc hd noPc base
      rw [run]
      exact ExceptionAfter.loadSingle _ (noted false) sds (denied false)
    case strt =>
      have run : exec (.strt c u rn rd off) s = _ := State.store2_good .word false true hc hd noPc base
      rw [run]
      exact ExceptionAfter.storeSingle _ (noted true) sds (denied true)
    case privileged =>
      rw [State.privileged_of_ne hm]
      exact rights true false
  case paged =>
    intro va pa hc notDbg hd noPc hn
    refine ⟨fun h => ?ldr, fun h canonical => ?str⟩
    case ldr =>
      obtain ⟨s1, read, noted⟩ := h.memRead
      have dbg : (s.passed c && s.mode == .dbg && (rd == 15 || off.isRrx)) = false := by simp [notDbg]
      have run : exec (.ldr c .offset u rn rd off) s = _ :=
        (if_neg (by rw [dbg]; exact Bool.false_ne_true)).trans (State.load2_good .word s.privileged true rotateRead hc hd noPc rfl)
      have loaded := Loads.setReg noted hn hd (gather .word fun i => s.memByte (pa + BitVec.ofNat 32 i))
      have read' : s.memRead (s.address2 .offset u rn off).va .word s.privileged = _ := read
      have plain : rotateRead (s.address2 .offset u rn off).va = id := funext (rotateRead_aligned h.aligned)
      rw [run, State.loadSingle, read', plain]
      simp only [if_neg hd]
      exact loaded
    case str =>
      obtain ⟨s1, stored, elsewhere, frame⟩ := h.memWrite (s.reg rd)
      have run : exec (.str c .offset u rn rd off) s = _ := State.store2_good .word s.privileged true hc hd noPc rfl
      have stored' : s.memWrite (s.address2 .offset u rn off).va .word (s.reg rd) s.privileged = _ := stored
      rw [run, State.storeSingle, stored']
      exact State.advance_stored hn canonical elsewhere frame

end Sys2Proof.Machine
end

section
/-! PROOF. The fields of a code: a code is what its adjacent fields spell, and a field of a code that is spelled out is the part
that stands there (30_encoding.md R280). -/

namespace Sys2Proof

/-! Codes from their fields. -/

/-- Two adjacent fields spell the field that they make up. -/
theorem append_eq_bits {a b n lo : Nat} {x : BitVec a} {y : BitVec b} {w : BitVec n} (hx : x = bits w (lo + b) a)
    (hy : y = bits w lo b) : x ++ y = bits w lo (a + b) := by
  subst hx hy
  exact BitVec.extractLsb'_append_extractLsb'_eq_extractLsb' rfl

theorem arm_eq {v w : Word} (h : v = bits w 0 32) : Code.arm v = .arm w := by rw [h, bits, BitVec.extractLsb'_eq_self]

theorem thumb_eq {v h : Half} (e : v = bits h 0 16) : Code.thumb v = .thumb h := by
  rw [e, bits, BitVec.extractLsb'_eq_self]

/-- A field of one bit. -/
theorem bits_one {n i : Nat} {w : BitVec n} {b : Bool} (h : bit w i = b) : bits w i 1 = ofBool b := by
  subst h
  ext j hj
  obtain rfl : j = 0 := by omega
  simp

theorem bits_bits {n i l j k : Nat} {w : BitVec n} (h : j + k ≤ l) : bits (bits w i l) j k = bits w (i + j) k := by
  ext m hm
  simp only [BitVec.getElem_extractLsb', BitVec.getLsbD_extractLsb', show j + m < l by omega, decide_true, Bool.true_and,
    Nat.add_assoc]

theorem bit_bits {n i l j : Nat} {w : BitVec n} (h : j < l) : bit (bits w i l) j = bit w (i + j) := by
  simp only [BitVec.getLsbD_extractLsb', h, decide_true, Bool.true_and]

/-! Fields of a code that is spelled out. -/

theorem bits_append_cross {a b lo len : Nat} {x : BitVec a} {y : BitVec b} (h : lo < b) (h' : b < lo + len) :
    (x ++ y).extractLsb' lo len = (x.extractLsb' 0 (len - (b - lo)) ++ y.extractLsb' lo (b - lo)).setWidth len := by
  ext i hi
  simp only [BitVec.getElem_extractLsb', BitVec.getLsbD_append, BitVec.getElem_setWidth, BitVec.getLsbD_extractLsb']
  by_cases hb : lo + i < b
  · simp [hb, show i < b - lo by omega]
  · simp only [hb, show ¬ i < b - lo by omega, if_false, show i - (b - lo) < len - (b - lo) by omega, decide_true, Bool.true_and]
    congr 1
    omega

/-- What is read of a code that is spelled out: a field that lies in one part is a field of that part, and a field across two
parts is spelled by what it takes of each. -/
theorem read_append {a b : Nat} {x : BitVec a} {y : BitVec b} :
    (∀ lo len, lo + len ≤ b → (x ++ y).extractLsb' lo len = y.extractLsb' lo len) ∧
    (∀ lo len, b ≤ lo → (x ++ y).extractLsb' lo len = x.extractLsb' (lo - b) len) ∧
    (∀ lo len, lo < b → b < lo + len →
      (x ++ y).extractLsb' lo len = (x.extractLsb' 0 (len - (b - lo)) ++ y.extractLsb' lo (b - lo)).setWidth len) ∧
    (∀ i, i < b → (x ++ y).getLsbD i = y.getLsbD i) ∧ (∀ i, b ≤ i → (x ++ y).getLsbD i = x.getLsbD (i - b)) := by
  refine ⟨fun _ _ => BitVec.extractLsb'_append_eq_of_add_le, fun _ _ => BitVec.extractLsb'_append_eq_of_le,
    fun _ _ => bits_append_cross, fun i h => ?_, fun i h => ?_⟩
  · rw [BitVec.getLsbD_append, if_pos h]
  · rw [BitVec.getLsbD_append, if_neg (by omega)]

theorem getLsbD_ofBool (b : Bool) : (ofBool b).getLsbD 0 = b := by cases b <;> rfl

/-! The small codes inside an instruction (30_encoding.md R281, R284, R286, R288-R290). -/

@[simp] theorem Cond.ofBits_bits (c : Cond) : Cond.ofBits c.bits = some c := by cases c <;> rfl

/-- No condition has the code 0b1111 (R281). -/
theorem Cond.bits_ne (c : Cond) : c.bits ≠ 15 := by cases c <;> decide

theorem Cond.bits_of_ofBits {b : BitVec 4} {c : Cond} (h : Cond.ofBits b = some c) : b = c.bits := by
  revert c
  revert b
  decide

theorem Cond.bits_of_ofBits_none {b : BitVec 4} (h : Cond.ofBits b = none) : b = 15 := by
  revert b
  decide

@[simp] theorem ShiftKind.ofBits_bits (k : ShiftKind) : ShiftKind.ofBits k.bits = k := by cases k <;> rfl

@[simp] theorem ShiftKind.bits_ofBits (b : BitVec 2) : (ShiftKind.ofBits b).bits = b := by
  revert b
  decide

theorem HalfSel.bit_ofBit (b : Bool) : (HalfSel.ofBit b).bit = ofBool b := by cases b <;> rfl

end Sys2Proof
end

section
/-! PROOF. Every ARM word is the code of the instruction that it decodes to (30_encoding.md R297): the format of the encoder that
an instruction has, and then the decoder, space by space. -/

namespace Sys2Proof

section

variable {c : Cond} {w : Word}

/-! The operands. -/

theorem iBit_decodeShifter (w : Word) : (decodeShifter w).iBit = bits w 25 1 := by
  unfold decodeShifter
  split
  case h_1 h => exact (bits_one h).symm
  case h_2 h _ => exact (bits_one h).symm
  case h_3 h _ => exact (bits_one h).symm

theorem bits_decodeShifter (h7 : bit w 25 = false → bit w 4 = true → bit w 7 = false) :
    (decodeShifter w).bits = bits w 0 12 := by
  unfold decodeShifter
  split
  case h_1 => exact append_eq_bits rfl rfl
  case h_2 h4 =>
    exact append_eq_bits (append_eq_bits (append_eq_bits rfl (ShiftKind.bits_ofBits _)) (bits_one h4).symm) rfl
  case h_3 h25 h4 =>
    exact append_eq_bits (append_eq_bits (append_eq_bits (append_eq_bits rfl (bits_one (h7 h25 h4)).symm)
      (ShiftKind.bits_ofBits _)) (bits_one h4).symm) rfl

theorem iBit_decodeOffset2 (w : Word) : (decodeOffset2 w).iBit = bits w 25 1 := by
  unfold decodeOffset2
  split <;> exact (bits_one ‹bit w 25 = _›).symm

theorem bits_decodeOffset2 {b4 : BitVec 1} (h4 : bit w 25 = true → bits w 4 1 = b4) :
    (decodeOffset2 w).bits b4 = bits w 0 12 := by
  unfold decodeOffset2
  split
  case h_1 => rfl
  case h_2 h =>
    exact append_eq_bits (append_eq_bits (append_eq_bits rfl (ShiftKind.bits_ofBits _)) (h4 h).symm) rfl

theorem decodeOffset3_fields (w : Word) : (decodeOffset3 w).iBit = bits w 22 1 ∧ (decodeOffset3 w).hi = bits w 8 4 ∧
    (decodeOffset3 w).lo = bits w 0 4 := by
  unfold decodeOffset3
  split
  case h_1 h =>
    refine ⟨(bits_one h).symm, ?_, ?_⟩
    · exact (read_append.2.1 4 4 (Nat.le_refl 4)).trans BitVec.extractLsb'_eq_self
    · exact (read_append.1 0 4 (Nat.le_refl 4)).trans BitVec.extractLsb'_eq_self
  case h_2 h => exact ⟨(bits_one h).symm, rfl, rfl⟩

theorem decodeIndexing_bits (w : Word) : (decodeIndexing w).pBit = bits w 24 1 ∧ (decodeIndexing w).wBit = bits w 21 1 := by
  unfold decodeIndexing
  split <;> rw [bits_one ‹bit w 24 = _›, bits_one ‹bit w 21 = _›] <;> exact ⟨rfl, rfl⟩

theorem puBits_decodeBlockMode (w : Word) : (decodeBlockMode w).puBits = bits w 23 2 := by
  unfold decodeBlockMode
  split <;> exact append_eq_bits (bits_one ‹bit w 24 = _›).symm (bits_one ‹bit w 23 = _›).symm

/-! The formats: a word whose fields are those of a format is the word of the format. -/

theorem encodeDp_eq {op : BitVec 4} {s : Bool} (h28 : bits w 28 4 = c.bits) (h26 : bits w 26 2 = 0) (h21 : bits w 21 4 = op)
    (h20 : bit w 20 = s) (h7 : bit w 25 = false → bit w 4 = true → bit w 7 = false) :
    encodeDp c op s (bits w 16 4) (bits w 12 4) (decodeShifter w) = .arm w := by
  refine arm_eq ?_
  iterate 7 refine append_eq_bits ?_ ?_
  exacts [h28.symm, h26.symm, iBit_decodeShifter w, h21.symm, (bits_one h20).symm, rfl, rfl, bits_decodeShifter h7]

theorem encodeLs_eq {ix : Indexing} {b l : Bool} (h28 : bits w 28 4 = c.bits) (h26 : bits w 26 2 = 1)
    (hix : decodeIndexing w = ix) (h22 : bit w 22 = b) (h20 : bit w 20 = l) (h4 : bit w 25 = true → bit w 4 = false) :
    encodeLs c ix (bit w 23) (ofBool b) (ofBool l) (bits w 16 4) (bits w 12 4) (decodeOffset2 w) = .arm w := by
  subst hix
  obtain ⟨hp, hw⟩ := decodeIndexing_bits w
  refine arm_eq ?_
  iterate 10 refine append_eq_bits ?_ ?_
  exacts [h28.symm, h26.symm, iBit_decodeOffset2 w, hp, (bits_one rfl).symm, (bits_one h22).symm, hw, (bits_one h20).symm,
    rfl, rfl, bits_decodeOffset2 fun h => bits_one (h4 h)]

theorem encodeExtra_eq {l : Bool} {sh : BitVec 2} (h28 : bits w 28 4 = c.bits) (h25 : bits w 25 3 = 0) (h20 : bit w 20 = l)
    (h7 : bit w 7 = true) (h5 : bits w 5 2 = sh) (h4 : bit w 4 = true) :
    encodeExtra c (decodeIndexing w) (bit w 23) (ofBool l) sh (bits w 16 4) (bits w 12 4) (decodeOffset3 w) = .arm w := by
  obtain ⟨hp, hw⟩ := decodeIndexing_bits w
  obtain ⟨hi, hhi, hlo⟩ := decodeOffset3_fields w
  refine arm_eq ?_
  iterate 13 refine append_eq_bits ?_ ?_
  exacts [h28.symm, h25.symm, hp, (bits_one rfl).symm, hi, hw, (bits_one h20).symm, rfl, rfl, hhi, (bits_one h7).symm, h5.symm,
    (bits_one h4).symm, hlo]

theorem encodeBlock_eq {s l : Bool} {list : BitVec 16} (h28 : bits w 28 4 = c.bits) (h25 : bits w 25 3 = 4)
    (h22 : bit w 22 = s) (h20 : bit w 20 = l) (h0 : list = bits w 0 16) :
    encodeBlock c (decodeBlockMode w) (ofBool s) (bit w 21) (ofBool l) (bits w 16 4) list = .arm w := by
  refine arm_eq ?_
  iterate 7 refine append_eq_bits ?_ ?_
  exacts [h28.symm, h25.symm, puBits_decodeBlockMode w, (bits_one h22).symm, (bits_one rfl).symm, (bits_one h20).symm, rfl, h0]

theorem encodeMul_eq {op : BitVec 7} {s : Bool} {rs : Reg} (h28 : bits w 28 4 = c.bits) (h21 : bits w 21 7 = op)
    (h20 : bit w 20 = s) (h8 : bits w 8 4 = rs) (h4 : bits w 4 4 = 9) :
    encodeMul c op s (bits w 16 4) (bits w 12 4) rs (bits w 0 4) = .arm w := by
  refine arm_eq ?_
  iterate 7 refine append_eq_bits ?_ ?_
  exacts [h28.symm, h21.symm, (bits_one h20).symm, rfl, rfl, h8.symm, h4.symm, rfl]

theorem encodeHalfMul_eq {op : BitVec 2} {y x : BitVec 1} (h28 : bits w 28 4 = c.bits) (h23 : bits w 23 5 = 2)
    (h21 : bits w 21 2 = op) (h20 : bit w 20 = false) (h7 : bit w 7 = true) (h6 : bits w 6 1 = y) (h5 : bits w 5 1 = x)
    (h4 : bit w 4 = false) :
    encodeHalfMul c op (bits w 16 4) (bits w 12 4) (bits w 8 4) y x (bits w 0 4) = .arm w := by
  refine arm_eq ?_
  iterate 11 refine append_eq_bits ?_ ?_
  exacts [h28.symm, h23.symm, h21.symm, (bits_one h20).symm, rfl, rfl, rfl, (bits_one h7).symm, h6.symm, h5.symm,
    (bits_one h4).symm, rfl]

theorem encodeSat_eq {op : BitVec 2} (h28 : bits w 28 4 = c.bits) (h23 : bits w 23 5 = 2) (h21 : bits w 21 2 = op)
    (h20 : bit w 20 = false) (h8 : bits w 8 4 = 0) (h4 : bits w 4 4 = 5) :
    encodeSat c op (bits w 16 4) (bits w 12 4) (bits w 0 4) = .arm w := by
  refine arm_eq ?_
  iterate 7 refine append_eq_bits ?_ ?_
  exacts [h28.symm, h23.symm, h21.symm, (bits_one h20).symm, rfl, rfl, append_eq_bits h8.symm h4.symm, rfl]

theorem encodeCp_eq {op1 op2 : BitVec 3} {l : Bool} {crn cp crm : BitVec 4} (h28 : bits w 28 4 = c.bits)
    (h24 : bits w 24 4 = 14) (h21 : bits w 21 3 = op1) (h20 : bit w 20 = l) (h16 : bits w 16 4 = crn) (h8 : bits w 8 4 = cp)
    (h5 : bits w 5 3 = op2) (h4 : bit w 4 = true) (h0 : bits w 0 4 = crm) :
    encodeCp c op1 (ofBool l) crn (bits w 12 4) cp op2 crm = .arm w := by
  refine arm_eq ?_
  iterate 9 refine append_eq_bits ?_ ?_
  exacts [h28.symm, h24.symm, h21.symm, (bits_one h20).symm, h16.symm, rfl, h8.symm, h5.symm, (bits_one h4).symm, h0.symm]

theorem encodeMia_eq {op3 : Reg} (h28 : bits w 28 4 = c.bits) (h24 : bits w 24 4 = 14) (h20 : bits w 20 4 = 2)
    (h16 : bits w 16 4 = op3) (h8 : bits w 8 4 = 0) (h4 : bits w 4 4 = 1) :
    encodeMia c op3 (bits w 12 4) (bits w 0 4) = .arm w := by
  refine arm_eq ?_
  iterate 5 refine append_eq_bits ?_ ?_
  exacts [h28.symm, append_eq_bits h24.symm h20.symm, h16.symm, rfl, append_eq_bits h8.symm h4.symm, rfl]

theorem encodeCp2_eq {l : Bool} {cp op crm : BitVec 4} (h28 : bits w 28 4 = c.bits) (h25 : bits w 25 3 = 6)
    (h21 : bits w 21 4 = 2) (h20 : bit w 20 = l) (h8 : bits w 8 4 = cp) (h4 : bits w 4 4 = op) (h0 : bits w 0 4 = crm) :
    encodeCp2 c (ofBool l) (bits w 16 4) (bits w 12 4) cp op crm = .arm w := by
  refine arm_eq ?_
  iterate 7 refine append_eq_bits ?_ ?_
  exacts [h28.symm, append_eq_bits h25.symm h21.symm, (bits_one h20).symm, rfl, rfl, h8.symm, h4.symm, h0.symm]

theorem encodeCpMem_eq {l : Bool} {cp : BitVec 4} (h28 : bits w 28 4 = c.bits) (h25 : bits w 25 3 = 6) (h20 : bit w 20 = l)
    (h8 : bits w 8 4 = cp) :
    encodeCpMem c (bit w 24) (bit w 23) (bit w 22) (bit w 21) (ofBool l) (bits w 16 4) (bits w 12 4) cp (bits w 0 8) =
      .arm w := by
  refine arm_eq ?_
  iterate 10 refine append_eq_bits ?_ ?_
  exacts [h28.symm, h25.symm, (bits_one rfl).symm, (bits_one rfl).symm, (bits_one rfl).symm, (bits_one rfl).symm,
    (bits_one h20).symm, rfl, rfl, h8.symm, rfl]

/-- A word of a row without fields of its own below the condition. -/
theorem encodeLow_eq (h28 : bits w 28 4 = c.bits) : Code.arm (c.bits ++ bits w 0 28) = .arm w :=
  arm_eq (append_eq_bits h28.symm rfl)

end
end Sys2Proof
end

section
/-! PROOF. The rows of the opcode table (30_encoding.md R297, R301): when a code matches a row, and which row is the first. -/

namespace Sys2Proof

/-- A code agrees with a row, (match, mask), on the bits of the mask. -/
def matchesRow {n : Nat} (w : BitVec n) (r : BitVec n × BitVec n) : Bool := w &&& r.2 == r.1

/-- What a row asks of a field of the code. -/
def rowField {n : Nat} (lo len : Nat) (r : BitVec n × BitVec n) : BitVec len × BitVec len := (bits r.1 lo len, bits r.2 lo len)

section

variable {n : Nat} {rows : List (BitVec n × BitVec n)} {w : BitVec n} {r : BitVec n × BitVec n} {k : Nat}

/-! The first row. -/

/-- The first row that a code matches is the row that it matches and no row before it. -/
theorem firstRow_eq (hk : rows[k]? = some r) (hr : matchesRow w r = true) (h : ∀ q ∈ rows.take k, matchesRow w q = false) :
    firstRow rows w = k := by
  obtain ⟨hlt, rfl⟩ := List.getElem?_eq_some_iff.mp hk
  refine (List.findIdx_eq hlt).mpr ⟨hr, fun j hj => h _ ?_⟩
  exact List.mem_take_iff_getElem.mpr ⟨j, by omega, rfl⟩

theorem firstRow_le (hk : rows[k]? = some r) (hr : matchesRow w r = true) : firstRow rows w ≤ k := by
  obtain ⟨hlt, rfl⟩ := List.getElem?_eq_some_iff.mp hk
  by_contra hgt
  exact Bool.eq_false_iff.mp (List.not_of_lt_findIdx (Nat.lt_of_not_le hgt)) hr

theorem matchesRow_of_firstRow (h : firstRow rows w = k) (hk : rows[k]? = some r) : matchesRow w r = true := by
  obtain ⟨hlt, rfl⟩ := List.getElem?_eq_some_iff.mp hk
  exact ((List.findIdx_eq hlt).mp h).1

/-! The fields of a row. -/

/-- A field of a code that matches a row matches that field of the row. -/
theorem matchesRow_bits (lo len : Nat) (h : matchesRow w r = true) : matchesRow (bits w lo len) (rowField lo len r) = true := by
  have e : w &&& r.2 = r.1 := beq_iff_eq.mp h
  rw [matchesRow, beq_iff_eq, rowField, ← e, bits, bits, bits, BitVec.extractLsb'_and]

/-- A field that a row fixes. -/
theorem bits_of_matchesRow {lo len : Nat} {v : BitVec len} (h : matchesRow w r = true)
    (hr : rowField lo len r = (v, BitVec.allOnes len)) : bits w lo len = v := by
  have e := matchesRow_bits lo len h
  rw [hr, matchesRow, BitVec.and_allOnes] at e
  exact beq_iff_eq.mp e

/-- A row is matched by its parts. -/
theorem matchesRow_append {a b : Nat} (x : BitVec a) (y : BitVec b) (r : BitVec (a + b) × BitVec (a + b)) :
    matchesRow (x ++ y) r = (matchesRow x (rowField b a r) && matchesRow y (rowField 0 b r)) := by
  have parts (v : BitVec (a + b)) : v = bits v b a ++ bits v 0 b :=
    BitVec.extractLsb'_eq_self.symm.trans (append_eq_bits (lo := 0) (by rw [Nat.zero_add]) rfl).symm
  rw [Bool.eq_iff_iff, Bool.and_eq_true]
  constructor
  · intro h
    have hx := matchesRow_bits b a h
    have hy := matchesRow_bits 0 b h
    rw [bits, read_append.2.1 b a (Nat.le_refl b), Nat.sub_self, BitVec.extractLsb'_eq_self] at hx
    rw [bits, read_append.1 0 b (Nat.le_of_eq (Nat.zero_add b)), BitVec.extractLsb'_eq_self] at hy
    exact ⟨hx, hy⟩
  · rintro ⟨hx, hy⟩
    rw [matchesRow, beq_iff_eq] at hx hy ⊢
    rw [parts r.2, BitVec.and_append, parts r.1]
    exact congrArg₂ (· ++ ·) hx hy

/-- A bit that a row fixes. -/
theorem bit_of_matchesRow {i : Nat} (h : matchesRow w r = true) (hr : bit r.2 i = true) : bit w i = bit r.1 i := by
  have e : w &&& r.2 = r.1 := beq_iff_eq.mp h
  rw [← e, bit, bit, BitVec.getLsbD_and, show r.2.getLsbD i = true from hr, Bool.and_true]

end

end Sys2Proof
end

section
/-! PROOF. Which rows of the opcode table the words of a decoding space can match (30_encoding.md R297): the rows of the
miscellaneous space and of the multiplies, and what the decoder answers for a word of one of them. -/

namespace Sys2Proof
section

variable {c : Cond} {w : Word} {r : Word × Word}

/-- A conditional word matches no row of the unconditional space. -/
theorem cond_of_matchesRow (h28 : bits w 28 4 = c.bits) (h : matchesRow w r = true) : (bits r.1 28 4 != 15) = true := by
  have all_ones : ∀ b m : BitVec 4, matchesRow b (15, m) = true → b = 15 := by decide
  refine bne_iff_ne.mpr fun e => ?_
  have k := matchesRow_bits 28 4 h
  rw [rowField, e, h28] at k
  exact c.bits_ne (all_ones _ _ k)

/-- The bits of a row are bits of the words that match it. -/
theorem bit_of_bit_row {i : Nat} (h : matchesRow w r = true) (hi : bit r.1 i = true) : bit w i = true := by
  have e : w &&& r.2 = r.1 := beq_iff_eq.mp h
  rw [← e, bit, BitVec.getLsbD_and, Bool.and_eq_true] at hi
  exact hi.1

/-- The rows of the miscellaneous space: [27:23] = 00010, [20] = 0, and not [7] = [4] = 1 (R286). -/
def miscRows : List (Word × Word) :=
  [(0xE1200070, 0xFFF000F0), (0x01200070, 0x0FF000F0), (0x010F0000, 0x0FBF0FFF), (0x0120F000, 0x0FB0FFF0),
   (0x012FFF10, 0x0FFFFFF0), (0x012FFF30, 0x0FFFFFF0), (0x016F0F10, 0x0FFF0FF0), (0x01000050, 0x0FF00FF0),
   (0x01200050, 0x0FF00FF0), (0x01400050, 0x0FF00FF0), (0x01600050, 0x0FF00FF0), (0x01000080, 0x0FF00090),
   (0x01200080, 0x0FF000B0), (0x012000A0, 0x0FF000B0), (0x01400080, 0x0FF00090), (0x01600080, 0x0FF00090)]

/-- The rows of the multiplies, swaps and extra loads and stores: [27:25] = 000, [7] = [4] = 1 (R287, R289). -/
def mulRows : List (Word × Word) :=
  [(0x00000090, 0x0FE000F0), (0x00200090, 0x0FE000F0), (0x00800090, 0x0FE000F0), (0x00A00090, 0x0FE000F0),
   (0x00C00090, 0x0FE000F0), (0x00E00090, 0x0FE000F0), (0x01000090, 0x0FF00FF0), (0x01400090, 0x0FF00FF0),
   (0x000000B0, 0x0E1000F0), (0x000000D0, 0x0E1000F0), (0x000000F0, 0x0E1000F0), (0x001000B0, 0x0E1000F0),
   (0x001000D0, 0x0E1000F0), (0x001000F0, 0x0E1000F0)]

/-- No row but those of the miscellaneous space and the last row can match a conditional word of that space. -/
theorem filter_misc : (armRows.take 109).filter (fun r => bits r.1 28 4 != 15 && matchesRow 0 (rowField 25 3 r) &&
    matchesRow 2 (rowField 23 2 r) && matchesRow 0 (rowField 20 1 r) && !(bit r.1 7 && bit r.1 4)) = miscRows := by
  decide +kernel

/-- The same for MSR of an immediate: [27:23] = 00110, [20] = 0 (R286). -/
theorem filter_msr : (armRows.take 109).filter (fun r => bits r.1 28 4 != 15 && matchesRow 1 (rowField 25 3 r) &&
    matchesRow 2 (rowField 23 2 r) && matchesRow 0 (rowField 20 1 r)) = [(0x0320F000, 0x0FB0F000)] := by
  decide +kernel

/-- The same for the multiplies, up to the row of their undefined words. -/
theorem filter_mul : (armRows.take 33).filter (fun r => bits r.1 28 4 != 15 && matchesRow 0 (rowField 25 3 r) &&
    matchesRow 1 (rowField 7 1 r) && matchesRow 1 (rowField 4 1 r)) = mulRows := by
  decide +kernel

theorem mem_miscRows (h28 : bits w 28 4 = c.bits) (h25 : bits w 25 3 = 0) (h23 : bits w 23 2 = 2) (h20 : bits w 20 1 = 0)
    (h74 : ¬ (bit w 7 = true ∧ bit w 4 = true)) (hr : r ∈ armRows.take 109) (h : matchesRow w r = true) : r ∈ miscRows := by
  have f25 := h25 ▸ matchesRow_bits 25 3 h
  have f23 := h23 ▸ matchesRow_bits 23 2 h
  have f20 := h20 ▸ matchesRow_bits 20 1 h
  have f74 : (bit r.1 7 && bit r.1 4) = false := by
    rw [Bool.eq_false_iff]
    intro k
    rw [Bool.and_eq_true] at k
    exact h74 ⟨bit_of_bit_row h k.1, bit_of_bit_row h k.2⟩
  rw [← filter_misc, List.mem_filter]
  exact ⟨hr, by simp only [cond_of_matchesRow h28 h, f25, f23, f20, f74, Bool.and_self, Bool.not_false]⟩

theorem mem_mulRows (h28 : bits w 28 4 = c.bits) (h25 : bits w 25 3 = 0) (h7 : bits w 7 1 = 1) (h4 : bits w 4 1 = 1)
    (hr : r ∈ armRows.take 33) (h : matchesRow w r = true) : r ∈ mulRows := by
  have f25 := h25 ▸ matchesRow_bits 25 3 h
  have f7 := h7 ▸ matchesRow_bits 7 1 h
  have f4 := h4 ▸ matchesRow_bits 4 1 h
  rw [← filter_mul, List.mem_filter]
  exact ⟨hr, by simp only [cond_of_matchesRow h28 h, f25, f7, f4, Bool.and_self]⟩

theorem eq_msrRow (h28 : bits w 28 4 = c.bits) (h25 : bits w 25 3 = 1) (h23 : bits w 23 2 = 2) (h20 : bits w 20 1 = 0)
    (hr : r ∈ armRows.take 109) (h : matchesRow w r = true) : r = (0x0320F000, 0x0FB0F000) := by
  have f25 := h25 ▸ matchesRow_bits 25 3 h
  have f23 := h23 ▸ matchesRow_bits 23 2 h
  have f20 := h20 ▸ matchesRow_bits 20 1 h
  rw [← List.mem_singleton, ← filter_msr, List.mem_filter]
  exact ⟨hr, by simp only [cond_of_matchesRow h28 h, f25, f23, f20, Bool.and_self]⟩

/-- Bits [7:4] of a half-register multiply: [7] is 1 and [4] is 0 (R286). -/
theorem bits4_of_halfMul (h7 : bit w 7 = true) (h4 : bit w 4 = false) :
    bits w 4 4 = 8#4 ∨ bits w 4 4 = 10#4 ∨ bits w 4 4 = 12#4 ∨ bits w 4 4 = 14#4 := by
  have four : ∀ n : BitVec 4, bit n 3 = true → bit n 0 = false → n = 8#4 ∨ n = 10#4 ∨ n = 12#4 ∨ n = 14#4 := by
    decide
  exact four _ ((bit_bits (by decide)).trans h7) ((bit_bits (by decide)).trans h4)

theorem decodeMisc_halfMul_ne (h7 : bit w 7 = true) (h4 : bit w 4 = false) (low : BitVec 28) :
    decodeMisc c w ≠ .undefRest c low := by
  rcases bits4_of_halfMul h7 h4 with h | h | h | h
  all_goals
    simp only [decodeMisc, h]
    repeat' split
    all_goals simp_all

/-- What the rows of the miscellaneous space fix there, the decoder reads. -/
theorem decodeMisc_ne_of_row (hr : r ∈ miscRows) (h : matchesRow w r = true) (low : BitVec 28) :
    decodeMisc c w ≠ .undefRest c low := by
  have evens : ∀ n : BitVec 2, matchesRow n (0, 1) = true → n = 0 ∨ n = 2 := by decide
  have odds : ∀ n : BitVec 2, matchesRow n (1, 1) = true → n = 1 ∨ n = 3 := by decide
  have bkpt (h4 : bits w 4 4 = 7#4) (h21 : bits w 21 2 = 1#2) : decodeMisc c w ≠ .undefRest c low := by
    simp only [decodeMisc, h4, h21]
    split <;> simp
  simp only [miscRows, List.mem_cons, List.not_mem_nil, or_false] at hr
  rcases hr with rfl | rfl | rfl | rfl | rfl | rfl | rfl | rfl | rfl | rfl | rfl | rfl | rfl | rfl | rfl | rfl
  · exact bkpt (bits_of_matchesRow h rfl) (bits_of_matchesRow h rfl)
  · exact bkpt (bits_of_matchesRow h rfl) (bits_of_matchesRow h rfl)
  · rcases evens _ (matchesRow_bits 21 2 h) with h21 | h21
    all_goals simp [decodeMisc, decodeMisc.decodeMrs, h21, (bits_of_matchesRow h rfl : bits w 4 4 = 0),
      (bits_of_matchesRow h rfl : bits w 16 4 = 15), (bits_of_matchesRow h rfl : bits w 8 4 = 0),
      (bits_of_matchesRow h rfl : bits w 0 4 = 0)]
  · rcases odds _ (matchesRow_bits 21 2 h) with h21 | h21
    all_goals simp [decodeMisc, h21, (bits_of_matchesRow h rfl : bits w 4 4 = 0), (bits_of_matchesRow h rfl : bits w 8 8 = 0xF0)]
  · simp [decodeMisc, (bits_of_matchesRow h rfl : bits w 4 4 = 1), (bits_of_matchesRow h rfl : bits w 21 2 = 1),
      (bits_of_matchesRow h rfl : bits w 8 12 = 0xFFF)]
  · simp [decodeMisc, (bits_of_matchesRow h rfl : bits w 4 4 = 3), (bits_of_matchesRow h rfl : bits w 21 2 = 1),
      (bits_of_matchesRow h rfl : bits w 8 12 = 0xFFF)]
  · simp [decodeMisc, (bits_of_matchesRow h rfl : bits w 4 4 = 1), (bits_of_matchesRow h rfl : bits w 21 2 = 3),
      (bits_of_matchesRow h rfl : bits w 16 4 = 15), (bits_of_matchesRow h rfl : bits w 8 4 = 15)]
  · simp [decodeMisc, (bits_of_matchesRow h rfl : bits w 4 4 = 5), (bits_of_matchesRow h rfl : bits w 21 2 = 0),
      (bits_of_matchesRow h rfl : bits w 8 4 = 0)]
  · simp [decodeMisc, (bits_of_matchesRow h rfl : bits w 4 4 = 5), (bits_of_matchesRow h rfl : bits w 21 2 = 1),
      (bits_of_matchesRow h rfl : bits w 8 4 = 0)]
  · simp [decodeMisc, (bits_of_matchesRow h rfl : bits w 4 4 = 5), (bits_of_matchesRow h rfl : bits w 21 2 = 2),
      (bits_of_matchesRow h rfl : bits w 8 4 = 0)]
  · simp [decodeMisc, (bits_of_matchesRow h rfl : bits w 4 4 = 5), (bits_of_matchesRow h rfl : bits w 21 2 = 3),
      (bits_of_matchesRow h rfl : bits w 8 4 = 0)]
  all_goals exact decodeMisc_halfMul_ne (bit_of_matchesRow h rfl) (bit_of_matchesRow h rfl) low

/-- The same for the multiplies, swaps and extra loads and stores. -/
theorem decodeMulSpace_ne_of_row (hr : r ∈ mulRows) (h : matchesRow w r = true) (low : BitVec 28) :
    decodeMulSpace c w ≠ .undefMulSpace c low := by
  have multiply {op : BitVec 4} (h5 : bits w 5 2 = 0) (h21 : bits w 21 4 = op) (hop : op ∈ [0, 1, 4, 5, 6, 7]) :
      decodeMulSpace c w ≠ .undefMulSpace c low := by
    simp only [List.mem_cons, List.not_mem_nil, or_false] at hop
    rcases hop with rfl | rfl | rfl | rfl | rfl | rfl
    all_goals simp [decodeMulSpace, h5, h21]
  have swap {op : BitVec 4} (h5 : bits w 5 2 = 0) (h21 : bits w 21 4 = op) (hop : op = 8 ∨ op = 10) (h20 : bit w 20 = false)
      (h8 : bits w 8 4 = 0) : decodeMulSpace c w ≠ .undefMulSpace c low := by
    rcases hop with rfl | rfl
    all_goals simp [-BitVec.getLsbD_eq_getElem, decodeMulSpace, h5, h21, h20, h8]
  have extra {l : Bool} {sh : BitVec 2} (h20 : bit w 20 = l) (h5 : bits w 5 2 = sh) (hsh : sh ≠ 0) :
      decodeMulSpace c w ≠ .undefMulSpace c low := by
    have three : ∀ n : BitVec 2, n ≠ 0 → n = 1 ∨ n = 2 ∨ n = 3 := by decide
    rcases three sh hsh with rfl | rfl | rfl
    all_goals cases l
    all_goals simp [-BitVec.getLsbD_eq_getElem, decodeMulSpace, h20, h5]
  simp only [mulRows, List.mem_cons, List.not_mem_nil, or_false] at hr
  rcases hr with rfl | rfl | rfl | rfl | rfl | rfl | rfl | rfl | rfl | rfl | rfl | rfl | rfl | rfl
  iterate 6 exact multiply (bits_of_matchesRow h rfl) (bits_of_matchesRow h rfl) (by decide)
  iterate 2
    exact swap (bits_of_matchesRow h rfl) (bits_of_matchesRow h rfl) (by decide) (bit_of_matchesRow h rfl)
      (bits_of_matchesRow h rfl)
  all_goals exact extra (bit_of_matchesRow h rfl) (bits_of_matchesRow h rfl) (by decide)

/-- The rows of the unconditional space before the last: PLD and BLX of an immediate (R295). -/
theorem decodeUncond_ne_of_row (hr : r ∈ armRows.take 2) (h : matchesRow w r = true) (low : BitVec 28) :
    decodeUncond w ≠ .undefUncond low := by
  have pld : ∀ n : BitVec 3, matchesRow n (2, 6) = true → n = 2#3 ∨ n = 3#3 := by decide
  have hr' : r = (0xF550F000, 0xFD70F000) ∨ r = (0xFA000000, 0xFE000000) := by simpa [armRows] using hr
  rcases hr' with rfl | rfl
  · have h24 : bit w 24 = true := bit_of_matchesRow h rfl
    have h20 : bits w 20 3 = 5 := bits_of_matchesRow h rfl
    have h12 : bits w 12 4 = 15 := bits_of_matchesRow h rfl
    rcases pld _ (matchesRow_bits 25 3 h) with h25 | h25
    all_goals simp [-BitVec.getLsbD_eq_getElem, decodeUncond, h25, h24, h20, h12]
  · simp [decodeUncond, (bits_of_matchesRow h rfl : bits w 25 3 = 5)]

end

end Sys2Proof
end

section
/-! PROOF. Every word of the miscellaneous space is the code of the well-formed instruction that it decodes to (30_encoding.md
R286, R297). -/

namespace Sys2Proof

/-- A well-formed instruction whose code is a word. -/
structure Spells (i : Instr) (k : Code) : Prop where
  wf : wellFormed i = true
  code : encode i = k

section

variable {c : Cond} {w : Word}

/-- A part of a field whose value is known. -/
theorem bits_sub {n i l j k : Nat} {w : BitVec n} {v : BitVec l} {u : BitVec k} (hk : j + k ≤ l) (h : bits w i l = v)
    (hv : bits v j k = u) : bits w (i + j) k = u := by
  rw [← bits_bits hk, h, hv]

theorem bit_sub {n i l : Nat} {w : BitVec n} {b : Bool} (j : Nat) (hj : j < l) (h : bit (bits w i l) j = b) :
    bit w (i + j) = b := (bit_bits hj).symm.trans h

/-- The last of the four values of a two-bit field. -/
theorem eq_three : ∀ n : BitVec 2, (n = 0#2 → False) → (n = 1#2 → False) → (n = 2#2 → False) → n = 3#2 := by decide

/-- The last of the eight values of a three-bit field. -/
theorem eq_seven : ∀ n : BitVec 3, (n = 0#3 → False) → (n = 1#3 → False) → (n = 2#3 → False) → (n = 3#3 → False) →
    (n = 4#3 → False) → (n = 5#3 → False) → (n = 6#3 → False) → n = 7#3 := by decide

/-! The words that no row before a catch-all row claims. -/

/-- A word that no row of an earlier place matches has the place of a row that it matches. -/
theorem firstRow_of_none {n k : Nat} {rows : List (BitVec n × BitVec n)} {w : BitVec n} {r : BitVec n × BitVec n}
    (hk : rows[k]? = some r) (hr : matchesRow w r = true) (h : ∀ q ∈ rows.take k, ¬ matchesRow w q = true) :
    firstRow rows w = k :=
  firstRow_eq hk hr fun q hq => Bool.eq_false_iff.mpr (h q hq)

theorem low_eq (h28 : bits w 28 4 = c.bits) : (c.bits ++ bits w 0 28 : BitVec 32) = w :=
  (append_eq_bits (lo := 0) h28.symm rfl).trans BitVec.extractLsb'_eq_self

theorem spells_undefRest (h28 : bits w 28 4 = c.bits) (h : ∀ r ∈ armRows.take 109, ¬ matchesRow w r = true) :
    Spells (.undefRest c (bits w 0 28)) (.arm w) := by
  refine ⟨?_, encodeLow_eq h28⟩
  rw [wellFormed, reachesRow, low_eq h28, beq_iff_eq]
  exact firstRow_of_none (r := (0, 0)) rfl (by simp [matchesRow]) h

theorem spells_decodeMisc (h28 : bits w 28 4 = c.bits) (h25 : bits w 25 3 = 0) (h23 : bits w 23 2 = 2) (h20 : bit w 20 = false)
    (h74 : ¬ (bit w 7 = true ∧ bit w 4 = true)) : Spells (decodeMisc c w) (.arm w) := by
  have rest : ∀ low, decodeMisc c w = .undefRest c low → Spells (.undefRest c (bits w 0 28)) (.arm w) := fun low e =>
    spells_undefRest h28 fun r hr h =>
      decodeMisc_ne_of_row (mem_miscRows h28 h25 h23 (bits_one h20) h74 hr h) h low e
  replace h23 : bits w 23 5 = 2 := (append_eq_bits h25.symm h23.symm).symm
  have mrs (h21 : bits w 21 1 = 0) (h16 : bits w 16 4 = 15) (h8 : bits w 8 4 = 0) (h4 : bits w 4 4 = 0)
      (h0 : bits w 0 4 = 0) : Spells (.mrs c (bit w 22) (bits w 12 4)) (.arm w) := by
    refine ⟨rfl, arm_eq ?_⟩
    iterate 6 refine append_eq_bits ?_ ?_
    exacts [h28.symm, h23.symm, (bits_one rfl).symm, append_eq_bits h21.symm (bits_one h20).symm, h16.symm, rfl,
      append_eq_bits (append_eq_bits h8.symm h4.symm) h0.symm]
  have halfMul {op : BitVec 2} {y x : BitVec 1} (h7 : bit (bits w 4 4) 3 = true) (h4 : bit (bits w 4 4) 0 = false)
      (h21 : bits w 21 2 = op) (hy : y = ofBool (bit w 6)) (hx : x = ofBool (bit w 5)) :
      encodeHalfMul c op (bits w 16 4) (bits w 12 4) (bits w 8 4) y x (bits w 0 4) = .arm w :=
    encodeHalfMul_eq h28 h23 h21 h20 (bit_sub (i := 4) 3 (by decide) h7) ((bits_one rfl).trans hy.symm)
      ((bits_one rfl).trans hx.symm) (bit_sub (i := 4) 0 (by decide) h4)
  generalize hi : decodeMisc c w = i at rest ⊢
  unfold decodeMisc decodeMisc.decodeMrs at hi
  repeat' split at hi
  all_goals subst hi
  all_goals try exact rest _ rfl
  · exact mrs (bits_sub (j := 0) (by decide) ‹bits w 21 2 = _› rfl) ‹_› ‹_› ‹_› ‹_›
  · exact mrs (bits_sub (j := 0) (by decide) ‹bits w 21 2 = _› rfl) ‹_› ‹_› ‹_› ‹_›
  · have odd : ∀ n : BitVec 2, (n = 0#2 → False) → (n = 2#2 → False) → bits n 0 1 = 1 := by decide
    have h21 : bits w 21 1 = 1 := bits_sub (i := 21) (j := 0) (by decide) rfl (odd _ ‹_› ‹_›)
    refine ⟨rfl, arm_eq ?_⟩
    iterate 6 refine append_eq_bits ?_ ?_
    exacts [h28.symm, h23.symm, (bits_one rfl).symm, append_eq_bits h21.symm (bits_one h20).symm, rfl,
      append_eq_bits ‹bits w 8 8 = _›.symm ‹bits w 4 4 = _›.symm, rfl]
  · exact ⟨rfl, arm_eq (append_eq_bits (append_eq_bits h28.symm (append_eq_bits (append_eq_bits (append_eq_bits
      (append_eq_bits h23.symm ‹bits w 21 2 = _›.symm) (bits_one h20).symm) ‹bits w 8 12 = _›.symm) ‹bits w 4 4 = _›.symm))
      rfl)⟩
  · refine ⟨rfl, arm_eq ?_⟩
    iterate 4 refine append_eq_bits ?_ ?_
    exacts [h28.symm, append_eq_bits (append_eq_bits (append_eq_bits h23.symm ‹bits w 21 2 = _›.symm) (bits_one h20).symm)
      ‹bits w 16 4 = _›.symm, rfl, append_eq_bits ‹bits w 8 4 = _›.symm ‹bits w 4 4 = _›.symm, rfl]
  · exact ⟨rfl, arm_eq (append_eq_bits (append_eq_bits h28.symm (append_eq_bits (append_eq_bits (append_eq_bits
      (append_eq_bits h23.symm ‹bits w 21 2 = _›.symm) (bits_one h20).symm) ‹bits w 8 12 = _›.symm) ‹bits w 4 4 = _›.symm))
      rfl)⟩
  · exact ⟨rfl, encodeSat_eq h28 h23 ‹_› h20 ‹_› ‹_›⟩
  · exact ⟨rfl, encodeSat_eq h28 h23 ‹_› h20 ‹_› ‹_›⟩
  · exact ⟨rfl, encodeSat_eq h28 h23 ‹_› h20 ‹_› ‹_›⟩
  · exact ⟨rfl, encodeSat_eq h28 h23 (eq_three _ ‹_› ‹_› ‹_›) h20 ‹_› ‹_›⟩
  · exact ⟨rfl, arm_eq (append_eq_bits (append_eq_bits (append_eq_bits (append_eq_bits h28.symm (append_eq_bits
      (append_eq_bits h23.symm ‹bits w 21 2 = _›.symm) (bits_one h20).symm)) rfl) ‹bits w 4 4 = _›.symm) rfl)⟩
  · exact ⟨bne_iff_ne.mpr ‹_›, arm_eq (append_eq_bits (append_eq_bits (append_eq_bits (append_eq_bits h28.symm (append_eq_bits
      (append_eq_bits h23.symm ‹bits w 21 2 = _›.symm) (bits_one h20).symm)) rfl) ‹bits w 4 4 = _›.symm) rfl)⟩
  · exact ⟨rfl, halfMul ‹_› ‹_› ‹_› (HalfSel.bit_ofBit _) (HalfSel.bit_ofBit _)⟩
  · exact ⟨rfl, halfMul ‹_› ‹_› ‹_› (HalfSel.bit_ofBit _) (congrArg ofBool ‹bit w 5 = false›).symm⟩
  · exact ⟨rfl, halfMul ‹_› ‹_› ‹_› (HalfSel.bit_ofBit _) (congrArg ofBool ‹bit w 5 = true›).symm⟩
  · exact ⟨rfl, halfMul ‹_› ‹_› ‹_› (HalfSel.bit_ofBit _) (HalfSel.bit_ofBit _)⟩
  · exact ⟨rfl, halfMul ‹_› ‹_› (eq_three _ ‹_› ‹_› ‹_›) (HalfSel.bit_ofBit _) (HalfSel.bit_ofBit _)⟩

end
end Sys2Proof
end

section
/-! PROOF. The same for the unconditional space and for the multiplies, swaps and extra loads and stores (30_encoding.md R287, R289,
R295, R297). -/

namespace Sys2Proof
section

variable {c : Cond} {w : Word}

/-! A code agrees with a row when its fields do. -/

theorem fields_agree {n lo a b : Nat} {v : BitVec n} {r : BitVec n × BitVec n}
    (hi : matchesRow (bits v (lo + b) a) (rowField (lo + b) a r) = true)
    (hlo : matchesRow (bits v lo b) (rowField lo b r) = true) :
    matchesRow (bits v lo (a + b)) (rowField lo (a + b) r) = true := by
  rw [matchesRow, rowField, beq_iff_eq] at *
  rw [← append_eq_bits (w := v) (lo := lo) rfl rfl, ← append_eq_bits (w := r.1) (lo := lo) rfl rfl,
    ← append_eq_bits (w := r.2) (lo := lo) rfl rfl, BitVec.and_append]
  exact congrArg₂ (· ++ ·) hi hlo

theorem field_agrees {n lo len : Nat} {v : BitVec n} {r : BitVec n × BitVec n} {x : BitVec len} (h : bits v lo len = x)
    (hr : matchesRow x (rowField lo len r) = true) : matchesRow (bits v lo len) (rowField lo len r) = true := h ▸ hr

/-- A field that a row leaves free. -/
theorem free_agrees {n lo len : Nat} {v : BitVec n} {r : BitVec n × BitVec n} (hr : rowField lo len r = (0, 0)) :
    matchesRow (bits v lo len) (rowField lo len r) = true := by
  rw [hr, matchesRow, BitVec.ofNat_eq_ofNat, BitVec.and_zero]
  exact beq_self_eq_true _

theorem matchesRow_of_fields {n : Nat} {v : BitVec n} {r : BitVec n × BitVec n}
    (h : matchesRow (bits v 0 n) (rowField 0 n r) = true) : matchesRow v r = true := by
  rwa [rowField, bits, bits, bits, BitVec.extractLsb'_eq_self, BitVec.extractLsb'_eq_self, BitVec.extractLsb'_eq_self] at h

/-! The unconditional space (R295). -/

theorem spells_undefUncond (h28 : bits w 28 4 = 15) {low : BitVec 28} (h : decodeUncond w = .undefUncond low) :
    Spells (.undefUncond (bits w 0 28)) (.arm w) := by
  have e : (15#4 ++ bits w 0 28 : BitVec 32) = bits w 0 32 := append_eq_bits h28.symm rfl
  refine ⟨?_, arm_eq e⟩
  rw [wellFormed, e, bits, BitVec.extractLsb'_eq_self]
  refine beq_iff_eq.mpr (firstRow_of_none (r := (0xF0000000, 0xF0000000)) rfl ?_ ?_)
  · exact matchesRow_of_fields (fields_agree (a := 4) (b := 28) (field_agrees h28 (by decide)) (free_agrees rfl))
  · exact fun r hr hm => decodeUncond_ne_of_row hr hm low h

theorem spells_decodeUncond (h28 : bits w 28 4 = 15) : Spells (decodeUncond w) (.arm w) := by
  have rest {low : BitVec 28} (e : decodeUncond w = .undefUncond low) : Spells (.undefUncond (bits w 0 28)) (.arm w) :=
    spells_undefUncond h28 e
  have pld {b4 : Bool} (h25 : bits w 26 2 = 1) (h24 : bit w 24 = true) (h20 : bits w 20 3 = 5) (h12 : bits w 12 4 = 15)
      (h4 : bit w 25 = true → bit w 4 = b4) :
      encode (.pld (bit w 23) (bits w 16 4) (decodeOffset2 w) b4) = .arm w := by
    refine arm_eq ?_
    iterate 8 refine append_eq_bits ?_ ?_
    exacts [h28.symm, h25.symm, iBit_decodeOffset2 w, (bits_one h24).symm, (bits_one rfl).symm, h20.symm, rfl, h12.symm,
      bits_decodeOffset2 fun h => bits_one (h4 h)]
  generalize hi : decodeUncond w = i at rest ⊢
  unfold decodeUncond at hi
  repeat' split at hi
  all_goals subst hi
  all_goals try exact rest rfl
  · exact ⟨rfl, arm_eq (append_eq_bits (append_eq_bits (append_eq_bits h28.symm ‹bits w 25 3 = _›.symm) (bits_one rfl).symm)
      rfl)⟩
  · have h25 : bit w 25 = false := bit_sub 0 (by decide) (congrArg (bit · 0) ‹bits w 25 3 = 2#3›)
    refine ⟨?_, pld (bits_sub (j := 1) (by decide) ‹bits w 25 3 = 2#3› rfl) ‹_› ‹_› ‹_› fun h => ?_⟩
    · rw [decodeOffset2, h25, wellFormed, Bool.not_false]
    · exact absurd (h25.symm.trans h) Bool.false_ne_true
  · have h25 : bit w 25 = true := bit_sub 0 (by decide) (congrArg (bit · 0) ‹bits w 25 3 = 3#3›)
    refine ⟨?_, pld (bits_sub (j := 1) (by decide) ‹bits w 25 3 = 3#3› rfl) ‹_› ‹_› ‹_› fun _ => rfl⟩
    rw [decodeOffset2, h25, wellFormed]

/-! The multiplies, swaps and extra loads and stores (R287, R289). -/

theorem spells_undefMulSpace (h28 : bits w 28 4 = c.bits) (h25 : bits w 25 3 = 0) (h7 : bit w 7 = true) (h4 : bit w 4 = true)
    {low : BitVec 28} (h : decodeMulSpace c w = .undefMulSpace c low) :
    Spells (.undefMulSpace c (bits w 0 28)) (.arm w) := by
  refine ⟨?_, encodeLow_eq h28⟩
  rw [wellFormed, reachesRow, low_eq h28, beq_iff_eq]
  refine firstRow_of_none (r := (0x00000090, 0x0E000090)) rfl ?_ fun r hr hm =>
    decodeMulSpace_ne_of_row (mem_mulRows h28 h25 (bits_one h7) (bits_one h4) hr hm) hm low h
  refine matchesRow_of_fields (fields_agree (a := 4) (b := 28) (free_agrees rfl) (fields_agree (a := 3) (b := 25)
    (field_agrees h25 (by decide)) (fields_agree (a := 17) (b := 8) (free_agrees rfl) (fields_agree (a := 1) (b := 7)
    (field_agrees (bits_one h7) (by decide)) (fields_agree (a := 2) (b := 5) (free_agrees rfl) (fields_agree (a := 1) (b := 4)
    (field_agrees (bits_one h4) (by decide)) (free_agrees rfl)))))))

theorem spells_decodeMulSpace (h28 : bits w 28 4 = c.bits) (h25 : bits w 25 3 = 0) (h7 : bit w 7 = true) (h4 : bit w 4 = true) :
    Spells (decodeMulSpace c w) (.arm w) := by
  have rest {low : BitVec 28} (e : decodeMulSpace c w = .undefMulSpace c low) :
      Spells (.undefMulSpace c (bits w 0 28)) (.arm w) := spells_undefMulSpace h28 h25 h7 h4 e
  have nine (h5 : bits w 5 2 = 0) : bits w 4 4 = 9 :=
    (append_eq_bits (append_eq_bits (bits_one h7).symm h5.symm) (bits_one h4).symm).symm
  have mul {op : BitVec 4} {op7 : BitVec 7} (h5 : bits w 5 2 = 0) (h21 : bits w 21 4 = op) (e : 0#3 ++ op = op7) :
      encodeMul c op7 (bit w 20) (bits w 16 4) (bits w 12 4) (bits w 8 4) (bits w 0 4) = .arm w :=
    encodeMul_eq h28 ((append_eq_bits h25.symm h21.symm).symm.trans e) rfl rfl (nine h5)
  have swap {op : BitVec 4} {op7 : BitVec 7} (h5 : bits w 5 2 = 0) (h21 : bits w 21 4 = op) (h20 : bit w 20 = false)
      (h8 : bits w 8 4 = 0) (e : 0#3 ++ op = op7) :
      encodeMul c op7 false (bits w 16 4) (bits w 12 4) 0 (bits w 0 4) = .arm w :=
    encodeMul_eq h28 ((append_eq_bits h25.symm h21.symm).symm.trans e) h20 h8 (nine h5)
  generalize hi : decodeMulSpace c w = i at rest ⊢
  unfold decodeMulSpace at hi
  repeat' split at hi
  all_goals subst hi
  all_goals try exact rest rfl
  iterate 6 exact ⟨rfl, mul ‹_› ‹_› rfl⟩
  iterate 2 exact ⟨rfl, swap ‹_› ‹_› ‹_› ‹_› rfl⟩
  iterate 2 exact ⟨rfl, encodeExtra_eq (l := false) h28 h25 ‹_› h7 ‹_› h4⟩
  · exact ⟨rfl, encodeExtra_eq (l := false) h28 h25 ‹_› h7 (eq_three _ ‹_› ‹_› ‹_›) h4⟩
  iterate 2 exact ⟨rfl, encodeExtra_eq (l := true) h28 h25 ‹_› h7 ‹_› h4⟩
  · exact ⟨rfl, encodeExtra_eq (l := true) h28 h25 ‹_› h7 (eq_three _ ‹_› ‹_› ‹_›) h4⟩

end
end Sys2Proof
end

section
/-! PROOF. The same for data processing and for the loads and stores (30_encoding.md R283, R284, R288, R290, R297). -/

namespace Sys2Proof
section

variable {c : Cond} {w : Word}

/-! Data processing (R284, R286). -/

/-- The only words of the space that are no data processing are a test or compare without S. -/
theorem test_of_decodeDataProc {low : BitVec 28} (h : decodeDataProc c w = .undefRest c low) :
    bits w 23 2 = 2 ∧ bit w 20 = false := by
  have tests : ∀ (op : BitVec 4) (s : Bool), (∀ n ∈ [0, 1, 2, 3, 4, 5, 6, 7, 12, 13, 14, 15], op = n → False) →
      (∀ n ∈ [8, 9, 10, 11], op = n → s = true → False) → bits op 2 2 = 2 ∧ s = false := by decide
  unfold decodeDataProc at h
  split at h
  case h_17 =>
    have k := tests (bits w 21 4) (bit w 20) (by simpa using ⟨‹_›, ‹_›, ‹_›, ‹_›, ‹_›, ‹_›, ‹_›, ‹_›, ‹_›, ‹_›, ‹_›, ‹_›⟩)
      (by simpa [-BitVec.getLsbD_eq_getElem, -Bool.not_eq_true] using ⟨‹_›, ‹_›, ‹_›, ‹_›⟩)
    exact ⟨bits_sub (i := 21) (j := 2) (by decide) rfl k.1, k.2⟩
  all_goals cases h

theorem spells_decodeDataProc (h28 : bits w 28 4 = c.bits) (h26 : bits w 26 2 = 0)
    (h7 : bit w 25 = false → bit w 4 = true → bit w 7 = false)
    (rest : ∀ {low}, decodeDataProc c w = .undefRest c low → Spells (.undefRest c (bits w 0 28)) (.arm w)) :
    Spells (decodeDataProc c w) (.arm w) := by
  generalize hi : decodeDataProc c w = i at rest ⊢
  unfold decodeDataProc at hi
  split at hi
  all_goals subst hi
  case h_17 => exact rest rfl
  case h_9 | h_10 | h_11 | h_12 => exact ⟨rfl, encodeDp_eq h28 h26 ‹_› ‹_› h7⟩
  all_goals exact ⟨rfl, encodeDp_eq h28 h26 ‹_› rfl h7⟩

theorem spells_decode000 (h28 : bits w 28 4 = c.bits) (h25 : bits w 25 3 = 0) : Spells (decode000 c w) (.arm w) := by
  have h26 : bits w 26 2 = 0 := bits_sub (j := 1) (by decide) h25 rfl
  unfold decode000
  split
  · exact spells_decodeMulSpace h28 h25 ‹_› ‹_›
  · rename_i h74
    split
    · exact spells_decodeMisc h28 h25 ‹_› ‹_› fun h => h74 h.1 h.2
    · rename_i h2320
      refine spells_decodeDataProc h28 h26 (fun _ h4 => Bool.eq_false_iff.mpr fun h7 => h74 h7 h4) fun h => ?_
      obtain ⟨h23, h20⟩ := test_of_decodeDataProc h
      exact absurd h20 (h2320 h23)

theorem spells_decode001 (h28 : bits w 28 4 = c.bits) (h25 : bits w 25 3 = 1) : Spells (decode001 c w) (.arm w) := by
  have h26 : bits w 26 2 = 0 := bits_sub (j := 1) (by decide) h25 rfl
  have h25' : bit w 25 = true := bit_sub 0 (by decide) (congrArg (bit · 0) h25)
  unfold decode001
  split
  · rename_i h23 h20 h12
    refine ⟨rfl, arm_eq ?_⟩
    iterate 7 refine append_eq_bits ?_ ?_
    exacts [h28.symm, append_eq_bits h25.symm h23.symm, (bits_one rfl).symm, h20.symm, rfl, h12.symm, rfl, rfl]
  · rename_i hmsr
    refine spells_decodeDataProc h28 h26 (fun h => absurd (h25'.symm.trans h) Bool.false_ne_true.symm) fun h => ?_
    obtain ⟨h23, h20⟩ := test_of_decodeDataProc h
    refine spells_undefRest h28 fun r hr hm => ?_
    obtain rfl := eq_msrRow h28 h25 h23 (bits_one h20) hr hm
    exact hmsr h23 (bits_of_matchesRow hm rfl) (bits_of_matchesRow hm rfl)

/-! Loads and stores (R288, R290). -/

theorem spells_decodeLoadStore (h28 : bits w 28 4 = c.bits) (h26 : bits w 26 2 = 1)
    (h4 : bit w 25 = true → bit w 4 = false) : Spells (decodeLoadStore c w) (.arm w) := by
  have ls {ix : Indexing} (b l : Bool) (hix : decodeIndexing w = ix) (h20 : bit w 20 = l) (h22 : bit w 22 = b) :
      encodeLs c ix (bit w 23) (ofBool b) (ofBool l) (bits w 16 4) (bits w 12 4) (decodeOffset2 w) = .arm w :=
    encodeLs_eq h28 h26 hix h22 h20 h4
  unfold decodeLoadStore
  split
  · exact ⟨rfl, ls false true ‹_› ‹_› ‹_›⟩
  · exact ⟨rfl, ls true true ‹_› ‹_› ‹_›⟩
  · exact ⟨rfl, ls false false ‹_› ‹_› ‹_›⟩
  · exact ⟨rfl, ls true false ‹_› ‹_› ‹_›⟩
  · exact ⟨bne_iff_ne.mpr fun h => ‹decodeIndexing w = .postW → _› h, ls false true rfl ‹_› ‹_›⟩
  · exact ⟨bne_iff_ne.mpr fun h => ‹decodeIndexing w = .postW → _› h, ls true true rfl ‹_› ‹_›⟩
  · exact ⟨bne_iff_ne.mpr fun h => ‹decodeIndexing w = .postW → _› h, ls false false rfl ‹_› ‹_›⟩
  · exact ⟨bne_iff_ne.mpr fun h => ‹decodeIndexing w = .postW → _› h, ls true false rfl ‹_› ‹_›⟩

theorem spells_decodeBlock (h28 : bits w 28 4 = c.bits) (h25 : bits w 25 3 = 4) : Spells (decodeBlock c w) (.arm w) := by
  have block (s l : Bool) {list : BitVec 16} (h20 : bit w 20 = l) (h22 : bit w 22 = s) (h0 : list = bits w 0 16) :
      encodeBlock c (decodeBlockMode w) (ofBool s) (bit w 21) (ofBool l) (bits w 16 4) list = .arm w :=
    encodeBlock_eq h28 h25 h22 h20 h0
  unfold decodeBlock
  split
  · exact ⟨rfl, block false true ‹_› ‹_› rfl⟩
  · exact ⟨rfl, block true true ‹_› ‹_› (append_eq_bits (bits_one ‹bit w 15 = false›).symm rfl)⟩
  · exact ⟨rfl, block true true ‹_› ‹_› (append_eq_bits (bits_one ‹bit w 15 = true›).symm rfl)⟩
  · exact ⟨rfl, block false false ‹_› ‹_› rfl⟩
  · exact ⟨rfl, block true false ‹_› ‹_› rfl⟩

end
end Sys2Proof
end

section
/-! PROOF. The same for the coprocessor space, and so for every ARM word (30_encoding.md R292, R297). -/

namespace Sys2Proof
section

variable {c : Cond} {w : Word}

/-! The coprocessor space (R292, R297 (7), (8)). -/

/-- P, U and W stand in [24:21], with N between them (R292). -/
theorem ldcForm_iff (w : Word) : ldcForm (bit w 24) (bit w 23) (bit w 21) = true ↔ bits w 21 4 ≠ 0 ∧ bits w 21 4 ≠ 2 := by
  have codes : ∀ b : BitVec 4, ldcForm (bit b 3) (bit b 2) (bit b 0) = true ↔ b ≠ 0 ∧ b ≠ 2 := by decide
  have e := codes (bits w 21 4)
  rwa [bit_bits (by decide), bit_bits (by decide), bit_bits (by decide)] at e

theorem spells_decode110 (h28 : bits w 28 4 = c.bits) (h25 : bits w 25 3 = 6) : Spells (decode110 c w) (.arm w) := by
  unfold decode110
  split
  · exact ⟨rfl, arm_eq (append_eq_bits (append_eq_bits (append_eq_bits h28.symm (append_eq_bits h25.symm
      ‹bits w 21 4 = _›.symm)) (bits_one rfl).symm) rfl)⟩
  · split
    · exact ⟨rfl, encodeCp2_eq (l := false) h28 h25 ‹_› ‹_› ‹_› (bits_sub (i := 0) (j := 4) (by decide) ‹bits w 0 8 = _› rfl)
        (bits_sub (i := 0) (j := 0) (by decide) ‹bits w 0 8 = _› rfl)⟩
    · exact ⟨rfl, encodeCp2_eq (l := true) h28 h25 ‹_› ‹_› ‹_› (bits_sub (i := 0) (j := 4) (by decide) ‹bits w 0 8 = _› rfl)
        (bits_sub (i := 0) (j := 0) (by decide) ‹bits w 0 8 = _› rfl)⟩
    · refine ⟨bne_iff_ne.mpr fun h0 => ?_, arm_eq ?_⟩
      · cases h20 : bit w 20
        · exact ‹bits w 0 8 = 0#8 → bit w 20 = false → False› h0 h20
        · exact ‹bits w 0 8 = 0#8 → bit w 20 = true → False› h0 h20
      · iterate 6 refine append_eq_bits ?_ ?_
        exacts [h28.symm, append_eq_bits h25.symm ‹bits w 21 4 = _›.symm, (bits_one rfl).symm, rfl, rfl,
          ‹bits w 8 4 = _›.symm, rfl]
  · exact ⟨bne_iff_ne.mpr ‹_›, encodeCp2_eq (l := false) h28 h25 ‹_› ‹_› rfl rfl rfl⟩
  · exact ⟨bne_iff_ne.mpr ‹_›, encodeCp2_eq (l := true) h28 h25 ‹_› ‹_› rfl rfl rfl⟩
  · exact ⟨(ldcForm_iff w).mpr ⟨‹_›, ‹_›⟩, encodeCpMem_eq (l := true) h28 h25 ‹_› rfl⟩
  · exact ⟨(ldcForm_iff w).mpr ⟨‹_›, ‹_›⟩, encodeCpMem_eq (l := false) h28 h25 ‹_› rfl⟩

/-- A word of coprocessor 0 under [27:24] = 1110 has the fields of the terms of that space. -/
theorem spells_decodeCp0 (h28 : bits w 28 4 = c.bits) (h24 : bits w 24 4 = 14) (h8 : bits w 8 4 = 0) :
    Spells (decodeCp0 c w) (.arm w) := by
  unfold decodeCp0
  split
  case h_7 =>
    rename_i n0 n8 n12 n13 n14 n15
    refine ⟨?_, arm_eq ?_⟩
    · refine (Bool.not_eq_true' _).mpr (Bool.eq_false_iff.mpr fun h => ?_)
      simp only [isMiaPattern, Bool.and_eq_true, Bool.or_eq_true, beq_iff_eq, Bool.not_eq_true'] at h
      obtain ⟨⟨⟨⟨h21, h20⟩, h5⟩, h4⟩, h16⟩ := h
      have e20 : bits w 20 4 = 2 := (append_eq_bits h21.symm (bits_one h20).symm).symm
      have e4 : bits w 4 4 = 1 := (append_eq_bits h5.symm (bits_one h4).symm).symm
      rcases h16 with ((((h | h) | h) | h) | h) | h
      exacts [n0 e20 e4 h, n8 e20 e4 h, n12 e20 e4 h, n13 e20 e4 h, n14 e20 e4 h, n15 e20 e4 h]
    · iterate 9 refine append_eq_bits ?_ ?_
      exacts [h28.symm, h24.symm, rfl, (bits_one rfl).symm, rfl, rfl, h8.symm, rfl, (bits_one rfl).symm, rfl]
  all_goals exact ⟨rfl, encodeMia_eq h28 h24 ‹_› ‹_› h8 ‹_›⟩

theorem decodeCp15Function_some {rd : Reg} {crn crm : BitVec 4} {op2 : BitVec 3} {i : Instr}
    (h : decodeCp15Function c rd crn crm op2 = some i) : Spells i (encodeCp c 0 0 crn rd 15 op2 crm) := by
  unfold decodeCp15Function at h
  split at h
  case h_23 => cases h
  all_goals
    cases h
    exact ⟨rfl, rfl⟩

theorem decodeCp15Function_none {rd : Reg} {crn crm : BitVec 4} {op2 : BitVec 3}
    (h : decodeCp15Function c rd crn crm op2 = none) : cp15Functions.contains (crn, crm, op2) = false := by
  have some : ∀ f ∈ cp15Functions, (decodeCp15Function c rd f.1 f.2.1 f.2.2).isSome = true := by
    iterate 22 refine List.forall_mem_cons.mpr ⟨rfl, ?_⟩
    exact List.forall_mem_nil _
  refine Bool.eq_false_iff.mpr fun k => ?_
  have e := some _ (List.contains_iff_mem.mp k)
  rw [h] at e
  cases e

theorem spells_decodeCoproc (h28 : bits w 28 4 = c.bits) (h24 : bits w 24 4 = 14) (h8 : bits w 8 4 ≠ 0) :
    Spells (decodeCoproc c w) (.arm w) := by
  unfold decodeCoproc
  split
  · refine ⟨bne_iff_ne.mpr h8, arm_eq ?_⟩
    iterate 8 refine append_eq_bits ?_ ?_
    exacts [h28.symm, h24.symm, rfl, rfl, rfl, rfl, rfl, (bits_one ‹bit w 4 = false›).symm, rfl]
  · split
    · have e : encodeCp c 0 0 (bits w 16 4) (bits w 12 4) 15 (bits w 5 3) (bits w 0 4) = .arm w :=
        encodeCp_eq (l := false) h28 h24 ‹_› ‹_› rfl ‹_› rfl ‹_› rfl
      split
      · rename_i h
        obtain ⟨hwf, hcode⟩ := decodeCp15Function_some h
        exact ⟨hwf, hcode.trans e⟩
      · rename_i h
        refine ⟨?_, e⟩
        rw [wellFormed, genericMcr, decodeCp15Function_none h]
        rfl
    · rename_i hfn
      refine ⟨?_, encodeCp_eq (l := false) h28 h24 rfl ‹_› rfl rfl rfl ‹_› rfl⟩
      rw [wellFormed, genericMcr, bne_iff_ne.mpr h8, Bool.true_and, Bool.not_eq_true', Bool.eq_false_iff]
      intro h
      simp only [Bool.and_eq_true, beq_iff_eq] at h
      exact hfn h.1.2 h.1.1
  · split
    · exact ⟨rfl, encodeCp_eq (l := true) h28 h24 ‹_› ‹_› ‹_› ‹_› ‹_› ‹_› ‹_›⟩
    · rename_i hlock
      refine ⟨?_, encodeCp_eq (l := true) h28 h24 rfl ‹_› rfl rfl rfl ‹_› rfl⟩
      rw [wellFormed, genericMrc, bne_iff_ne.mpr h8, Bool.true_and, Bool.not_eq_true', Bool.eq_false_iff]
      intro h
      simp only [Bool.and_eq_true, beq_iff_eq] at h
      obtain ⟨⟨⟨⟨hcp, hop1⟩, hcrn⟩, hcrm⟩, hop2⟩ := h
      exact hlock hop1 hcp hcrn hcrm hop2

/-! All words. -/

theorem spells_undefArch (h28 : bits w 28 4 = c.bits) (h25 : bits w 25 3 = 3) (h4 : bit w 4 = true) :
    Spells (.undefArch c (bits w 0 28)) (.arm w) := by
  refine ⟨?_, encodeLow_eq h28⟩
  rw [wellFormed, reachesRow, low_eq h28, beq_iff_eq]
  refine firstRow_of_none (r := (0x06000010, 0x0E000010)) rfl ?_ fun r hr hm => ?_
  · exact matchesRow_of_fields (fields_agree (a := 4) (b := 28) (free_agrees rfl) (fields_agree (a := 3) (b := 25)
      (field_agrees h25 (by decide)) (fields_agree (a := 20) (b := 5) (free_agrees rfl) (fields_agree (a := 1) (b := 4)
      (field_agrees (bits_one h4) (by decide)) (free_agrees rfl)))))
  · have f := h25 ▸ matchesRow_bits 25 3 hm
    have none : (armRows.take 34).filter (fun r => bits r.1 28 4 != 15 && matchesRow 3 (rowField 25 3 r)) = [] := by
      decide +kernel
    refine List.not_mem_nil (none ▸ List.mem_filter.mpr ⟨hr, ?_⟩)
    simp only [cond_of_matchesRow h28 hm, f, Bool.and_self]

theorem spells_decodeCond (h28 : bits w 28 4 = c.bits) : Spells (decodeCond c w) (.arm w) := by
  unfold decodeCond
  split
  · exact spells_decode000 h28 ‹_›
  · exact spells_decode001 h28 ‹_›
  · have h25 : bit w 25 = false := bit_sub 0 (by decide) (congrArg (bit · 0) ‹bits w 25 3 = 2#3›)
    exact spells_decodeLoadStore h28 (bits_sub (j := 1) (by decide) ‹bits w 25 3 = 2#3› rfl) fun h =>
      absurd (h25.symm.trans h) Bool.false_ne_true
  · split
    · exact spells_decodeLoadStore h28 (bits_sub (j := 1) (by decide) ‹bits w 25 3 = 3#3› rfl) fun _ => ‹_›
    · exact spells_undefArch h28 ‹_› ‹_›
  · exact spells_decodeBlock h28 ‹_›
  · split
    all_goals exact ⟨rfl, arm_eq (append_eq_bits (append_eq_bits h28.symm (append_eq_bits ‹bits w 25 3 = _›.symm
      (bits_one ‹bit w 24 = _›).symm)) rfl)⟩
  · exact spells_decode110 h28 ‹_›
  · have h25 : bits w 25 3 = 7 := eq_seven _ ‹_› ‹_› ‹_› ‹_› ‹_› ‹_› ‹_›
    have h24 (b : Bool) (h : bit w 24 = b) : (7#3 ++ ofBool b : BitVec 4) = bits w 24 4 :=
      append_eq_bits h25.symm (bits_one h).symm
    split
    · exact ⟨rfl, arm_eq (append_eq_bits (append_eq_bits h28.symm (h24 true ‹_›)) rfl)⟩
    · exact spells_decodeCp0 h28 (h24 false ‹_›).symm ‹_›
    · exact spells_decodeCoproc h28 (h24 false ‹_›).symm ‹_›

theorem spells_decodeArm (w : Word) : Spells (decodeArm w) (.arm w) := by
  unfold decodeArm
  split
  · exact spells_decodeUncond (Cond.bits_of_ofBits_none ‹_›)
  · exact spells_decodeCond (Cond.bits_of_ofBits ‹_›)

end
end Sys2Proof
end

section
/-! PROOF. Every Thumb halfword is the code of the well-formed instruction that it decodes to (30_encoding.md R300, R301), and the
two together. -/

namespace Sys2Proof
section

variable {h : Half} {r : Half × Half}

/-! The catch-all rows of the Thumb table (R301). -/

/-- The rows of the space [15:12] = 1011. -/
theorem filter_thumbMisc : (thumbRows.take 56).filter (fun r => matchesRow 11 (rowField 12 4 r)) =
    [(0xB000, 0xFF80), (0xB080, 0xFF80), (0xB400, 0xFE00), (0xBC00, 0xFE00), (0xBE00, 0xFF00)] := by
  decide +kernel

/-- The rows of the space [15:8] = 0x47. -/
theorem filter_thumbBranch : (thumbRows.take 67).filter (fun r => matchesRow 0x47 (rowField 8 8 r)) =
    [(0x4700, 0xFF87), (0x4780, 0xFF87)] := by
  decide +kernel

theorem decodeThumbMisc_ne_of_row (h12 : bits h 12 4 = 11) (hr : r ∈ thumbRows.take 56) (hm : matchesRow h r = true)
    (low : BitVec 12) : decodeThumbMisc h ≠ .tUndefMisc low := by
  have pushes : ∀ n : BitVec 4, matchesRow n (4, 14) = true → n = 4 ∨ n = 5 := by decide
  have pops : ∀ n : BitVec 4, matchesRow n (12, 14) = true → n = 12 ∨ n = 13 := by decide
  have hr' : r ∈ [(0xB000, 0xFF80), (0xB080, 0xFF80), (0xB400, 0xFE00), (0xBC00, 0xFE00), (0xBE00, 0xFF00)] :=
    filter_thumbMisc ▸ List.mem_filter.mpr ⟨hr, h12 ▸ matchesRow_bits 12 4 hm⟩
  simp only [List.mem_cons, List.not_mem_nil, or_false] at hr'
  rcases hr' with rfl | rfl | rfl | rfl | rfl
  · have h8 : bits h 8 4 = 0 := bits_of_matchesRow hm rfl
    have h7 : bit h 7 = false := bit_of_matchesRow hm rfl
    rw [decodeThumbMisc, h8, h7]
    exact Instr.noConfusion
  · have h8 : bits h 8 4 = 0 := bits_of_matchesRow hm rfl
    have h7 : bit h 7 = true := bit_of_matchesRow hm rfl
    rw [decodeThumbMisc, h8, h7]
    exact Instr.noConfusion
  · rcases pushes _ (matchesRow_bits 8 4 hm) with h8 | h8
    all_goals
      rw [decodeThumbMisc, h8]
      exact Instr.noConfusion
  · rcases pops _ (matchesRow_bits 8 4 hm) with h8 | h8
    all_goals
      rw [decodeThumbMisc, h8]
      exact Instr.noConfusion
  · have h8 : bits h 8 4 = 14 := bits_of_matchesRow hm rfl
    rw [decodeThumbMisc, h8]
    exact Instr.noConfusion

theorem decodeThumbHigh_ne_of_row (h8 : bits h 8 8 = 0x47) (hr : r ∈ thumbRows.take 67) (hm : matchesRow h r = true)
    (low : Half) : decodeThumbHigh h ≠ .tUndefRest low := by
  have hr' : r ∈ [(0x4700, 0xFF87), (0x4780, 0xFF87)] :=
    filter_thumbBranch ▸ List.mem_filter.mpr ⟨hr, h8 ▸ matchesRow_bits 8 8 hm⟩
  have h8' : bits h 8 2 = 3 := bits_sub (j := 0) (by decide) h8 rfl
  simp only [List.mem_cons, List.not_mem_nil, or_false] at hr'
  rcases hr' with rfl | rfl
  · have h7 : bit h 7 = false := bit_of_matchesRow hm rfl
    have h0 : bits h 0 3 = 0 := bits_of_matchesRow hm rfl
    rw [decodeThumbHigh, h8', h7, h0]
    exact Instr.noConfusion
  · have h7 : bit h 7 = true := bit_of_matchesRow hm rfl
    have h0 : bits h 0 3 = 0 := bits_of_matchesRow hm rfl
    rw [decodeThumbHigh, h8', h7, h0]
    exact Instr.noConfusion

/-! The formats (R300). -/

theorem encodeT8_eq {op : BitVec 5} (h11 : bits h 11 5 = op) : encodeT8 op (bits h 8 3) (bits h 0 8) = .thumb h :=
  thumb_eq (append_eq_bits (append_eq_bits h11.symm rfl) rfl)

theorem encodeT5_eq {op : BitVec 5} (h11 : bits h 11 5 = op) :
    encodeT5 op (bits h 6 5) (bits h 3 3) (bits h 0 3) = .thumb h :=
  thumb_eq (append_eq_bits (append_eq_bits (append_eq_bits h11.symm rfl) rfl) rfl)

theorem encodeT3_eq {op : BitVec 7} (h9 : bits h 9 7 = op) :
    encodeT3 op (bits h 6 3) (bits h 3 3) (bits h 0 3) = .thumb h :=
  thumb_eq (append_eq_bits (append_eq_bits (append_eq_bits h9.symm rfl) rfl) rfl)

theorem encodeTAlu_eq {op : BitVec 4} (h10 : bits h 10 6 = 16) (h6 : bits h 6 4 = op) :
    encodeTAlu op (bits h 3 3) (bits h 0 3) = .thumb h :=
  thumb_eq (append_eq_bits (append_eq_bits (append_eq_bits h10.symm h6.symm) rfl) rfl)

theorem encodeTHigh_eq {op : BitVec 2} {h1 : Bool} {r0 : LowReg} (h10 : bits h 10 6 = 17) (h8 : bits h 8 2 = op)
    (h7 : bit h 7 = h1) (h0 : bits h 0 3 = r0) : encodeTHigh op h1 (bit h 6) (bits h 3 3) r0 = .thumb h :=
  thumb_eq (append_eq_bits (append_eq_bits (append_eq_bits (append_eq_bits (append_eq_bits h10.symm h8.symm)
    (bits_one h7).symm) (bits_one rfl).symm) rfl) h0.symm)

/-! The spaces. -/

theorem spells_decodeThumb0 (h13 : bits h 13 3 = 0) : Spells (decodeThumb0 h) (.thumb h) := by
  have t5 {op : BitVec 2} {op5 : BitVec 5} (h11 : bits h 11 2 = op) (e : 0#3 ++ op = op5) :
      encodeT5 op5 (bits h 6 5) (bits h 3 3) (bits h 0 3) = .thumb h :=
    encodeT5_eq ((append_eq_bits h13.symm h11.symm).symm.trans e)
  have t3 {op : BitVec 2} {op7 : BitVec 7} (h11 : bits h 11 2 = 3) (h9 : bits h 9 2 = op) (e : 3#5 ++ op = op7) :
      encodeT3 op7 (bits h 6 3) (bits h 3 3) (bits h 0 3) = .thumb h := by
    have h11' : bits h 11 5 = 3 := (append_eq_bits h13.symm h11.symm).symm
    exact encodeT3_eq ((append_eq_bits h11'.symm h9.symm).symm.trans e)
  unfold decodeThumb0
  split
  iterate 3 exact ⟨rfl, t5 ‹_› rfl⟩
  iterate 3 exact ⟨rfl, t3 (eq_three _ ‹_› ‹_› ‹_›) ‹_› rfl⟩
  · exact ⟨rfl, t3 (eq_three _ ‹_› ‹_› ‹_›) (eq_three _ ‹_› ‹_› ‹_›) rfl⟩

theorem spells_decodeThumb1 (h13 : bits h 13 3 = 1) : Spells (decodeThumb1 h) (.thumb h) := by
  have t8 {op : BitVec 2} {op5 : BitVec 5} (h11 : bits h 11 2 = op) (e : 1#3 ++ op = op5) :
      encodeT8 op5 (bits h 8 3) (bits h 0 8) = .thumb h :=
    encodeT8_eq ((append_eq_bits h13.symm h11.symm).symm.trans e)
  unfold decodeThumb1
  split
  iterate 3 exact ⟨rfl, t8 ‹_› rfl⟩
  exact ⟨rfl, t8 (eq_three _ ‹_› ‹_› ‹_›) rfl⟩

theorem spells_decodeThumbAlu (h10 : bits h 10 6 = 16) : Spells (decodeThumbAlu h) (.thumb h) := by
  have last : ∀ n : BitVec 4, (∀ m ∈ [0, 1, 2, 3, 4, 5, 6, 7, 8, 9, 10, 11, 12, 13, 14], n = m → False) → n = 15 := by decide
  unfold decodeThumbAlu
  split
  iterate 15 exact ⟨rfl, encodeTAlu_eq h10 ‹_›⟩
  exact ⟨rfl, encodeTAlu_eq h10 (last _ (by
    simpa using ⟨‹_›, ‹_›, ‹_›, ‹_›, ‹_›, ‹_›, ‹_›, ‹_›, ‹_›, ‹_›, ‹_›, ‹_›, ‹_›, ‹_›, ‹_›⟩))⟩

theorem spells_decodeThumbHigh (h10 : bits h 10 6 = 17) : Spells (decodeThumbHigh h) (.thumb h) := by
  have rest {low : Half} (h8 : bits h 8 2 = 3) (e : decodeThumbHigh h = .tUndefRest low) :
      Spells (.tUndefRest h) (.thumb h) :=
    ⟨beq_iff_eq.mpr (firstRow_of_none (r := (0, 0)) rfl (by simp [matchesRow]) fun r hr hm =>
      decodeThumbHigh_ne_of_row (append_eq_bits h10.symm h8.symm).symm hr hm low e), rfl⟩
  generalize hi : decodeThumbHigh h = i at rest ⊢
  unfold decodeThumbHigh at hi
  repeat' split at hi
  all_goals subst hi
  iterate 3 exact ⟨rfl, encodeTHigh_eq h10 ‹_› rfl rfl⟩
  iterate 2 exact ⟨rfl, encodeTHigh_eq h10 (eq_three _ ‹_› ‹_› ‹_›) ‹_› ‹_›⟩
  exact rest (eq_three _ ‹_› ‹_› ‹_›) rfl

theorem spells_decodeThumbRegOffset (h12 : bits h 12 4 = 5) : Spells (decodeThumbRegOffset h) (.thumb h) := by
  have t3 {op : BitVec 3} {op7 : BitVec 7} (h9 : bits h 9 3 = op) (e : 5#4 ++ op = op7) :
      encodeT3 op7 (bits h 6 3) (bits h 3 3) (bits h 0 3) = .thumb h :=
    encodeT3_eq ((append_eq_bits h12.symm h9.symm).symm.trans e)
  unfold decodeThumbRegOffset
  split
  iterate 7 exact ⟨rfl, t3 ‹_› rfl⟩
  exact ⟨rfl, t3 (eq_seven _ ‹_› ‹_› ‹_› ‹_› ‹_› ‹_› ‹_›) rfl⟩

theorem spells_decodeThumbMisc (h12 : bits h 12 4 = 11) : Spells (decodeThumbMisc h) (.thumb h) := by
  have rest {low : BitVec 12} (e : decodeThumbMisc h = .tUndefMisc low) : Spells (.tUndefMisc (bits h 0 12)) (.thumb h) := by
    have whole : (11#4 ++ bits h 0 12 : BitVec 16) = bits h 0 16 := append_eq_bits h12.symm rfl
    refine ⟨?_, thumb_eq whole⟩
    rw [wellFormed, whole, bits, BitVec.extractLsb'_eq_self]
    refine beq_iff_eq.mpr (firstRow_of_none (r := (0xB000, 0xF000)) rfl ?_ fun r hr hm =>
      decodeThumbMisc_ne_of_row h12 hr hm low e)
    exact matchesRow_of_fields (fields_agree (a := 4) (b := 12) (field_agrees h12 (by decide)) (free_agrees rfl))
  have misc {op : BitVec 4} {op8 : BitVec 8} (h8 : bits h 8 4 = op) (e : 11#4 ++ op = op8) :
      (op8 ++ bits h 0 8 : BitVec 16) = bits h 0 16 :=
    append_eq_bits (e.symm.trans (append_eq_bits h12.symm h8.symm)) rfl
  have incSp {b : Bool} {op9 : BitVec 9} (h8 : bits h 8 4 = 0) (h7 : bit h 7 = b) (e : 176#8 ++ ofBool b = op9) :
      (op9 ++ bits h 0 7 : BitVec 16) = bits h 0 16 :=
    append_eq_bits (e.symm.trans (append_eq_bits (append_eq_bits h12.symm h8.symm) (bits_one h7).symm)) rfl
  generalize hi : decodeThumbMisc h = i at rest ⊢
  unfold decodeThumbMisc at hi
  split at hi
  all_goals subst hi
  case h_8 => exact rest rfl
  iterate 2 exact ⟨rfl, thumb_eq (incSp ‹_› ‹_› rfl)⟩
  all_goals exact ⟨rfl, thumb_eq (misc ‹_› rfl)⟩

theorem spells_decodeThumbCondBranch (h12 : bits h 12 4 = 13) : Spells (decodeThumbCondBranch h) (.thumb h) := by
  unfold decodeThumbCondBranch
  split
  · exact ⟨rfl, thumb_eq (append_eq_bits (append_eq_bits h12.symm (Cond.bits_of_ofBits_none ‹_›).symm) rfl)⟩
  · exact ⟨rfl, thumb_eq (append_eq_bits (append_eq_bits h12.symm (Cond.bits_of_ofBits ‹_›).symm) rfl)⟩
  · exact ⟨bne_iff_ne.mpr ‹_›, thumb_eq (append_eq_bits (append_eq_bits h12.symm (Cond.bits_of_ofBits ‹_›).symm) rfl)⟩

theorem spells_decodeThumbBranch (h13 : bits h 13 3 = 7) : Spells (decodeThumbBranch h) (.thumb h) := by
  have low {op : BitVec 2} {op5 : BitVec 5} (h11 : bits h 11 2 = op) (e : 7#3 ++ op = op5) :
      (op5 ++ bits h 0 11 : BitVec 16) = bits h 0 16 :=
    append_eq_bits (e.symm.trans (append_eq_bits h13.symm h11.symm)) rfl
  have suffix {b : Bool} {b1 : BitVec 1} (h11 : bits h 11 2 = 1) (h0 : bit h 0 = b) (e : ofBool b = b1) :
      (29#5 ++ bits h 1 10 ++ b1 : BitVec 16) = bits h 0 16 :=
    append_eq_bits (append_eq_bits (append_eq_bits h13.symm h11.symm) rfl) (e.symm.trans (bits_one h0).symm)
  unfold decodeThumbBranch
  split
  · exact ⟨rfl, thumb_eq (low ‹_› rfl)⟩
  · exact ⟨rfl, thumb_eq (suffix ‹_› ‹_› rfl)⟩
  · exact ⟨rfl, thumb_eq (suffix ‹_› ‹_› rfl)⟩
  · exact ⟨rfl, thumb_eq (low ‹_› rfl)⟩
  · have h1 : bits h 11 2 = 1#2 → False := fun e => by
      cases b : bit h 0
      · exact ‹bits h 11 2 = 1#2 → bit h 0 = false → False› e b
      · exact ‹bits h 11 2 = 1#2 → bit h 0 = true → False› e b
    exact ⟨rfl, thumb_eq (low (eq_three _ ‹_› h1 ‹_›) rfl)⟩

/-- The words of [15:12] = 6 to 10 and 12 are all taken, by bit 11. -/
theorem ne_of_halves {v : BitVec 4} (h0 : bits h 12 4 = v → bit h 11 = false → False)
    (h1 : bits h 12 4 = v → bit h 11 = true → False) : bits h 12 4 ≠ v := fun e => by
  cases b : bit h 11
  · exact h0 e b
  · exact h1 e b

theorem spells_decodeThumb (h : Half) : Spells (decodeThumb h) (.thumb h) := by
  have h13 {v : BitVec 4} {u : BitVec 3} (h12 : bits h 12 4 = v) (hu : bits v 1 3 = u) : bits h 13 3 = u :=
    bits_sub (i := 12) (j := 1) (by decide) h12 hu
  have h11 {v : BitVec 4} {b : Bool} {u : BitVec 5} (h12 : bits h 12 4 = v) (hb : bit h 11 = b) (hu : v ++ ofBool b = u) :
      bits h 11 5 = u := (append_eq_bits h12.symm (bits_one hb).symm).symm.trans hu
  unfold decodeThumb
  split
  iterate 2 exact spells_decodeThumb0 (h13 ‹_› rfl)
  iterate 2 exact spells_decodeThumb1 (h13 ‹_› rfl)
  · exact spells_decodeThumbAlu (append_eq_bits ‹bits h 12 4 = _›.symm ‹bits h 10 2 = _›.symm).symm
  · exact spells_decodeThumbHigh (append_eq_bits ‹bits h 12 4 = _›.symm ‹bits h 10 2 = _›.symm).symm
  · have high : ∀ n : BitVec 2, (n = 0 → False) → (n = 1 → False) → bit n 1 = true := by decide
    exact ⟨rfl, encodeT8_eq (h11 (b := true) ‹_› (bit_sub (i := 10) (l := 2) 1 (by decide) (high _ ‹_› ‹_›)) rfl)⟩
  · exact spells_decodeThumbRegOffset ‹_›
  iterate 6 exact ⟨rfl, encodeT5_eq (h11 ‹_› ‹_› rfl)⟩
  iterate 4 exact ⟨rfl, encodeT8_eq (h11 ‹_› ‹_› rfl)⟩
  · exact spells_decodeThumbMisc ‹_›
  iterate 2 exact ⟨rfl, encodeT8_eq (h11 ‹_› ‹_› rfl)⟩
  · exact spells_decodeThumbCondBranch ‹_›
  · have last : ∀ n : BitVec 4, (∀ m ∈ [0, 1, 2, 3, 4, 5, 6, 7, 8, 9, 10, 11, 12, 13], n ≠ m) → n = 14 ∨ n = 15 := by decide
    have e : bits h 12 4 = 14 ∨ bits h 12 4 = 15 := last _ (by
      simp only [List.forall_mem_cons]
      exact ⟨‹_›, ‹_›, ‹_›, ‹_›, ‹_›, ‹_›, ne_of_halves ‹_› ‹_›, ne_of_halves ‹_› ‹_›, ne_of_halves ‹_› ‹_›,
        ne_of_halves ‹_› ‹_›, ne_of_halves ‹_› ‹_›, ‹_›, ne_of_halves ‹_› ‹_›, ‹_›, List.forall_mem_nil _⟩)
    rcases e with e | e
    all_goals exact spells_decodeThumbBranch (h13 e rfl)

end

/-- Settles O3: the decoder walks the fields of a word, and each leaf of the walk spells them again. -/
theorem encodeOfDecode : Obligations.EncodeOfDecode
  | .arm w => ⟨(spells_decodeArm w).wf, (spells_decodeArm w).code⟩
  | .thumb h => ⟨(spells_decodeThumb h).wf, (spells_decodeThumb h).code⟩

end Sys2Proof
end

section
/-! PROOF. The operands of a word, from the fields that they fill (30_encoding.md R284, R286, R288-R290). -/

namespace Sys2Proof
section

variable {c : Cond} {w : Word}

/-! The operands, from the fields that they fill. -/

theorem bit_of_field {n lo len : Nat} {v : BitVec n} {x : BitVec len} (i : Nat) (h : bits v lo len = x) (hi : i < len) :
    bit v (lo + i) = bit x i := h ▸ (bit_bits hi).symm

/-- The fields below bit 12, where the operands stand. -/
theorem operand_fields {x : BitVec 12} (h0 : bits w 0 12 = x) :
    bits w 8 4 = bits x 8 4 ∧ bits w 7 5 = bits x 7 5 ∧ bits w 5 2 = bits x 5 2 ∧ bits w 0 4 = bits x 0 4 ∧
      bits w 0 8 = bits x 0 8 ∧ bit w 7 = bit x 7 ∧ bit w 4 = bit x 4 := by
  have field (lo len : Nat) (h : lo + len ≤ 12) : bits w lo len = bits x lo len := by
    have e := bits_sub (i := 0) (j := lo) (k := len) h h0 rfl
    rwa [Nat.zero_add] at e
  have single (i : Nat) (h : i < 12) : bit w i = bit x i := by
    have e := bit_of_field i h0 h
    rwa [Nat.zero_add] at e
  exact ⟨field 8 4 (by decide), field 7 5 (by decide), field 5 2 (by decide), field 0 4 (by decide), field 0 8 (by decide),
    single 7 (by decide), single 4 (by decide)⟩

theorem decodeShifter_eq {op2 : ShifterOp} (h25 : bit w 25 = bit op2.iBit 0) (h0 : bits w 0 12 = op2.bits) :
    decodeShifter w = op2 := by
  have f := operand_fields h0
  rw [decodeShifter, h25]
  cases op2
  all_goals
    simp (disch := decide) only [f, ShifterOp.iBit, ShifterOp.bits, bits, bit, read_append, BitVec.extractLsb'_eq_self,
      BitVec.reduceGetLsb, BitVec.ofNat_eq_ofNat, Nat.reduceSub, ShiftKind.ofBits_bits]

/-- A shift by register has bit 7 clear (R284). -/
theorem bit7_of_shiftReg {op2 : ShifterOp} (h25 : bit w 25 = bit op2.iBit 0) (h0 : bits w 0 12 = op2.bits)
    (hi : bit w 25 = false) (h4 : bit w 4 = true) : bit w 7 = false := by
  have f := operand_fields h0
  cases op2
  case imm => exact absurd (hi.symm.trans h25) (by rw [ShifterOp.iBit]; decide)
  all_goals simp (disch := decide) only [f, ShifterOp.bits, bit, read_append, BitVec.reduceGetLsb, Nat.reduceSub] at h4 ⊢
  cases h4

theorem decodeOffset2_eq {off : Offset2} {b4 : BitVec 1} (h25 : bit w 25 = bit off.iBit 0) (h0 : bits w 0 12 = off.bits b4) :
    decodeOffset2 w = off := by
  have f := operand_fields h0
  rw [decodeOffset2, h25, h0]
  cases off
  all_goals
    simp (disch := decide) only [f, Offset2.iBit, Offset2.bits, bits, bit, read_append, BitVec.extractLsb'_eq_self,
      BitVec.reduceGetLsb, BitVec.ofNat_eq_ofNat, Nat.reduceSub, ShiftKind.ofBits_bits]

/-- Bit 4 of a scaled offset is free for the instruction to fix (R288). -/
theorem bit4_of_scaled {off : Offset2} {b4 : BitVec 1} (h25 : bit w 25 = bit off.iBit 0) (h0 : bits w 0 12 = off.bits b4)
    (hi : bit w 25 = true) : bit w 4 = bit b4 0 := by
  have f := operand_fields h0
  cases off
  case imm => exact absurd (hi.symm.trans h25) (by rw [Offset2.iBit]; decide)
  case scaled => simp (disch := decide) only [f, Offset2.bits, bit, read_append, Nat.reduceSub]

theorem decodeOffset3_eq {off : Offset3} (h22 : bit w 22 = bit off.iBit 0) (h8 : bits w 8 4 = off.hi)
    (h0 : bits w 0 4 = off.lo) : decodeOffset3 w = off := by
  cases off with
  | imm offset =>
    have imm : bit w 22 = true := by rw [h22, Offset3.iBit]; rfl
    have whole : (bits offset 4 4 ++ bits offset 0 4 : BitVec 8) = bits offset 0 8 := append_eq_bits rfl rfl
    rw [decodeOffset3, imm, h8, h0]
    exact congrArg Offset3.imm (whole.trans BitVec.extractLsb'_eq_self)
  | reg sbz rm =>
    have reg : bit w 22 = false := by rw [h22, Offset3.iBit]; rfl
    rw [decodeOffset3, reg, h8, h0]
    rfl

theorem decodeIndexing_eq {ix : Indexing} (h24 : bit w 24 = bit ix.pBit 0) (h21 : bit w 21 = bit ix.wBit 0) :
    decodeIndexing w = ix := by
  rw [decodeIndexing, h24, h21]
  cases ix <;> rfl

theorem decodeBlockMode_eq {m : BlockMode} (h23 : bits w 23 2 = m.puBits) : decodeBlockMode w = m := by
  rw [decodeBlockMode, bit_of_field 1 h23 (by decide), bit_of_field 0 h23 (by decide)]
  cases m <;> rfl

@[simp] theorem HalfSel.ofBit_bit (x : HalfSel) : HalfSel.ofBit (x.bit.getLsbD 0) = x := by cases x <;> rfl

end
end Sys2Proof
end

section
/-! PROOF. The fields of a word of each format of the encoder, and the space of the decoder that they lead to (30_encoding.md R283,
R297). -/

namespace Sys2Proof
section

variable {c : Cond} {w : Word}

/-! The fields of the formats. -/

theorem encodeDp_fields {op : BitVec 4} {s : Bool} {rn rd : Reg} {op2 : ShifterOp} (h : encodeDp c op s rn rd op2 = .arm w) :
    bits w 28 4 = c.bits ∧ bits w 26 2 = 0#2 ∧ bit w 25 = bit op2.iBit 0 ∧ bits w 0 12 = op2.bits ∧ bits w 21 4 = op ∧
      bit w 20 = s ∧ bits w 16 4 = rn ∧ bits w 12 4 = rd := by
  cases h
  simp (disch := decide) only [bits, bit, read_append, BitVec.extractLsb'_eq_self, getLsbD_ofBool, Nat.reduceSub, and_self]

theorem encodeLs_fields {ix : Indexing} {u : Bool} {b l : BitVec 1} {rn rd : Reg} {off : Offset2}
    (h : encodeLs c ix u b l rn rd off = .arm w) :
    bits w 28 4 = c.bits ∧ bits w 26 2 = 1#2 ∧ bit w 25 = bit off.iBit 0 ∧ bits w 0 12 = off.bits 0#1 ∧
      bit w 24 = bit ix.pBit 0 ∧ bit w 21 = bit ix.wBit 0 ∧ bit w 23 = u ∧ bit w 22 = bit b 0 ∧ bit w 20 = bit l 0 ∧
      bits w 16 4 = rn ∧ bits w 12 4 = rd := by
  cases h
  simp (disch := decide) only [bits, bit, read_append, BitVec.extractLsb'_eq_self, getLsbD_ofBool, Nat.reduceSub, and_self]

theorem encodeExtra_fields {ix : Indexing} {u : Bool} {l : BitVec 1} {sh : BitVec 2} {rn rd : Reg} {off : Offset3}
    (h : encodeExtra c ix u l sh rn rd off = .arm w) :
    bits w 28 4 = c.bits ∧ bits w 25 3 = 0#3 ∧ bit w 7 = true ∧ bit w 4 = true ∧ bit w 24 = bit ix.pBit 0 ∧
      bit w 21 = bit ix.wBit 0 ∧ bit w 22 = bit off.iBit 0 ∧ bits w 8 4 = off.hi ∧ bits w 0 4 = off.lo ∧ bit w 23 = u ∧
      bit w 20 = bit l 0 ∧ bits w 5 2 = sh ∧ bits w 16 4 = rn ∧ bits w 12 4 = rd := by
  cases h
  simp (disch := decide) only [bits, bit, read_append, BitVec.extractLsb'_eq_self, getLsbD_ofBool, BitVec.reduceGetLsb,
    Nat.reduceSub, and_self]

theorem encodeBlock_fields {m : BlockMode} {s l : BitVec 1} {b : Bool} {rn : Reg} {list : BitVec 16}
    (h : encodeBlock c m s b l rn list = .arm w) :
    bits w 28 4 = c.bits ∧ bits w 25 3 = 4#3 ∧ bits w 23 2 = m.puBits ∧ bits w 0 16 = list ∧ bit w 22 = bit s 0 ∧
      bit w 21 = b ∧ bit w 20 = bit l 0 ∧ bits w 16 4 = rn := by
  cases h
  simp (disch := decide) only [bits, bit, read_append, BitVec.extractLsb'_eq_self, getLsbD_ofBool, Nat.reduceSub, and_self]

theorem encodeMul_fields {op : BitVec 7} {s : Bool} {f1 f2 rs rm : Reg} (h : encodeMul c op s f1 f2 rs rm = .arm w) :
    bits w 28 4 = c.bits ∧ bits w 25 3 = bits op 4 3 ∧ bit w 7 = true ∧ bit w 4 = true ∧ bits w 5 2 = 0#2 ∧
      bits w 21 4 = bits op 0 4 ∧ bit w 20 = s ∧ bits w 16 4 = f1 ∧ bits w 12 4 = f2 ∧ bits w 8 4 = rs ∧ bits w 0 4 = rm := by
  cases h
  simp (disch := decide) only [bits, bit, read_append, BitVec.extractLsb'_eq_self, getLsbD_ofBool, BitVec.reduceExtractLsb',
    BitVec.reduceGetLsb, Nat.reduceSub, and_self]

theorem encodeHalfMul_fields {op : BitVec 2} {f1 f2 rs rm : Reg} {y x : BitVec 1}
    (h : encodeHalfMul c op f1 f2 rs y x rm = .arm w) :
    bits w 28 4 = c.bits ∧ bits w 25 3 = 0#3 ∧ bits w 23 2 = 2#2 ∧ bit w 20 = false ∧ bit w 7 = true ∧ bit w 4 = false ∧
      bits w 6 1 = y ∧ bits w 5 1 = x ∧ bits w 21 2 = op ∧ bits w 16 4 = f1 ∧ bits w 12 4 = f2 ∧ bits w 8 4 = rs ∧
      bits w 0 4 = rm := by
  cases h
  simp (disch := decide) only [bits, bit, read_append, BitVec.extractLsb'_eq_self, BitVec.reduceExtractLsb',
    BitVec.reduceGetLsb, Nat.reduceSub, and_self]

theorem encodeSat_fields {op : BitVec 2} {rn rd rm : Reg} (h : encodeSat c op rn rd rm = .arm w) :
    bits w 28 4 = c.bits ∧ bits w 25 3 = 0#3 ∧ bits w 23 2 = 2#2 ∧ bit w 20 = false ∧ bit w 7 = false ∧
      bits w 4 4 = 5#4 ∧ bits w 8 4 = 0#4 ∧ bits w 21 2 = op ∧ bits w 16 4 = rn ∧ bits w 12 4 = rd ∧ bits w 0 4 = rm := by
  cases h
  simp (disch := decide) only [bits, bit, read_append, BitVec.extractLsb'_eq_self, BitVec.reduceExtractLsb',
    BitVec.reduceGetLsb, Nat.reduceSub, and_self]

theorem encodeCp_fields {op1 op2 : BitVec 3} {l : BitVec 1} {crn cp crm : BitVec 4} {rd : Reg}
    (h : encodeCp c op1 l crn rd cp op2 crm = .arm w) :
    bits w 28 4 = c.bits ∧ bits w 24 4 = 14#4 ∧ bits w 8 4 = cp ∧ bit w 4 = true ∧ bit w 20 = bit l 0 ∧
      bits w 21 3 = op1 ∧ bits w 16 4 = crn ∧ bits w 12 4 = rd ∧ bits w 5 3 = op2 ∧ bits w 0 4 = crm := by
  cases h
  simp (disch := decide) only [bits, bit, read_append, BitVec.extractLsb'_eq_self, BitVec.reduceGetLsb, Nat.reduceSub, and_self]

theorem encodeMia_fields {op3 rs rm : Reg} (h : encodeMia c op3 rs rm = .arm w) :
    bits w 28 4 = c.bits ∧ bits w 24 4 = 14#4 ∧ bits w 8 4 = 0#4 ∧ bits w 20 4 = 2#4 ∧ bits w 4 4 = 1#4 ∧ bits w 16 4 = op3 ∧
      bits w 12 4 = rs ∧ bits w 0 4 = rm := by
  cases h
  simp (disch := decide) only [bits, read_append, BitVec.extractLsb'_eq_self, BitVec.reduceExtractLsb', Nat.reduceSub, and_self]

theorem encodeCp2_fields {l : BitVec 1} {rn rd : Reg} {cp op crm : BitVec 4} (h : encodeCp2 c l rn rd cp op crm = .arm w) :
    bits w 28 4 = c.bits ∧ bits w 25 3 = 6#3 ∧ bits w 4 4 = op ∧ bits w 0 4 = crm ∧ bits w 21 4 = 2#4 ∧ bits w 8 4 = cp ∧
      bit w 20 = bit l 0 ∧ bits w 16 4 = rn ∧ bits w 12 4 = rd := by
  cases h
  simp (disch := decide) only [bits, bit, read_append, BitVec.extractLsb'_eq_self, BitVec.reduceExtractLsb', Nat.reduceSub,
    and_self]

theorem encodeCpMem_fields {p u n b : Bool} {l : BitVec 1} {rn : Reg} {crd cp : BitVec 4} {off : Byte}
    (h : encodeCpMem c p u n b l rn crd cp off = .arm w) :
    bits w 28 4 = c.bits ∧ bits w 25 3 = 6#3 ∧ bit w 24 = p ∧
      bit w 23 = u ∧ bit w 22 = n ∧ bit w 21 = b ∧ bit w 20 = bit l 0 ∧ bits w 16 4 = rn ∧ bits w 12 4 = crd ∧ bits w 8 4 = cp ∧
      bits w 0 8 = off := by
  cases h
  simp (disch := decide) only [bits, bit, read_append, BitVec.extractLsb'_eq_self, getLsbD_ofBool, Nat.reduceSub, and_self]

/-! The space of the decoder that the fixed fields of a word lead to (R283, R297). -/

theorem decode_mulSpace (h28 : bits w 28 4 = c.bits) (h25 : bits w 25 3 = 0#3) (h7 : bit w 7 = true) (h4 : bit w 4 = true) :
    decode (.arm w) = decodeMulSpace c w := by
  simp only [decode, decodeArm, h28, Cond.ofBits_bits, decodeCond, h25, decode000, h7, h4]

theorem decode_misc (h28 : bits w 28 4 = c.bits) (h25 : bits w 25 3 = 0#3) (h23 : bits w 23 2 = 2#2) (h20 : bit w 20 = false)
    (h74 : bit w 7 = false ∨ bit w 4 = false) : decode (.arm w) = decodeMisc c w := by
  simp only [decode, decodeArm, h28, Cond.ofBits_bits, decodeCond, h25, decode000, h23, h20]
  split
  · simp_all
  · rfl

/-- A data-processing word is no multiply, and it is neither in the miscellaneous space nor an MSR, for a test or a compare has
S = 1. -/
theorem decode_dataProc (h28 : bits w 28 4 = c.bits) (h26 : bits w 26 2 = 0#2)
    (h7 : bit w 25 = false → bit w 4 = true → bit w 7 = false) (hs : bits w 23 2 = 2 → bit w 20 = true) :
    decode (.arm w) = decodeDataProc c w := by
  have h25 : bits w 25 3 = 0#2 ++ ofBool (bit w 25) := (append_eq_bits h26.symm (bits_one rfl).symm).symm
  rw [decode, decodeArm, h28, Cond.ofBits_bits]
  cases hi : bit w 25
  · replace h25 : bits w 25 3 = 0#3 := h25.trans (by rw [hi]; rfl)
    simp only [decodeCond, h25, decode000]
    split
    · rename_i h7' h4
      exact absurd (h7'.symm.trans (h7 hi h4)) Bool.false_ne_true.symm
    · split
      · rename_i h23 h20
        exact absurd (h20.symm.trans (hs h23)) Bool.false_ne_true
      · rfl
  · replace h25 : bits w 25 3 = 1#3 := h25.trans (by rw [hi]; rfl)
    simp only [decodeCond, h25, decode001]
    split
    · rename_i h23 h20 _
      have h20' : bit w 20 = false := bit_of_field 0 h20 (by decide)
      exact absurd (h20'.symm.trans (hs h23)) Bool.false_ne_true
    · rfl

theorem decode_loadStore (h28 : bits w 28 4 = c.bits) (h26 : bits w 26 2 = 1#2) (h4 : bit w 25 = true → bit w 4 = false) :
    decode (.arm w) = decodeLoadStore c w := by
  have h25 : bits w 25 3 = 1#2 ++ ofBool (bit w 25) := (append_eq_bits h26.symm (bits_one rfl).symm).symm
  cases hi : bit w 25
  · replace h25 : bits w 25 3 = 2#3 := h25.trans (by rw [hi]; rfl)
    simp only [decode, decodeArm, h28, Cond.ofBits_bits, decodeCond, h25]
  · replace h25 : bits w 25 3 = 3#3 := h25.trans (by rw [hi]; rfl)
    simp only [decode, decodeArm, h28, Cond.ofBits_bits, decodeCond, h25, h4 hi]

theorem decode_block (h28 : bits w 28 4 = c.bits) (h25 : bits w 25 3 = 4#3) : decode (.arm w) = decodeBlock c w := by
  simp only [decode, decodeArm, h28, Cond.ofBits_bits, decodeCond, h25]

theorem decode_110 (h28 : bits w 28 4 = c.bits) (h25 : bits w 25 3 = 6#3) : decode (.arm w) = decode110 c w := by
  simp only [decode, decodeArm, h28, Cond.ofBits_bits, decodeCond, h25]

theorem decode_cp0 (h28 : bits w 28 4 = c.bits) (h24 : bits w 24 4 = 14#4) (h8 : bits w 8 4 = 0#4) :
    decode (.arm w) = decodeCp0 c w := by
  have h25 : bits w 25 3 = 7#3 := bits_sub (i := 24) (j := 1) (by decide) h24 rfl
  have h24' : bit w 24 = false := bit_of_field 0 h24 (by decide)
  simp only [decode, decodeArm, h28, Cond.ofBits_bits, decodeCond, h25, h24', h8]
  rfl

theorem decode_coproc (h28 : bits w 28 4 = c.bits) (h24 : bits w 24 4 = 14#4) (h8 : bits w 8 4 ≠ 0#4) :
    decode (.arm w) = decodeCoproc c w := by
  have h25 : bits w 25 3 = 7#3 := bits_sub (i := 24) (j := 1) (by decide) h24 rfl
  have h24' : bit w 24 = false := bit_of_field 0 h24 (by decide)
  rw [decode, decodeArm, h28, Cond.ofBits_bits]
  show decodeCond c w = _
  unfold decodeCond
  split
  case h_8 =>
    rw [h24']
    split
    · contradiction
    · exact absurd ‹_› h8
    · rfl
  all_goals exact absurd (h25.symm.trans ‹bits w 25 3 = _›) (by decide)

end
end Sys2Proof
end

section
/-! PROOF. The code of an instruction matches the row of the opcode table that its constructor has (30_encoding.md R297, R301). -/

namespace Sys2Proof
section

variable {c : Cond} {w : Word} {i : Instr}

/-- `matchesRow` with the row as numbers, of which the bits above the code do not count. -/
def matchesNat {n : Nat} (x : BitVec n) (m k : Nat) : Bool := matchesRow x (BitVec.ofNat n m, BitVec.ofNat n k)

theorem matchesNat_append {a b : Nat} (x : BitVec a) (y : BitVec b) (m k : Nat) :
    matchesNat (x ++ y) m k = (matchesNat x (m >>> b) (k >>> b) && matchesNat y m k) := by
  have hi (j : Nat) : bits (BitVec.ofNat (a + b) j) b a = BitVec.ofNat a (j >>> b) := by
    refine BitVec.eq_of_getLsbD_eq fun i h => ?_
    simp only [BitVec.getLsbD_extractLsb', BitVec.getLsbD_ofNat, Nat.testBit_shiftRight, h, show b + i < a + b by omega,
      decide_true, Bool.true_and]
  have lo (j : Nat) : bits (BitVec.ofNat (a + b) j) 0 b = BitVec.ofNat b j := by
    refine BitVec.eq_of_getLsbD_eq fun i h => ?_
    simp only [BitVec.getLsbD_extractLsb', BitVec.getLsbD_ofNat, Nat.zero_add, h, show i < a + b by omega, decide_true,
      Bool.true_and]
  rw [matchesNat, matchesRow_append, rowField, rowField, hi, hi, lo, lo]
  rfl

/-- The constructors stand in the order of the rows, and the word of an instruction matches the row of its constructor. -/
theorem matchesRow_of_encode {r : Word × Word} (hwf : wellFormed i = true) (h : encode i = .arm w)
    (hr : armRows[i.ctorIdx]? = some r) : matchesRow w r = true := by
  cases i
  case undefUncond | undefMulSpace | undefArch | undefRest =>
    cases h
    exact matchesRow_of_firstRow (beq_iff_eq.mp hwf) hr
  all_goals cases h
  all_goals
    cases hr
    show matchesNat _ _ _ = true
    simp only [matchesNat_append, Nat.reduceShiftRight]
    simp only [matchesNat, matchesRow, Nat.reduceAdd, Nat.reduceShiftRight, BitVec.reduceOfNat, BitVec.ofNat_eq_ofNat,
      BitVec.and_zero, BitVec.reduceAnd, beq_self_eq_true, Bool.and_self] <;> rfl

/-- The same for a halfword and the rows of the Thumb table. -/
theorem matchesRow_of_encode_thumb {h : Half} {r : Half × Half} (hwf : wellFormed i = true) (e : encode i = .thumb h)
    (hr : thumbRows[i.ctorIdx - 110]? = some r) : matchesRow h r = true := by
  cases i
  case tUndefMisc | tUndefRest =>
    cases e
    exact matchesRow_of_firstRow (beq_iff_eq.mp hwf) hr
  all_goals cases e
  all_goals
    cases hr
    show matchesNat _ _ _ = true
    simp only [matchesNat_append, Nat.reduceShiftRight]
    simp only [matchesNat, matchesRow, BitVec.reduceOfNat, BitVec.ofNat_eq_ofNat, BitVec.and_zero, BitVec.reduceAnd, beq_self_eq_true, Bool.and_self] <;> rfl

theorem ctorIdx_of_arm (h : encode i = .arm w) : i.ctorIdx < 110 := by
  cases i
  all_goals cases h
  all_goals exact of_decide_eq_true rfl

/-- No instruction has a word of an earlier row than its own. -/
theorem firstRow_le_ctorIdx (hwf : wellFormed i = true) (h : encode i = .arm w) : firstRow armRows w ≤ i.ctorIdx := by
  have hlt : i.ctorIdx < armRows.length := ctorIdx_of_arm h
  exact firstRow_le (List.getElem?_eq_getElem hlt) (matchesRow_of_encode hwf h (List.getElem?_eq_getElem hlt))

end
end Sys2Proof
end

section
/-! PROOF. Decoding the word of an instruction with a form of its own or of a catch-all row (30_encoding.md R286, R292, R295, R297). -/

namespace Sys2Proof
section

variable {c : Cond} {w : Word}

theorem decodeCp15Function_eq_none {rd : Reg} {crn crm : BitVec 4} {op2 : BitVec 3}
    (h : cp15Functions.contains (crn, crm, op2) = false) : decodeCp15Function c rd crn crm op2 = none := by
  unfold decodeCp15Function
  split
  case h_23 => rfl
  all_goals exact absurd h (by decide)

theorem isMiaPattern_of_bits (h20 : bits w 20 4 = 2#4) (h4 : bits w 4 4 = 1#4)
    (h16 : bits w 16 4 ∈ [0#4, 8#4, 12#4, 13#4, 14#4, 15#4]) :
    isMiaPattern (bits w 21 3) (bit w 20) (bits w 16 4) (bits w 5 3) (bit w 4) = true := by
  have codes : ∀ n ∈ [0#4, 8#4, 12#4, 13#4, 14#4, 15#4], isMiaPattern 1 false n 0 true = true := by decide
  rw [bits_sub (i := 20) (j := 1) (by decide) h20 rfl, bit_of_field 0 h20 (by decide),
    bits_sub (i := 4) (j := 1) (by decide) h4 rfl, bit_of_field 0 h4 (by decide)]
  exact codes _ h16

/-! The instructions with a word of their own form. -/

theorem decode_undefBkptCond {immHi : BitVec 12} {immLo : BitVec 4} (hc : c ≠ .al)
    (h : encode (.undefBkptCond c immHi immLo) = .arm w) : decode (.arm w) = .undefBkptCond c immHi immLo := by
  cases h
  simp (disch := decide) only [decode, decodeArm, decodeCond, decode000, decodeMisc, Cond.ofBits_bits, bits, bit, read_append,
    BitVec.extractLsb'_eq_self, BitVec.reduceExtractLsb', BitVec.reduceGetLsb, Nat.reduceSub]
  split
  · contradiction
  · rfl

theorem decode_mrs {r : Bool} {rd : Reg} (h : encode (.mrs c r rd) = .arm w) : decode (.arm w) = .mrs c r rd := by
  cases h
  cases r
  all_goals
    simp (disch := decide) only [decode, decodeArm, decodeCond, decode000, decodeMisc, decodeMisc.decodeMrs, Cond.ofBits_bits,
      bits, bit, read_append, BitVec.extractLsb'_eq_self, BitVec.ofBool_false, BitVec.ofBool_true, BitVec.reduceExtractLsb',
      BitVec.reduceGetLsb, BitVec.reduceSetWidth, BitVec.reduceAppend, Nat.reduceSub]

theorem decode_msrReg {r : Bool} {mask rm : BitVec 4} (h : encode (.msrReg c r mask rm) = .arm w) :
    decode (.arm w) = .msrReg c r mask rm := by
  cases h
  cases r
  all_goals
    simp (disch := decide) only [decode, decodeArm, decodeCond, decode000, decodeMisc, Cond.ofBits_bits, bits, bit, read_append,
      BitVec.extractLsb'_eq_self, BitVec.ofBool_false, BitVec.ofBool_true, BitVec.reduceExtractLsb', BitVec.reduceGetLsb,
      BitVec.reduceSetWidth, BitVec.reduceAppend, Nat.reduceSub]

theorem decode_mcr {op1 op2 : BitVec 3} {crn cp crm : BitVec 4} {rd : Reg} (hg : genericMcr op1 crn cp op2 crm = true)
    (h : encode (.mcr c op1 crn rd cp op2 crm) = .arm w) : decode (.arm w) = .mcr c op1 crn rd cp op2 crm := by
  obtain ⟨h28, h24, h8, f⟩ := encodeCp_fields h
  rw [genericMcr, Bool.and_eq_true, bne_iff_ne] at hg
  rw [decode_coproc h28 h24 (h8 ▸ hg.1)]
  simp only [decodeCoproc, h8, f, bit, BitVec.reduceGetLsb]
  split
  · rw [decodeCp15Function_eq_none ((Bool.not_eq_true' _).mp hg.2)]
    rfl
  · rfl

theorem decode_mrc {op1 op2 : BitVec 3} {crn cp crm : BitVec 4} {rd : Reg} (hg : genericMrc op1 crn cp op2 crm = true)
    (h : encode (.mrc c op1 crn rd cp op2 crm) = .arm w) : decode (.arm w) = .mrc c op1 crn rd cp op2 crm := by
  obtain ⟨h28, h24, h8, f⟩ := encodeCp_fields h
  rw [genericMrc, Bool.and_eq_true, bne_iff_ne] at hg
  rw [decode_coproc h28 h24 (h8 ▸ hg.1)]
  simp only [decodeCoproc, h8, f, bit, BitVec.reduceGetLsb]
  split
  · exact absurd hg.2 (by decide)
  · rfl

theorem decode_cdp {op1 crn crd cp crm : BitVec 4} {op2 : BitVec 3} (hcp : cp ≠ 0)
    (h : encode (.cdp c op1 crn crd cp op2 crm) = .arm w) : decode (.arm w) = .cdp c op1 crn crd cp op2 crm := by
  have f : bits w 28 4 = c.bits ∧ bits w 24 4 = 14#4 ∧ bits w 8 4 = cp ∧ bit w 4 = false ∧ bits w 20 4 = op1 ∧
      bits w 16 4 = crn ∧ bits w 12 4 = crd ∧ bits w 5 3 = op2 ∧ bits w 0 4 = crm := by
    cases h
    simp (disch := decide) only [bits, bit, read_append, BitVec.extractLsb'_eq_self, BitVec.reduceGetLsb, Nat.reduceSub,
      and_self]
  obtain ⟨h28, h24, h8, f⟩ := f
  rw [decode_coproc h28 h24 (h8 ▸ hcp)]
  simp only [decodeCoproc, h8, f]

theorem decode_cp0Other {op1 op2 : BitVec 3} {bit20 bit4 : Bool} {crn crm : BitVec 4} {rd : Reg}
    (hm : isMiaPattern op1 bit20 crn op2 bit4 = false) (h : encode (.cp0Other c op1 bit20 crn rd op2 bit4 crm) = .arm w) :
    decode (.arm w) = .cp0Other c op1 bit20 crn rd op2 bit4 crm := by
  have f : bits w 28 4 = c.bits ∧ bits w 24 4 = 14#4 ∧ bits w 8 4 = 0#4 ∧ bits w 21 3 = op1 ∧ bit w 20 = bit20 ∧
      bits w 16 4 = crn ∧ bits w 12 4 = rd ∧ bits w 5 3 = op2 ∧ bit w 4 = bit4 ∧ bits w 0 4 = crm := by
    cases h
    simp (disch := decide) only [bits, bit, read_append, BitVec.extractLsb'_eq_self, getLsbD_ofBool, Nat.reduceSub, and_self]
  obtain ⟨h28, h24, h8, rfl, rfl, rfl, rfl, rfl, rfl, rfl⟩ := f
  rw [decode_cp0 h28 h24 h8]
  unfold decodeCp0
  split
  case h_7 => rfl
  all_goals exact absurd (isMiaPattern_of_bits ‹_› ‹_› (by simp only [‹bits w 16 4 = _›]; decide)) (Bool.eq_false_iff.mp hm)

theorem decode_cp0TransferOther {l : Bool} {rn rd : Reg} {low : BitVec 8} (hlow : low ≠ 0)
    (h : encode (.cp0TransferOther c l rn rd low) = .arm w) : decode (.arm w) = .cp0TransferOther c l rn rd low := by
  have f : bits w 28 4 = c.bits ∧ bits w 25 3 = 6#3 ∧ bits w 21 4 = 2#4 ∧ bits w 8 4 = 0#4 ∧ bit w 20 = l ∧
      bits w 16 4 = rn ∧ bits w 12 4 = rd ∧ bits w 0 8 = low := by
    cases h
    simp (disch := decide) only [bits, bit, read_append, BitVec.extractLsb'_eq_self, BitVec.reduceExtractLsb', getLsbD_ofBool,
      Nat.reduceSub, and_self]
  obtain ⟨h28, h25, f⟩ := f
  rw [decode_110 h28 h25]
  simp only [decode110, f]
  split
  · contradiction
  · contradiction
  · rfl

theorem decode_mcrrMrrc {l : BitVec 1} {rn rd : Reg} {cp op crm : BitVec 4} (hcp : cp ≠ 0)
    (h : encodeCp2 c l rn rd cp op crm = .arm w) :
    decode (.arm w) = if bit l 0 then .mrrc c rn rd cp op crm else .mcrr c rn rd cp op crm := by
  obtain ⟨h28, h25, rfl, rfl, h21, rfl, h20, rfl, rfl⟩ := encodeCp2_fields h
  rw [decode_110 h28 h25, ← h20]
  unfold decode110
  split
  · exact absurd (h21.symm.trans ‹_›) (by decide)
  · contradiction
  · rw [‹bit w 20 = false›]; rfl
  · rw [‹bit w 20 = true›]; rfl
  · contradiction
  · contradiction

theorem decode_ldcStc {p u n b : Bool} {l : BitVec 1} {rn : Reg} {crd cp : BitVec 4} {off : Byte}
    (hf : ldcForm p u b = true) (h : encodeCpMem c p u n b l rn crd cp off = .arm w) :
    decode (.arm w) = if bit l 0 then .ldc c p u n b rn crd cp off else .stc c p u n b rn crd cp off := by
  obtain ⟨h28, h25, rfl, rfl, rfl, rfl, h20, rfl, rfl, rfl, rfl⟩ := encodeCpMem_fields h
  obtain ⟨n0, n2⟩ := (ldcForm_iff w).mp hf
  rw [decode_110 h28 h25, ← h20]
  unfold decode110
  split
  · contradiction
  · contradiction
  · contradiction
  · contradiction
  · rw [‹bit w 20 = true›]; rfl
  · rw [‹bit w 20 = false›]; rfl

theorem decode_pld {u : Bool} {rn : Reg} {off : Offset2} {bit4 : Bool} (hwf : wellFormed (.pld u rn off bit4) = true)
    (h : encode (.pld u rn off bit4) = .arm w) : decode (.arm w) = .pld u rn off bit4 := by
  have f : bits w 28 4 = 15#4 ∧ bits w 26 2 = 1#2 ∧ bit w 25 = bit off.iBit 0 ∧ bits w 0 12 = off.bits (ofBool bit4) ∧
      bit w 24 = true ∧ bits w 20 3 = 5#3 ∧ bits w 12 4 = 15#4 ∧ bit w 23 = u ∧ bits w 16 4 = rn := by
    cases h
    simp (disch := decide) only [bits, bit, read_append, BitVec.extractLsb'_eq_self, BitVec.reduceGetLsb, getLsbD_ofBool,
      Nat.reduceSub, and_self]
  obtain ⟨h28, h26, h25, h0, f⟩ := f
  have e25 : bits w 25 3 = 1#2 ++ ofBool (bit w 25) := (append_eq_bits h26.symm (bits_one rfl).symm).symm
  rw [decode, decodeArm, h28]
  show decodeUncond w = _
  cases off with
  | imm offset =>
    replace e25 : bits w 25 3 = 2#3 := e25.trans (by rw [h25, Offset2.iBit]; rfl)
    have e4 : bit4 = false := (Bool.not_eq_true' _).mp hwf
    simp only [decodeUncond, e25, f, decodeOffset2_eq h25 h0, e4]
  | scaled amount kind rm =>
    have one : bit w 25 = true := by rw [h25, Offset2.iBit]; rfl
    replace e25 : bits w 25 3 = 3#3 := e25.trans (by rw [one]; rfl)
    simp only [decodeUncond, e25, f, decodeOffset2_eq h25 h0, bit4_of_scaled h25 h0 one, getLsbD_ofBool, bit]

/-! The catch-all rows (R297): the words that no earlier row takes, so that the decoder can answer nothing else. -/

theorem decodeUncond_cases (w : Word) : (decodeUncond w).ctorIdx < 2 ∨ decodeUncond w = .undefUncond (bits w 0 28) := by
  unfold decodeUncond
  repeat' split
  · exact .inl (of_decide_eq_true rfl)
  · exact .inl (of_decide_eq_true rfl)
  · exact .inr rfl
  · exact .inl (of_decide_eq_true rfl)
  · exact .inr rfl
  · exact .inr rfl

theorem decodeMulSpace_cases (c : Cond) (w : Word) :
    (decodeMulSpace c w).ctorIdx < 33 ∨ decodeMulSpace c w = .undefMulSpace c (bits w 0 28) := by
  unfold decodeMulSpace
  repeat' split
  iterate 7 exact .inl (of_decide_eq_true rfl)
  · exact .inr rfl
  · exact .inl (of_decide_eq_true rfl)
  iterate 2 exact .inr rfl
  all_goals exact .inl (of_decide_eq_true rfl)

/-- Only the instructions of the last row have a word of the last row. -/
theorem eq_undefRest {i : Instr} (h : encode i = .arm w) (hi : 109 ≤ i.ctorIdx) : ∃ c low, i = .undefRest c low := by
  have hlt := ctorIdx_of_arm h
  cases i
  case undefRest c low => exact ⟨c, low, rfl⟩
  all_goals exact absurd (Nat.le_antisymm (Nat.le_of_lt_succ hlt) hi) (of_decide_eq_false rfl)

/-- The decoder answers no instruction of an earlier row than the first that the word matches. -/
theorem firstRow_le_decode (w : Word) : firstRow armRows w ≤ (decode (.arm w)).ctorIdx :=
  firstRow_le_ctorIdx (spells_decodeArm w).wf (spells_decodeArm w).code

theorem decode_undefUncond {low : BitVec 28} (hrow : firstRow armRows w = 2) (h : encode (.undefUncond low) = .arm w) :
    decode (.arm w) = .undefUncond low := by
  have f : bits w 28 4 = 15#4 ∧ bits w 0 28 = low := by
    cases h
    simp (disch := decide) only [bits, read_append, BitVec.extractLsb'_eq_self, Nat.reduceSub, and_self]
  obtain ⟨h28, rfl⟩ := f
  have le := hrow ▸ firstRow_le_decode w
  have e : decode (.arm w) = decodeUncond w := by rw [decode, decodeArm, h28]; rfl
  rw [e] at le ⊢
  exact (decodeUncond_cases w).resolve_left (Nat.not_lt.mpr le)

theorem encodeLow_fields {low : BitVec 28} (h : Code.arm (c.bits ++ low) = .arm w) :
    bits w 28 4 = c.bits ∧ bits w 0 28 = low := by
  cases h
  simp (disch := decide) only [bits, read_append, BitVec.extractLsb'_eq_self, Nat.reduceSub, and_self]

theorem decode_undefMulSpace {low : BitVec 28} (hrow : firstRow armRows w = 33) (h : encode (.undefMulSpace c low) = .arm w) :
    decode (.arm w) = .undefMulSpace c low := by
  obtain ⟨h28, rfl⟩ := encodeLow_fields h
  have hm : matchesRow w (0x00000090, 0x0E000090) = true := matchesRow_of_firstRow hrow rfl
  have le := hrow ▸ firstRow_le_decode w
  rw [decode_mulSpace h28 (bits_of_matchesRow hm rfl) (bit_of_matchesRow hm rfl) (bit_of_matchesRow hm rfl)] at le ⊢
  exact (decodeMulSpace_cases c w).resolve_left (Nat.not_lt.mpr le)

theorem decode_undefArch {low : BitVec 28} (hrow : firstRow armRows w = 34) (h : encode (.undefArch c low) = .arm w) :
    decode (.arm w) = .undefArch c low := by
  obtain ⟨h28, rfl⟩ := encodeLow_fields h
  have hm : matchesRow w (0x06000010, 0x0E000010) = true := matchesRow_of_firstRow hrow rfl
  have h25 : bits w 25 3 = 3#3 := bits_of_matchesRow hm rfl
  have h4 : bit w 4 = true := bit_of_matchesRow hm rfl
  simp only [decode, decodeArm, h28, Cond.ofBits_bits, decodeCond, h25, h4]

theorem decode_undefRest {low : BitVec 28} (hrow : firstRow armRows w = 109) (h : encode (.undefRest c low) = .arm w) :
    decode (.arm w) = .undefRest c low := by
  have code : encode (decode (.arm w)) = .arm w := (spells_decodeArm w).code
  obtain ⟨c', low', e⟩ := eq_undefRest code (hrow ▸ firstRow_le_decode w)
  rw [e] at code ⊢
  obtain ⟨h28, rfl⟩ := encodeLow_fields h
  obtain ⟨h28', rfl⟩ := encodeLow_fields code
  have same : some c' = some c := by rw [← Cond.ofBits_bits, ← h28', h28, Cond.ofBits_bits]
  rw [Option.some.inj same]

end
end Sys2Proof
end

section
/-! PROOF. Decoding the word of a well-formed ARM instruction gives the instruction back (30_encoding.md R280-R297). -/

namespace Sys2Proof
section

variable {w : Word} {i : Instr}

theorem decode_encode_arm (hwf : wellFormed i = true) (h : encode i = .arm w) : decode (.arm w) = i := by
  have row {n k : Nat} {rows : List (BitVec n × BitVec n)} {v : BitVec n} (e : (firstRow rows v == k) = true) :
      firstRow rows v = k := beq_iff_eq.mp e
  cases i
  case undefUncond => exact decode_undefUncond (by cases h; exact row hwf) h
  case undefMulSpace => exact decode_undefMulSpace (by cases h; exact row hwf) h
  case undefArch => exact decode_undefArch (by cases h; exact row hwf) h
  case undefRest => exact decode_undefRest (by cases h; exact row hwf) h
  case pld => exact decode_pld hwf h
  case undefBkptCond => exact decode_undefBkptCond (bne_iff_ne.mp hwf) h
  case mrs => exact decode_mrs h
  case msrReg => exact decode_msrReg h
  case mcr => exact decode_mcr hwf h
  case mrc => exact decode_mrc hwf h
  case cdp => exact decode_cdp (bne_iff_ne.mp hwf) h
  case cp0Other => exact decode_cp0Other ((Bool.not_eq_true' _).mp hwf) h
  case cp0TransferOther => exact decode_cp0TransferOther (bne_iff_ne.mp hwf) h
  case mcrr | mrrc => exact decode_mcrrMrrc (bne_iff_ne.mp hwf) h
  case ldc | stc => exact decode_ldcStc hwf h
  case b | bl | swi | blxImm | bkpt | bx | blxReg | clz | msrImm | undefLdcStc =>
    cases h
    simp (disch := decide) only [decode, decodeArm, decodeCond, decodeUncond, decode000, decode001, decodeMisc, decode110,
      Cond.ofBits_bits, bits, bit, read_append, BitVec.extractLsb'_eq_self, getLsbD_ofBool, BitVec.reduceExtractLsb',
      BitVec.reduceGetLsb, BitVec.reduceAppend, Nat.reduceSub] <;> rfl
  case and | eor | sub | rsb | add | adc | sbc | rsc | orr | mov | bic | mvn =>
    obtain ⟨h28, h26, h25, h0, h21, f⟩ := encodeDp_fields h
    rw [decode_dataProc h28 h26 (bit7_of_shiftReg h25 h0) fun h23 =>
      absurd ((bits_sub (i := 21) (j := 2) (k := 2) (by decide) h21 rfl).symm.trans h23) (by decide)]
    simp only [decodeDataProc, h21, f, decodeShifter_eq h25 h0, BitVec.ofNat_eq_ofNat]
  case tst | teq | cmp | cmn =>
    obtain ⟨h28, h26, h25, h0, h21, h20, f⟩ := encodeDp_fields h
    rw [decode_dataProc h28 h26 (bit7_of_shiftReg h25 h0) fun _ => h20]
    simp only [decodeDataProc, h21, h20, f, decodeShifter_eq h25 h0, BitVec.ofNat_eq_ofNat]
  case mul | mla | umull | umlal | smull | smlal | swp | swpb =>
    obtain ⟨h28, h25, h7, h4, h5, f⟩ := encodeMul_fields h
    rw [decode_mulSpace h28 h25 h7 h4]
    simp only [decodeMulSpace, h5, f, bits, BitVec.reduceExtractLsb', BitVec.ofNat_eq_ofNat]
  case strh | ldrd | strd | ldrh | ldrsb | ldrsh =>
    obtain ⟨h28, h25, h7, h4, h24, h21, h22, h8, h0, f⟩ := encodeExtra_fields h
    rw [decode_mulSpace h28 h25 h7 h4]
    simp only [decodeMulSpace, decodeIndexing_eq h24 h21, decodeOffset3_eq h22 h8 h0, f, bit, BitVec.reduceGetLsb,
      BitVec.ofNat_eq_ofNat] <;> rfl
  case ldrt | ldrbt | strt | strbt =>
    obtain ⟨h28, h26, h25, h0, h24, h21, f⟩ := encodeLs_fields h
    rw [decode_loadStore h28 h26 (bit4_of_scaled h25 h0)]
    simp only [decodeLoadStore, decodeIndexing_eq h24 h21, decodeOffset2_eq h25 h0, f, bit, BitVec.reduceGetLsb,
      BitVec.ofNat_eq_ofNat]
  case ldr c ix u rn rd off | ldrb c ix u rn rd off | str c ix u rn rd off | strb c ix u rn rd off =>
    obtain ⟨h28, h26, h25, h0, h24, h21, f⟩ := encodeLs_fields h
    rw [decode_loadStore h28 h26 (bit4_of_scaled h25 h0), decodeLoadStore, decodeIndexing_eq h24 h21, decodeOffset2_eq h25 h0]
    cases ix
    case postW => cases hwf
    all_goals simp only [f, bit, BitVec.reduceGetLsb, BitVec.ofNat_eq_ofNat]
  case ldm | stm | stmUser =>
    obtain ⟨h28, h25, h23, h0, f⟩ := encodeBlock_fields h
    rw [decode_block h28 h25]
    simp only [decodeBlock, decodeBlockMode_eq h23, h0, f, bit, BitVec.reduceGetLsb, BitVec.ofNat_eq_ofNat]
  case ldmUser | ldmRet =>
    obtain ⟨h28, h25, h23, h0, f⟩ := encodeBlock_fields h
    have h15 := bit_of_field 15 h0 (by decide)
    have list := bits_sub (i := 0) (j := 0) (k := 15) (by decide) h0 rfl
    rw [decode_block h28 h25]
    simp (disch := decide) only [decodeBlock, decodeBlockMode_eq h23, h15, list, f, bits, bit, read_append,
      BitVec.extractLsb'_eq_self, Nat.reduceSub, BitVec.reduceGetLsb, BitVec.ofNat_eq_ofNat]
  case smlaxy | smlawy | smulwy | smlalxy | smulxy =>
    obtain ⟨h28, h25, h23, h20, h7, h4, h6, h5, f⟩ := encodeHalfMul_fields h
    have b6 := bit_of_field 0 h6 (by decide)
    have b5 := bit_of_field 0 h5 (by decide)
    rw [decode_misc h28 h25 h23 h20 (.inr h4)]
    rcases bits4_of_halfMul h7 h4 with e | e | e | e
    all_goals
      simp only [decodeMisc, e, b6, b5, f, bit, BitVec.reduceGetLsb, BitVec.ofNat_eq_ofNat, HalfSel.ofBit_bit]
      rfl
  case qadd | qsub | qdadd | qdsub =>
    obtain ⟨h28, h25, h23, h20, h7, f⟩ := encodeSat_fields h
    rw [decode_misc h28 h25 h23 h20 (.inl h7)]
    simp only [decodeMisc, f, BitVec.ofNat_eq_ofNat] <;> rfl
  case mia | miaph | miabb | miabt | miatb | miatt =>
    obtain ⟨h28, h24, h8, f⟩ := encodeMia_fields h
    rw [decode_cp0 h28 h24 h8]
    simp only [decodeCp0, f, BitVec.ofNat_eq_ofNat]
  case mar | mra =>
    obtain ⟨h28, h25, h4, h0, f⟩ := encodeCp2_fields h
    have low : bits w 0 8 = 0#8 := (append_eq_bits (lo := 0) h4.symm h0.symm).symm
    rw [decode_110 h28 h25]
    simp only [decode110, low, f, bit, BitVec.reduceGetLsb, BitVec.ofNat_eq_ofNat]
  case invIDCacheBtb | invICacheBtb | invICacheLine | invDCache | invDCacheLine | cleanDCacheLine | drainWriteBuffer | invBtb |
      allocDCacheLine | invIDTlb | invITlb | invITlbEntry | invDTlb | invDTlbEntry | lockICacheLine | unlockICache |
      readDCacheLock | writeDCacheLock | unlockDCache | lockITlbEntry | lockDTlbEntry | unlockITlb | unlockDTlb =>
    obtain ⟨h28, h24, h8, f⟩ := encodeCp_fields h
    rw [decode_coproc h28 h24 (by rw [h8]; decide)]
    simp only [decodeCoproc, h8, f, decodeCp15Function, bit, BitVec.reduceGetLsb, BitVec.ofNat_eq_ofNat]
  all_goals cases h

end

/-- Settles O1: the fixed fields of a word lead the decoder to the space of its row, and the operands are read back from the
fields that they were written to. -/
theorem decodeOfEncodeArm : Obligations.DecodeOfEncodeArm := fun _ _ hwf h => decode_encode_arm hwf h

end Sys2Proof
end

section
/-! PROOF. Decoding the halfword of a well-formed Thumb instruction gives the instruction back (30_encoding.md R300-R303). -/

namespace Sys2Proof
section

variable {h : Half} {i : Instr}

/-! The catch-all rows (R301). -/

theorem decodeThumbMisc_cases (h : Half) :
    (decodeThumbMisc h).ctorIdx < 110 + 56 ∨ decodeThumbMisc h = .tUndefMisc (bits h 0 12) := by
  unfold decodeThumbMisc
  split
  case h_8 => exact .inr rfl
  all_goals exact .inl (of_decide_eq_true rfl)

theorem ctorIdx_of_thumb (e : encode i = .thumb h) : 110 ≤ i.ctorIdx ∧ i.ctorIdx - 110 < thumbRows.length := by
  cases i
  all_goals cases e
  all_goals exact ⟨of_decide_eq_true rfl, of_decide_eq_true rfl⟩

/-- The decoder answers no instruction of an earlier row than the first that the halfword matches. -/
theorem firstRow_le_decodeThumb (h : Half) : 110 + firstRow thumbRows h ≤ (decodeThumb h).ctorIdx := by
  obtain ⟨hwf, code⟩ := spells_decodeThumb h
  generalize decodeThumb h = i at hwf code
  obtain ⟨hge, hlt⟩ := ctorIdx_of_thumb code
  have le := firstRow_le (List.getElem?_eq_getElem hlt)
    (matchesRow_of_encode_thumb hwf code (List.getElem?_eq_getElem hlt))
  omega

theorem decode_tUndefMisc {low : BitVec 12} (hrow : firstRow thumbRows h = 56) (e : encode (.tUndefMisc low) = .thumb h) :
    decode (.thumb h) = .tUndefMisc low := by
  have f : bits h 12 4 = 11#4 ∧ bits h 0 12 = low := by
    cases e
    simp (disch := decide) only [bits, read_append, BitVec.extractLsb'_eq_self, Nat.reduceSub, and_self]
  obtain ⟨h12, rfl⟩ := f
  have le := hrow ▸ firstRow_le_decodeThumb h
  have space : decodeThumb h = decodeThumbMisc h := by simp only [decodeThumb, h12]
  rw [space] at le
  exact space.trans ((decodeThumbMisc_cases h).resolve_left (Nat.not_lt.mpr le))

theorem eq_tUndefRest (hi : 110 + 67 ≤ i.ctorIdx) : ∃ low, i = .tUndefRest low := by
  cases i
  case tUndefRest low => exact ⟨low, rfl⟩
  all_goals exact absurd hi (of_decide_eq_false rfl)

theorem decode_tUndefRest {low : Half} (hrow : firstRow thumbRows low = 67) : decode (.thumb low) = .tUndefRest low := by
  have code : encode (decodeThumb low) = .thumb low := (spells_decodeThumb low).code
  obtain ⟨low', e⟩ := eq_tUndefRest (hrow ▸ firstRow_le_decodeThumb low)
  rw [e] at code
  exact e.trans (congrArg _ (Code.thumb.inj code))

/-! The fields of the formats (R300). -/

theorem encodeT8_fields {op : BitVec 5} {r : LowReg} {imm : Byte} (e : encodeT8 op r imm = .thumb h) :
    bits h 12 4 = bits op 1 4 ∧ bits h 11 2 = bits op 0 2 ∧ bit h 11 = bit op 0 ∧ bits h 8 3 = r ∧ bits h 0 8 = imm := by
  cases e
  simp (disch := decide) only [bits, bit, read_append, BitVec.extractLsb'_eq_self, Nat.reduceSub, and_self]

theorem encodeT5_fields {op imm : BitVec 5} {r1 r0 : LowReg} (e : encodeT5 op imm r1 r0 = .thumb h) :
    bits h 12 4 = bits op 1 4 ∧ bits h 11 2 = bits op 0 2 ∧ bit h 11 = bit op 0 ∧ bits h 6 5 = imm ∧ bits h 3 3 = r1 ∧
      bits h 0 3 = r0 := by
  cases e
  simp (disch := decide) only [bits, bit, read_append, BitVec.extractLsb'_eq_self, Nat.reduceSub, and_self]

theorem encodeT3_fields {op : BitVec 7} {f r1 r0 : LowReg} (e : encodeT3 op f r1 r0 = .thumb h) :
    bits h 12 4 = bits op 3 4 ∧ bits h 11 2 = bits op 2 2 ∧ bits h 9 2 = bits op 0 2 ∧ bits h 9 3 = bits op 0 3 ∧
      bits h 6 3 = f ∧ bits h 3 3 = r1 ∧ bits h 0 3 = r0 := by
  cases e
  simp (disch := decide) only [bits, read_append, BitVec.extractLsb'_eq_self, Nat.reduceSub, and_self]

theorem encodeTAlu_fields {op : BitVec 4} {r1 r0 : LowReg} (e : encodeTAlu op r1 r0 = .thumb h) :
    bits h 12 4 = 4#4 ∧ bits h 10 2 = 0#2 ∧ bits h 6 4 = op ∧ bits h 3 3 = r1 ∧ bits h 0 3 = r0 := by
  cases e
  simp (disch := decide) only [bits, read_append, BitVec.extractLsb'_eq_self, BitVec.reduceExtractLsb', Nat.reduceSub, and_self]

theorem encodeTHigh_fields {op : BitVec 2} {h1 h2 : Bool} {rm rd : LowReg} (e : encodeTHigh op h1 h2 rm rd = .thumb h) :
    bits h 12 4 = 4#4 ∧ bits h 10 2 = 1#2 ∧ bits h 8 2 = op ∧ bit h 7 = h1 ∧ bit h 6 = h2 ∧ bits h 3 3 = rm ∧
      bits h 0 3 = rd := by
  cases e
  simp (disch := decide) only [bits, bit, read_append, BitVec.extractLsb'_eq_self, getLsbD_ofBool, BitVec.reduceExtractLsb',
    Nat.reduceSub, and_self]

theorem decode_tBCond {c : Cond} {imm : Byte} (hc : c ≠ .al) (e : encode (.tBCond c imm) = .thumb h) :
    decode (.thumb h) = .tBCond c imm := by
  cases e
  simp (disch := decide) only [decode, decodeThumb, decodeThumbCondBranch, bits, bit, read_append, BitVec.extractLsb'_eq_self,
    Nat.reduceSub, Cond.ofBits_bits]
  split
  · contradiction
  · exact absurd (Option.some.inj ‹some c = some .al›) hc
  · exact congrArg (Instr.tBCond · imm) (Option.some.inj ‹_›).symm

theorem decode_tLdrPc {rd : LowReg} {imm : Byte} (e : encode (.tLdrPc rd imm) = .thumb h) :
    decode (.thumb h) = .tLdrPc rd imm := by
  obtain ⟨h12, -, h11, f⟩ := encodeT8_fields e
  have h11' : bit (bits h 10 2) 1 = true := (bit_bits (by decide)).trans h11
  have upper : bits h 10 2 = 2#2 ∨ bits h 10 2 = 3#2 := by
    revert h11'
    generalize bits h 10 2 = n
    revert n
    decide
  rcases upper with h10 | h10
  all_goals
    simp only [decode, decodeThumb, h12, h10, f, bits, BitVec.reduceExtractLsb']
    rfl

theorem decode_encode_thumb (hwf : wellFormed i = true) (e : encode i = .thumb h) : decode (.thumb h) = i := by
  cases i
  case tUndefMisc => exact decode_tUndefMisc (by cases e; exact beq_iff_eq.mp hwf) e
  case tUndefRest => cases e; exact decode_tUndefRest (beq_iff_eq.mp hwf)
  case tBCond => exact decode_tBCond (bne_iff_ne.mp hwf) e
  case tLdrPc => exact decode_tLdrPc e
  case tMovImm | tCmpImm | tAddImm8 | tSubImm8 | tStrSp | tLdrSp | tAddPc | tAddSp | tStmia | tLdmia =>
    have f := encodeT8_fields e
    simp only [decode, decodeThumb, decodeThumb1, f, bits, bit, BitVec.reduceExtractLsb', BitVec.reduceGetLsb,
      BitVec.ofNat_eq_ofNat] <;> rfl
  case tLslImm | tLsrImm | tAsrImm | tStrImm | tLdrImm | tStrbImm | tLdrbImm | tStrhImm | tLdrhImm =>
    have f := encodeT5_fields e
    simp only [decode, decodeThumb, decodeThumb0, f, bits, bit, BitVec.reduceExtractLsb', BitVec.reduceGetLsb,
      BitVec.ofNat_eq_ofNat]
  case tAddReg | tSubReg | tAddImm3 | tSubImm3 | tStrReg | tStrhReg | tStrbReg | tLdrsb | tLdrReg | tLdrhReg | tLdrbReg |
      tLdrsh =>
    have f := encodeT3_fields e
    simp only [decode, decodeThumb, decodeThumb0, decodeThumbRegOffset, f, bits, BitVec.reduceExtractLsb',
      BitVec.ofNat_eq_ofNat] <;> rfl
  case tAnd | tEor | tLslReg | tLsrReg | tAsrReg | tAdc | tSbc | tRor | tTst | tNeg | tCmpReg | tCmn | tOrr | tMul | tBic |
      tMvn =>
    have f := encodeTAlu_fields e
    simp only [decode, decodeThumb, decodeThumbAlu, f, BitVec.ofNat_eq_ofNat] <;> rfl
  case tAddHigh | tCmpHigh | tMovHigh | tBx | tBlxReg =>
    have f := encodeTHigh_fields e
    simp only [decode, decodeThumb, decodeThumbHigh, f, BitVec.ofNat_eq_ofNat] <;> rfl
  case tPush r _ | tPop r _ =>
    cases e
    cases r
    all_goals
      simp (disch := decide) only [decode, decodeThumb, decodeThumbMisc, bits, bit, read_append, BitVec.extractLsb'_eq_self,
        BitVec.ofBool_false, BitVec.ofBool_true, BitVec.reduceExtractLsb', BitVec.reduceGetLsb, BitVec.reduceAppend,
        Nat.reduceSub]
  case tIncSp | tDecSp | tBkpt | tUndefDE | tSwi | tB | tUndefBlx | tBlxSuffix | tBlHead | tBlSuffix =>
    cases e
    simp (disch := decide) only [decode, decodeThumb, decodeThumbMisc, decodeThumbCondBranch, decodeThumbBranch, bits, bit,
      read_append, BitVec.extractLsb'_eq_self, BitVec.reduceExtractLsb', BitVec.reduceGetLsb, Nat.reduceSub] <;> rfl
  all_goals cases e

end

/-- Settles O2, in the same way. -/
theorem decodeOfEncodeThumb : Obligations.DecodeOfEncodeThumb := fun _ _ hwf e => decode_encode_thumb hwf e

end Sys2Proof
end

section
/-! PROOF. An instruction whose condition fails advances the PC and does nothing else, but for what a branch counts (30_encoding.md
R281, R282). -/

namespace Sys2Proof.Machine

open Sys2Proof

/-! What counting and predicting a branch leaves. -/

theorem SameWithoutAccess.refl (s : State) : SameWithoutAccess s s := ⟨fun _ => rfl, .refl s, rfl, rfl, rfl⟩

theorem SameWithoutAccess.trans {s t u : State} (h : SameWithoutAccess s t) (k : SameWithoutAccess t u) :
    SameWithoutAccess s u where
  memory pa := (k.memory pa).trans (h.memory pa)
  elsewhere := h.elsewhere.trans k.elsewhere
  dataBkpt := k.dataBkpt.trans h.dataBkpt
  stale := k.stale.trans h.stale
  storing := k.storing.trans h.storing

theorem SameWithoutAccess.count (s : State) (e : Event) : SameWithoutAccess s (s.count e) :=
  ⟨fun _ => rfl, .count s e, rfl, rfl, rfl⟩

/-- The branch target buffer and core registers are no part of what an access could change. -/
theorem SameWithoutAccess.here (s : State) (c : Core) (b : List (Nat × BtbEntry)) :
    SameWithoutAccess s { s with core := c, btb := b } :=
  ⟨fun _ => rfl, .here s c s.mem b, rfl, rfl, rfl⟩

theorem SameWithoutAccess.traceInstr (s : State) : SameWithoutAccess s s.traceInstr where
  memory pa := by simp only [State.memByte, State.traceInstr_mem]
  elsewhere := .traceInstr s
  dataBkpt := by
    unfold State.traceInstr
    repeat' split
    all_goals rfl
  stale := s.traceInstr_stale
  storing := s.traceInstr_storing

theorem State.btbUpdate_eq (s : State) (v : Word) (taken : Bool) : ∃ b, s.btbUpdate v taken = { s with btb := b } := by
  unfold State.btbUpdate
  repeat' split
  all_goals exact ⟨_, rfl⟩

theorem State.resolveBranch_core (s : State) (v : Word) (taken : Bool) : (s.resolveBranch v taken).core = s.core := by
  obtain ⟨b, e⟩ := State.btbUpdate_eq (s.count .branchExecuted) v taken
  simp only [State.resolveBranch, e]
  split <;> rfl

theorem SameWithoutAccess.resolveBranch (s : State) (v : Word) (taken : Bool) :
    SameWithoutAccess s (s.resolveBranch v taken) := by
  obtain ⟨b, e⟩ := State.btbUpdate_eq (s.count .branchExecuted) v taken
  have updated : SameWithoutAccess s ((s.count .branchExecuted).btbUpdate v taken) := by
    rw [e]
    exact (SameWithoutAccess.count s _).trans (.here _ _ b)
  unfold State.resolveBranch
  split
  · exact updated
  · exact updated.trans (.count _ _)

/-- A state with the core registers of `s`, and without an access since, goes on in sequence. -/
theorem BranchesTo.advance {s u : State} (hn : s.hasNext) (hc : u.core = s.core) (h : SameWithoutAccess s u) :
    BranchesTo u.advance s { s.core with pc := s.nextPc } := by
  have ht : u.thumb = s.thumb := by rw [State.thumb, hc]; rfl
  refine ⟨_, State.advance_at hn (by rw [hc]) ht, ?_, ?_⟩
  · rw [State.traceInstr_core, ← hc]
    rfl
  · exact (h.trans (.here u _ u.btb)).trans (.traceInstr _)

/-! An instruction whose condition fails. -/

theorem State.ite_failed {c : Cond} {s : State} (hc : s.passed c = false) {p q : Result} : (if s.passed c then p else q) = q :=
  if_neg (by rw [hc]; exact Bool.false_ne_true)

/-- A BX or BLX(2) that fails is counted (log entry 40). -/
theorem exec_exchange_of_failed {i : Instr} {c : Cond} {rm : Reg} {s : State} (hc : s.passed c = false)
    (h : i = .bx c rm ∨ i = .blxReg c rm) : exec i s = (s.count .branchExecuted).advance := by
  rcases h with rfl | rfl
  · exact State.ite_failed hc
  · exact State.ite_failed hc

/-- Of the instructions with a condition all only advance when it fails, but BX and BLX(2), and the branches that the branch
target buffer predicts, which are resolved as not taken (R281). -/
theorem exec_of_failed {i : Instr} {c : Cond} {s : State} (hi : condOf i = some c) (hc : s.passed c = false) :
    exec i s = s.advance ∨
    (∃ rm, i = .bx c rm ∨ i = .blxReg c rm) ∨
    ((∃ imm, i = .b c imm) ∨ (∃ imm, i = .bl c imm) ∨ (∃ imm, i = .tBCond c imm)) ∧
      ∃ v, exec i s = (s.resolveBranch v false).advance := by
  cases i
  case bx c' rm => cases hi; exact .inr (.inl ⟨rm, .inl rfl⟩)
  case blxReg c' rm => cases hi; exact .inr (.inl ⟨rm, .inr rfl⟩)
  case b c' imm => cases hi; exact .inr (.inr ⟨.inl ⟨imm, rfl⟩, _, State.ite_failed hc⟩)
  case bl c' imm => cases hi; exact .inr (.inr ⟨.inr (.inl ⟨imm, rfl⟩), _, State.ite_failed hc⟩)
  case tBCond c' imm => cases hi; exact .inr (.inr ⟨.inr (.inr ⟨imm, rfl⟩), _, State.ite_failed hc⟩)
  case ldr =>
    cases hi
    simp only [exec, execLdr, hc, Bool.false_and, Bool.false_eq_true, if_false]
    exact .inl (State.ite_failed hc)
  all_goals cases hi
  all_goals exact .inl (State.ite_failed hc)

/-- Settles O15: what a failed condition leaves is the advance of the PC, after the event that a branch counts. -/
theorem failedConditionDoesNothing : Obligations.FailedConditionDoesNothing := by
  intro i c s hi hc hn
  have counted : CompletesAs (s.count .branchExecuted).advance s (s.count .branchExecuted) := .advance hn rfl rfl
  refine ⟨fun hb hbl ht hbx hblx => ?plain, fun rm h => exec_exchange_of_failed hc h ▸ counted, ?core⟩
  case plain =>
    rcases exec_of_failed hi hc with e | ⟨rm, h | h⟩ | ⟨⟨imm, h⟩ | ⟨imm, h⟩ | ⟨imm, h⟩, -⟩
    · exact e ▸ CompletesAs.advance hn rfl rfl
    · exact absurd h (hbx rm)
    · exact absurd h (hblx rm)
    · exact absurd h (hb imm)
    · exact absurd h (hbl imm)
    · exact absurd h (ht imm)
  case core =>
    show BranchesTo (exec i s) s { s.core with pc := s.nextPc }
    rcases exec_of_failed hi hc with e | ⟨rm, h⟩ | ⟨-, v, e⟩
    · exact e ▸ BranchesTo.advance hn rfl (.refl s)
    · exact exec_exchange_of_failed hc h ▸ BranchesTo.advance hn rfl (.count s _)
    · exact e ▸ BranchesTo.advance hn (s.resolveBranch_core v false) (.resolveBranch s v false)

end Sys2Proof.Machine
end

section
/-! PROOF. The multiplies with internal accumulate and the accumulator moves (40_cp0_dsp.md R340-R350). -/

namespace Sys2Proof.Machine

/-! The exact products are those of the 40-bit accumulator (R17, R342-R347). -/

/-- A product modulo 2^k of numbers sign-extended to k bits is the product of the numbers. -/
theorem ofInt_mul_toInt (k : Nat) {n : Nat} (x y : BitVec n) :
    BitVec.ofInt k (x.toInt * y.toInt) = x.signExtend k * y.signExtend k := BitVec.ofInt_mul ..

theorem halfOf_eq_toInt (w : Word) (x : HalfSel) : halfOf w x = (halfBits w x).toInt := by
  cases x <;> rfl

theorem ofInt_halfOf_mul (k : Nat) (v w : Word) (x y : HalfSel) :
    BitVec.ofInt k (halfOf v x * halfOf w y) = (halfBits v x).signExtend k * (halfBits w y).signExtend k := by
  rw [halfOf_eq_toInt, halfOf_eq_toInt, ofInt_mul_toInt]

/-! Two registers written (10_state.md R32). -/

theorem WritesBank.setReg_setReg (s : State) {n n' : Reg} (v v' : Word) (hn : n ≠ 15) (hn' : n' ≠ 15) (hne : n ≠ n') :
    WritesBank s ((s.setReg n v).setReg n' v') s.mode [(n, v), (n', v')] where
  written := by
    have read {m : Reg} (hm : m ≠ 15) :
        ((s.setReg n v).setReg n' v').bankedReg s.mode m = ((s.setReg n v).setReg n' v').reg m := by
      rw [State.reg_of_ne hm, State.setReg_mode, State.setReg_mode]
    simp only [List.forall_mem_cons, List.not_mem_nil, false_implies, implies_true, and_true]
    refine ⟨?first, ?second⟩
    case first => rw [read hn, State.reg_setReg_other _ _ hne hn, State.reg_setReg_same _ _ hn]
    case second => rw [read hn', State.reg_setReg_same _ _ hn']
  others p hp := by
    rw [State.setReg_regs_other _ _ hn' (by rw [State.setReg_mode]; exact hp (n', v') (by simp)),
      State.setReg_regs_other _ _ hn (hp (n, v) (by simp))]

/-- Going on in sequence keeps the registers. -/
theorem WritesBank.of_advance {s t u : State} {m : Mode} {l : List (Reg × Word)} (h : WritesBank s t m l)
    (hu : t.advance = .next u) : WritesBank s u m l := by
  have hr : u.core.regs = t.core.regs := by simp [(State.advance_next hu).2]
  exact ⟨fun x hx => by rw [State.bankedReg, hr]; exact h.written x hx, fun p hp => by rw [hr]; exact h.others p hp⟩

/-! How the instructions end. -/

/-- The accumulator is written, and no register and no flag (R354). -/
theorem Completes.setAcc {s : State} (hn : s.hasNext) (v : Acc) :
    Completes (s.setAcc v).advance s [] s.nzcv s.flagQ v :=
  .ofCore (c := { s.core with acc0 := v }) rfl hn rfl rfl rfl (.nil rfl) rfl rfl rfl

/-- Two registers are written, and nothing else. -/
theorem Completes.setReg_setReg {s : State} (hs : s.hasNext) {n n' : Reg} (v v' : Word) (hn : n ≠ 15) (hn' : n' ≠ 15)
    (hne : n ≠ n') :
    Completes ((s.setReg n v).setReg n' v').advance s [(n, v), (n', v')] s.nzcv s.flagQ s.core.acc0 := by
  have hw := WritesBank.setReg_setReg s v v' hn hn' hne
  rw [State.setReg_of_ne v hn, State.setReg_of_ne v' hn'] at hw ⊢
  exact .ofCore rfl hs rfl rfl rfl hw rfl rfl rfl

/-! What runs where coprocessor 0 is allowed (10_state.md R46, R99). -/

theorem anyPc_pair {n n' : Reg} (hn : n ≠ 15) (hn' : n' ≠ 15) : anyPc [n, n'] = false := by
  simp only [anyPc, List.contains_cons, List.contains_nil, beq_false_of_ne hn.symm, beq_false_of_ne hn'.symm, Bool.or_self]

section
variable {s : State} {c : Cond} (hc : s.passed c = true) (h0 : s.cp0Allowed = true) {hi lo : Reg} (hhi : hi ≠ 15)
  (hlo : lo ≠ 15)
include hc h0 hhi hlo

theorem State.accumulate_allowed (p : Word → Word → Int) :
    s.accumulate c hi lo p = (s.setAcc (s.core.acc0 + BitVec.ofInt 40 (p (s.reg lo) (s.reg hi)))).advance := by
  rw [State.accumulate, if_pos hc, if_pos h0, anyPc_pair hhi hlo, if_neg Bool.false_ne_true]

theorem exec_mar_allowed :
    exec (.mar c hi lo) s = (s.setAcc ((s.reg hi).truncate 8 ++ s.reg lo)).advance := by
  show execMar c hi lo s = _
  rw [execMar, if_pos hc, if_pos h0, anyPc_pair hhi hlo, if_neg Bool.false_ne_true, BitVec.truncate_eq_setWidth,
    BitVec.setWidth_eq_extractLsb' (by decide)]

theorem exec_mra_allowed (hne : hi ≠ lo) :
    exec (.mra c hi lo) s = ((s.setReg lo (s.core.acc0.truncate 32)).setReg hi
      (((s.core.acc0 >>> 32).truncate 8).signExtend 32)).advance := by
  show execMra c hi lo s = _
  rw [execMra, if_pos hc, if_pos h0, anyPc_pair hhi hlo, beq_false_of_ne hne, Bool.or_false, if_neg Bool.false_ne_true]
  simp only [BitVec.truncate_eq_setWidth, BitVec.setWidth_ushiftRight_eq_extractLsb,
    BitVec.setWidth_eq_extractLsb' (show 32 ≤ 40 by decide)]

end

/-- The condition reads the CPSR only. -/
theorem State.passed_congr {s t : State} (h : t.core.cpsr = s.core.cpsr) (c : Cond) : t.passed c = s.passed c := by
  simp only [State.passed, State.flagN, State.flagZ, State.flagC, State.flagV, h]

/-- MRA after MAR: RdLo, and the sign-extended low byte of RdHi (R349, R350, R353). -/
theorem exec_mra_of_exec_mar {s t u : State} {c : Cond} {hi lo : Reg} (hc : s.passed c = true) (h0 : s.cp0Allowed = true)
    (hhi : hi ≠ 15) (hlo : lo ≠ 15) (hne : hi ≠ lo) (ht : exec (.mar c hi lo) s = .next t)
    (hu : exec (.mra c hi lo) t = .next u) :
    u.bankedReg s.mode lo = s.reg lo ∧ u.bankedReg s.mode hi = ((s.reg hi).truncate 8).signExtend 32 := by
  rw [exec_mar_allowed hc h0 hhi hlo] at ht
  obtain ⟨-, et⟩ := State.advance_next ht
  have hcpsr : t.core.cpsr = s.core.cpsr := by simp [et]
  have hcp15 : t.cp15 = s.cp15 := by simp [et]
  have hacc : t.core.acc0 = (s.reg hi).truncate 8 ++ s.reg lo := by simp [et]
  have hmode : t.mode = s.mode := congrArg modeOf hcpsr
  have hct : t.passed c = true := (State.passed_congr hcpsr c).trans hc
  have h0t : t.cp0Allowed = true := (congrArg (fun k : Cp15 => bitAt k.cpar 0) hcp15).trans h0
  rw [exec_mra_allowed hct h0t hhi hlo hne] at hu
  have written := ((WritesBank.setReg_setReg t _ _ hlo hhi hne.symm).of_advance hu).written
  simp only [List.forall_mem_cons, List.not_mem_nil, false_implies, implies_true, and_true] at written
  obtain ⟨rdLo, rdHi⟩ := written
  rw [hmode, hacc] at rdLo rdHi
  refine ⟨rdLo.trans BitVec.setWidth_append_eq_right, rdHi.trans (congrArg (BitVec.signExtend 32) ?_)⟩
  rw [BitVec.truncate_eq_setWidth, BitVec.setWidth_ushiftRight_eq_extractLsb, BitVec.extractLsb'_append_eq_left]

/-- Settles O24: each multiply adds the product of its row, and the moves write and read the fields of the accumulator. -/
theorem accumulatorInstructions : Obligations.AccumulatorInstructions := by
  intro s c hi lo hc h0 hn hhi hlo
  refine ⟨?accumulates, ?mar, fun hne => ?mra, fun t u hne => exec_mra_of_exec_mar hc h0 hhi hlo hne⟩
  case accumulates =>
    have added {i : Instr} {v : Acc} (p : Word → Word → Int) (e : exec i s = s.accumulate c hi lo p)
        (hv : s.core.acc0 + BitVec.ofInt 40 (p (s.reg lo) (s.reg hi)) = v) : Completes (exec i s) s [] s.nzcv s.flagQ v := by
      rw [e, State.accumulate_allowed hc h0 hhi hlo, hv]
      exact .setAcc hn v
    simp only [accumulateRows, List.forall_mem_cons, List.not_mem_nil, false_implies, implies_true, and_true]
    refine ⟨?mia, ?miaph, ?miabb, ?miabt, ?miatb, ?miatt⟩
    case mia => exact added _ (by unfold exec; rfl) (by rw [ofInt_mul_toInt])
    case miaph =>
      exact added _ (by unfold exec; rfl) (by rw [BitVec.ofInt_add, ofInt_halfOf_mul, ofInt_halfOf_mul, BitVec.add_assoc])
    case miabb | miabt | miatb | miatt => exact added _ (by unfold exec; rfl) (by rw [ofInt_halfOf_mul])
  case mar =>
    rw [exec_mar_allowed hc h0 hhi hlo]
    exact .setAcc hn _
  case mra =>
    rw [exec_mra_allowed hc h0 hhi hlo hne]
    exact .setReg_setReg hn _ _ hlo hhi hne.symm

end Sys2Proof.Machine
end

section
/-! PROOF. The registers of coprocessor 15: what MCR writes and what MRC reads (10_state.md R60-R99,
41_coprocessor_access.md R360-R364, R378). -/

namespace Sys2Proof.Machine

/-! MCR (41_coprocessor_access.md R363). -/

theorem exec_mcr_cp15 {s : State} {c : Cond} {rd : Reg} (hc : s.passed c = true) (hp : s.mode ≠ .usr) (hrd : rd ≠ 15)
    (crn crm : BitVec 4) (op2 : BitVec 3) :
    exec (.mcr c 0 crn rd 15 op2 crm) s = finishMcr (s.writeCp15 0 crn crm op2 (s.reg rd)) := by
  have h15 : (rd == 15) = false := beq_eq_false_iff_ne.mpr hrd
  simp only [exec, execMcr, hc, State.privileged_of_ne hp, h15, if_true]
  rfl

/-- The end of an MCR that leaves the core registers. -/
theorem CompletesAs.finishMcr {s u : State} {r : Except Refusal State} (hn : s.hasNext) (hr : r = .ok u)
    (core : u.core = s.core) : CompletesAs (Machine.finishMcr r) s u := by
  subst hr
  exact .advance hn (congrArg Core.pc core) (congrArg (fun k : Core => bitAt k.cpsr 5) core)

/-- A write of CP15 changes the registers of its row (10_state.md R62-R99). -/
theorem State.writeCp15_rows (s : State) (v : Word) :
    ∀ r ∈ cp15Writes s.cp15 v, s.writeCp15 0 r.1 r.2.1 r.2.2.1 v = .ok { s with cp15 := r.2.2.2 } := by
  simp only [cp15Writes, List.forall_mem_cons, List.not_mem_nil, false_implies, implies_true, and_true]
  exact ⟨rfl, rfl, rfl, rfl, rfl, rfl, rfl, rfl⟩

/-- No translation ends where the MMU stays on or stays off (93 U11). -/
theorem State.endedMaps_same {s : State} {v : Word} (same : bitAt v 0 = s.mmuOn) : s.endedMaps v = [] :=
  if_pos (beq_iff_eq.mpr same)

theorem State.noteMaps_nil (s : State) : s.noteMaps [] = s := rfl

/-- A write of the Control register keeps its constant bits (10_state.md R64). -/
theorem State.writeControl_eq (s : State) (v : Word) : ∃ old, (bitAt v 0 = s.mmuOn → old = s.stale.maps) ∧
    s.writeControl v = { s with
      cp15 := { s.cp15 with control := (v &&& 0x3B87) ||| 0x78 }, stale := { s.stale with maps := old } } :=
  ⟨_, fun same => by rw [State.endedMaps_same same]; rfl, rfl⟩

/-- A write of the PID empties the BTB, and a PID that stays is not an old one (41_coprocessor_access.md R378). -/
theorem State.writePid_eq (s : State) (v : Word) : ∃ old, (v &&& 0xFE000000 = s.cp15.pid → old = s.stale.pids) ∧
    s.writePid v = { s with
      cp15 := { s.cp15 with pid := v &&& 0xFE000000 }, btb := [], stale := { s.stale with pids := old } } :=
  ⟨_, fun same => if_pos (by rw [same, beq_self_eq_true, Bool.true_or]), rfl⟩

theorem State.debugLocked_eq_false {s : State} (h : s.haltMode = false ∨ s.sds = true) : s.debugLocked = false := by
  rcases h with h | h <;> simp [State.debugLocked, h]

/-- A write of a breakpoint register that is not refused changes the registers of its row, unless they are locked (10_state.md
R96-R98, R110). -/
theorem State.writeBkpt_rows {s : State} {v : Word} (noError : s.ibcrError v = false) : ∀ r ∈ bkptWrites s.cp15 v,
    s.writeCp15 0 14 r.1 r.2.1 v = .ok (if s.debugLocked then s else { s with cp15 := r.2.2 }) := by
  have accepted : ¬ s.ibcrError v = true := by simp [noError]
  simp only [bkptWrites, List.forall_mem_cons, List.not_mem_nil, false_implies, implies_true, and_true]
  exact ⟨if_neg accepted, if_neg accepted, rfl, rfl, rfl⟩

/-- A write of the Control register enables the data cache only with the MMU (93 U10). -/
theorem State.writeCp15_control (s : State) (v : Word) : s.writeCp15 0 1 0 0 v =
    if bitAt v 2 && !bitAt v 0 then .error .invalidCacheEnable else .ok (s.writeControl v) := rfl

/-- Settles O45, register by register. -/
theorem cp15RegisterWrites : Obligations.Cp15RegisterWrites := by
  intro s c rd hc hp hrd hn v write
  have run (crn crm : BitVec 4) (op2 : BitVec 3) : write crn crm op2 = finishMcr (s.writeCp15 0 crn crm op2 v) :=
    exec_mcr_cp15 hc hp hrd crn crm op2
  simp only [run]
  refine ⟨fun r hr => ?registers, fun valid => ?control, fun cached off => ?invalid, ?pid, fun unlocked allowed r hr => ?bkpt,
    fun halt sds r hr => ?locked, fun unlocked enabled off => ?refused⟩
  case registers => exact .finishMcr hn (State.writeCp15_rows s v r hr) rfl
  case control =>
    obtain ⟨old, same, eq⟩ := s.writeControl_eq v
    have valid' : (bitAt v 2 && !bitAt v 0) = false := by
      rcases valid with h | h
      · rw [h, Bool.false_and]
      · rw [h, Bool.not_true, Bool.and_false]
    refine ⟨old, same, .finishMcr hn ?_ rfl⟩
    rw [State.writeCp15_control, valid', ← eq]
    rfl
  case invalid =>
    rw [State.writeCp15_control, cached, off]
    rfl
  case pid =>
    obtain ⟨old, same, eq⟩ := s.writePid_eq v
    exact ⟨old, same, .finishMcr hn (congrArg Except.ok eq) rfl⟩
  case bkpt =>
    have noError : s.ibcrError v = false := by
      cases enabled : bitAt v 0
      · rw [State.ibcrError, enabled, Bool.and_false, Bool.false_and]
      · rw [State.ibcrError, allowed enabled, Bool.not_true, Bool.and_false]
    have written := State.writeBkpt_rows noError r hr
    rw [State.debugLocked_eq_false unlocked] at written
    exact .finishMcr hn written rfl
  case locked =>
    have closed : s.debugLocked = true := by simp [State.debugLocked, halt, sds]
    have kept := State.writeBkpt_rows (by simp [State.ibcrError, closed]) r hr
    rw [closed] at kept
    exact .finishMcr hn kept rfl
  case refused =>
    have error : s.ibcrError v = true := by simp [State.ibcrError, State.debugLocked_eq_false unlocked, enabled, off]
    have first : s.writeCp15 0 14 8 0 v = .error .breakpointWithDebugOff := if_pos error
    have second : s.writeCp15 0 14 9 0 v = .error .breakpointWithDebugOff := if_pos error
    rw [first, second]
    exact ⟨rfl, rfl⟩

/-! MRC (41_coprocessor_access.md R364). -/

theorem exec_mrc_cp15 {s : State} {c : Cond} (hc : s.passed c = true) (hp : s.mode ≠ .usr) (crn crm : BitVec 4)
    (op2 : BitVec 3) (rd : Reg) :
    exec (.mrc c 0 crn rd 15 op2 crm) s = finishMrc rd (s.readCp15 0 crn crm op2) := by
  simp only [exec, execMrc, hc, State.privileged_of_ne hp, if_true]
  rfl

/-- The bits of the ID register outside its revision fields (10_state.md R62; 92 D7). -/
theorem idRegister_known : idRegister &&& 0xFFFFE3F0 = 0x69052100 &&& 0xFFFFE3F0 := by
  have each : ∀ (core : BitVec 3) (product : BitVec 4),
      (0x69#8 ++ 0x05#8 ++ 1#3 ++ core ++ 0b010000#6 ++ product : Word) &&& 0xFFFFE3F0 = 0x69052100 &&& 0xFFFFE3F0 := by
    decide
  exact each _ _

/-- A read of CP15 gives its row's value on the bits that the spec gives, and uses free values for the others. -/
theorem State.readCp15_rows (s : State) : ∀ r ∈ cp15Reads s.cp15,
    ∃ x n, s.readCp15 0 r.1 r.2.1 r.2.2.1 = .ok (x, s.consume n) ∧ x &&& r.2.2.2.1 = r.2.2.2.2 &&& r.2.2.2.1 := by
  have masked {crn crm : BitVec 4} {op2 : BitVec 3} {mask v : Word}
      (h : s.readCp15 0 crn crm op2 = .ok (s.readMasked mask v)) :
      ∃ x n, s.readCp15 0 crn crm op2 = .ok (x, s.consume n) ∧ x &&& mask = v &&& mask := ⟨_, 1, h, merge_and_mask ..⟩
  have plain {crn crm : BitVec 4} {op2 : BitVec 3} {mask v : Word} (h : s.readCp15 0 crn crm op2 = .ok (v, s)) :
      ∃ x n, s.readCp15 0 crn crm op2 = .ok (x, s.consume n) ∧ x &&& mask = v &&& mask := ⟨v, 0, h, rfl⟩
  simp only [cp15Reads, List.forall_mem_cons, List.not_mem_nil, false_implies, implies_true, and_true]
  exact ⟨⟨idRegister, 0, rfl, idRegister_known⟩, plain rfl, masked rfl, masked rfl, masked rfl, plain rfl, masked rfl,
    plain rfl, plain rfl, plain rfl, plain rfl, plain rfl, plain rfl, plain rfl, masked rfl⟩

/-- Settles O46, register by register. -/
theorem cp15RegisterReads : Obligations.Cp15RegisterReads := by
  intro s c rd hc hp
  refine ⟨fun hrd hn r hr => ?reads, fun crm op2 => ?writeOnly⟩
  case reads =>
    obtain ⟨x, n, read, hx⟩ := s.readCp15_rows r hr
    rw [exec_mrc_cp15 hc hp, read]
    exact .finishMrc hn hrd hx
  case writeOnly =>
    rw [exec_mrc_cp15 hc hp, exec_mrc_cp15 hc hp, exec_mrc_cp15 hc hp]
    exact ⟨rfl, rfl, rfl⟩

end Sys2Proof.Machine
end

section
/-! PROOF. LDC and STC of coprocessor 14 on memory (41_coprocessor_access.md R368, R369). -/

namespace Sys2Proof.Machine

/-! Addressing mode 5. -/

theorem shiftLeft_two (x : Word) : x <<< 2 = x * 4 := BitVec.shiftLeft_eq_mul_twoPow x 2

/-- The address and the base afterwards (R368). -/
theorem State.address5_eq (s : State) (p u w : Bool) (rn : Reg) (off : Byte) :
    s.address5 p u w rn off =
      { va := if p then addedOffset u (s.reg rn) (off.zeroExtend 32 * 4) else s.reg rn
        newBase := if w then some (addedOffset u (s.reg rn) (off.zeroExtend 32 * 4)) else none } := by
  simp only [State.address5, shiftLeft_two]
  rfl

/-! The end of an instruction that may write its base back. -/

/-- Writing the base back changes its register alone (44_arm_load_store.md R491). -/
theorem State.writeBase_core (s : State) (rn : Reg) (b : Option Word) :
    (s.writeBase rn b).core = { s.core with regs := (s.writeBase rn b).core.regs } := by
  cases b with
  | none => rfl
  | some v => exact s.setReg_core rn v

theorem State.writeBase_eq (s : State) (rn : Reg) (b : Option Word) :
    s.writeBase rn b = { s with core := (s.writeBase rn b).core } := by
  cases b with
  | none => rfl
  | some v =>
    show s.setReg rn v = { s with core := (s.setReg rn v).core }
    unfold State.setReg
    split <;> rfl

theorem WritesBank.writeBase {s u : State} (core : u.core = s.core) {rn : Reg} {w : Bool} (hw : w = true → rn ≠ 15) (v : Word) :
    WritesBank s (u.writeBase rn (if w then some v else none)) s.mode (if w then [(rn, v)] else []) := by
  have mode : u.mode = s.mode := by rw [State.mode, State.mode, core]
  cases w with
  | false => exact .nil (congrArg Core.regs core)
  | true =>
    refine .one ?_
    show (u.setReg rn v).core.regs = _
    rw [State.setReg_of_ne v (hw rfl), State.setBankedReg_regs, mode, core]

/-- The base is written back, and the instruction is complete. -/
structure BaseWritten (s u t : State) (base : List (Reg × Word)) : Prop where
  regs : WritesBank s t s.mode base
  core : t.core = { s.core with pc := s.nextPc, regs := t.core.regs }
  mem : t.mem = u.mem
  btb : t.btb = u.btb
  elsewhere : SameElsewhere u t

theorem State.advance_writeBase {s u : State} (hn : s.hasNext) (core : u.core = s.core) {rn : Reg} {w : Bool}
    (hw : w = true → rn ≠ 15) (v : Word) :
    ∃ t, (u.writeBase rn (if w then some v else none)).advance = .next t ∧
      BaseWritten s u t (if w then [(rn, v)] else []) := by
  have bank := WritesBank.writeBase core hw v
  obtain ⟨x, hx⟩ : ∃ x, x = u.writeBase rn (if w then some v else none) := ⟨_, rfl⟩
  have xcore : x.core = { s.core with regs := x.core.regs } := by rw [hx, State.writeBase_core, core]
  have frame : x = { u with core := x.core } := by rw [hx]; exact u.writeBase_eq rn _
  rw [← hx] at bank ⊢
  have done := State.advance_at (u := x) hn (by rw [xcore]) (by rw [State.thumb, State.thumb, xcore])
  have elsewhere : SameElsewhere u x := by rw [frame]; exact .here u x.core u.mem u.btb
  refine ⟨_, done, bank.of_advance done, ?core, ?mem, ?btb, ?elsewhere⟩
  case core =>
    rw [State.traceInstr_core, State.setPc, xcore]
  case mem => rw [State.traceInstr_mem, State.setPc_mem, frame]
  case btb => rw [State.traceInstr_btb, State.setPc_btb, frame]
  case elsewhere => exact (elsewhere.trans (.here x _ x.mem x.btb)).trans (.traceInstr _)

/-! LDC (R368). -/

/-- LDC and STC with N = 0 are not refused in a privileged mode that is not DEBUG mode. -/
theorem State.ldcError_none {s : State} (hd : s.mode ≠ .dbg) {w : Bool} {rn : Reg} (hw : w = true → rn ≠ 15) :
    s.ldcError false w rn = none := by
  have notDbg : (s.mode == .dbg) = false := beq_eq_false_iff_ne.mpr hd
  have base : (rn == 15 && w) = false := by
    cases w with
    | false => exact Bool.and_false _
    | true => rw [beq_eq_false_iff_ne.mpr (hw rfl), Bool.false_and]
  simp only [State.ldcError, notDbg, base, Bool.false_eq_true, if_false]

/-- A write of TX beside counters that may differ (10_state.md R107, R113). -/
theorem SameElsewhere.setTx {s t : State} (h : SameElsewhere s t) (v flag : Word) :
    SameElsewhere { s with cp14 := { s.cp14 with tx := v, txrxctrl := s.cp14.txrxctrl ||| flag } }
      { t with cp14 := { t.cp14 with tx := v, txrxctrl := t.cp14.txrxctrl ||| flag } } :=
  ⟨congrArg (fun z : State => { z with cp14 := { z.cp14 with tx := v, txrxctrl := z.cp14.txrxctrl ||| flag } }) h.rest,
    h.counters, h.tracing⟩

/-- A write of CCNT beside counters that may differ (10_state.md R102). -/
theorem SameElsewhere.setCcnt {s t : State} (h : SameElsewhere s t) (v : Word) :
    SameElsewhere { s with cp14 := { s.cp14 with ccnt := v } } { t with cp14 := { t.cp14 with ccnt := v } } :=
  ⟨congrArg (fun z : State => { z with cp14 := { z.cp14 with ccnt := v } }) h.rest, h.counters, h.tracing⟩

/-! STC (R369). -/

theorem State.noteAccess_cp14 (s : State) (w : Width) (mva : Word) (store : Bool) :
    (s.noteAccess w mva store).cp14 = s.cp14 := by
  unfold State.noteAccess State.noteMatch
  split <;> rfl

/-- A store that reaches memory, once its access is noted. -/
theorem State.Direct.storeAt_noted {s : State} {va : Word} {w : Width} (h : s.Direct va w) (v : Word) :
    ∃ s1, (s.noteAccess w (s.mva va) true).storeAt (flatTarget (s.mva va)) w v = .ok s1 ∧ SameElsewhere s s1 ∧
      s1 = { s with
        mem := (s.putBytes (s.directLane va w) v w.bytes).mem
        cp14 := s1.cp14
        pending := s1.pending
        stale := s1.stale
        storing := s1.storing } := by
  obtain ⟨s1, write, elsewhere, frame⟩ := h.memWrite v true
  refine ⟨s1, ?_, elsewhere, frame⟩
  simp only [State.memWrite, h.prepare] at write
  split at write
  · cases write
  · cases write
    assumption

/-! The instructions. -/

section

variable {s : State} {c : Cond} {p u w : Bool} {rn : Reg} {off : Byte} (hc : s.passed c = true) (hp : s.mode ≠ .usr)
variable (hd : s.mode ≠ .dbg) (hn : s.hasNext) (hw : w = true → rn ≠ 15)

include hc hp hd hw in
theorem exec_ldc_cp14 (crd : BitVec 4) {v : Word} {t : State}
    (read : s.memRead (s.address5 p u w rn off).va .word true = .ok v t) :
    exec (.ldc c p u false w rn crd 14 off) s = t.finishLdc crd v rn (s.address5 p u w rn off).newBase := by
  simp only [exec, execLdc, hc, State.privileged_of_ne hp, State.ldcError_none hd hw, if_true, read]
  rfl

include hc hp hd hw in
theorem exec_stc_cp14 (crd : BitVec 4) {t : Target} {n m : State} {v : Word}
    (prepared : s.prepare (s.address5 p u w rn off).va .word true true = .ok t n) (read : n.readCp14 crd = .ok (v, n))
    (stored : n.storeAt t .word v = .ok m) :
    exec (.stc c p u false w rn crd 14 off) s = (m.writeBase rn (s.address5 p u w rn off).newBase).advance := by
  simp only [exec, execStc, hc, State.privileged_of_ne hp, State.ldcError_none hd hw, if_true, prepared, read, stored]
  rfl

include hc hp hd hn hw in
/-- LDC writes its register with the word read, then the base (41_coprocessor_access.md R368). -/
theorem exec_ldc_direct {crd : BitVec 4} {update : Cp14 → Cp14} (direct : s.Direct (s.address5 p u w rn off).va .word)
    (writes : ∀ t : State, t.writeCp14 crd (s.directValue (s.address5 p u w rn off).va .word) =
      .ok { t with cp14 := update t.cp14 })
    (beside : ∀ {t : State}, SameElsewhere s t →
      SameElsewhere { s with cp14 := update s.cp14 } { t with cp14 := update t.cp14 }) :
    let moved := addedOffset u (s.reg rn) (off.zeroExtend 32 * 4)
    ∃ t, exec (.ldc c p u false w rn crd 14 off) s = .next t ∧ WritesBank s t s.mode (if w then [(rn, moved)] else []) ∧
      t.core = { s.core with pc := s.nextPc, regs := t.core.regs } ∧ SameMemory s t ∧ t.btb = s.btb ∧
      SameElsewhere { s with cp14 := update s.cp14 } t := by
  intro moved
  obtain ⟨s1, read, noted⟩ := direct.memRead true
  obtain ⟨t, done, written⟩ :=
    State.advance_writeBase (u := { s1 with cp14 := update s1.cp14 }) hn noted.core hw moved
  refine ⟨t, ?_, written.regs, written.core, fun pa => ?_, written.btb.trans noted.btb,
    (beside noted.elsewhere).trans written.elsewhere⟩
  · rw [exec_ldc_cp14 hc hp hd hw crd read, State.finishLdc, writes, s.address5_eq]
    exact done
  · rw [State.memByte, written.mem]
    exact congrArg (memGet · pa) noted.mem

include hc hp hd hn hw in
/-- STC stores its register, and writes the base (41_coprocessor_access.md R369). -/
theorem Stores.stc {crd : BitVec 4} {v : Word} (direct : s.Direct (s.address5 p u w rn off).va .word)
    (canonical : s.memCanonical = true) (reads : ∀ n : State, n.cp14 = s.cp14 → n.readCp14 crd = .ok (v, n)) :
    Stores (exec (.stc c p u false w rn crd 14 off) s) s (s.address5 p u w rn off).va .word v
      (if w then [(rn, addedOffset u (s.reg rn) (off.zeroExtend 32 * 4))] else []) := by
  obtain ⟨s1, stored, elsewhere, frame⟩ := direct.storeAt_noted v
  have core : s1.core = s.core := by rw [frame]
  have read := reads _ (s.noteAccess_cp14 .word (s.mva (s.address5 p u w rn off).va) true)
  obtain ⟨t, done, written⟩ :=
    State.advance_writeBase hn core hw (addedOffset u (s.reg rn) (off.zeroExtend 32 * 4))
  have byte (a : Word) : t.memByte a = (s.putBytes (s.directLane (s.address5 p u w rn off).va .word) v 4).memByte a := by
    rw [State.memByte, written.mem, frame]
    rfl
  refine ⟨t, ?run, written.regs, ?pc, ?cpsr, ?spsrs, ?acc0, fun i hi => ?stored, fun a outside => ?others, ?btb,
    elsewhere.trans written.elsewhere⟩
  case run =>
    rw [exec_stc_cp14 hc hp hd hw crd (direct.prepare true true) read stored]
    simpa only [s.address5_eq] using done
  case pc | cpsr | spsrs | acc0 => rw [written.core]
  case stored => rw [byte, State.putBytes_same _ v (Nat.le_refl 4) hi canonical]
  case others => rw [byte, State.putBytes_other s _ v 4 fun i hi same => outside ⟨i, hi, same⟩]
  case btb => rw [written.btb, frame]

end

/-- Settles O49: LDC writes TX or CCNT, STC reads a register that reading does not change. -/
theorem coprocessorLoadStore : Obligations.CoprocessorLoadStore := by
  intro s c p u w rn off hc hp hd hn hw moved va base direct word loads
  have address : (s.address5 p u w rn off).va = va := congrArg Address.va (s.address5_eq p u w rn off)
  have direct' : s.Direct (s.address5 p u w rn off).va .word := address ▸ direct
  refine ⟨?tx, ?ccnt, fun canonical => ?stc⟩
  case tx =>
    refine exec_ldc_direct hc hp hd hn hw direct'
      (update := fun k => { k with tx := word, txrxctrl := k.txrxctrl ||| 0x10000000 }) (fun t => ?_) fun h => h.setTx word _
    simp only [State.writeCp14, setBit_true 28 _ (by decide), address]
    rfl
  case ccnt =>
    refine exec_ldc_direct hc hp hd hn hw direct' (update := fun k => { k with ccnt := word }) (fun t => ?_)
      fun h => h.setCcnt word
    rw [address]
    rfl
  case stc =>
    have stores {crd : BitVec 4} {v : Word} (reads : ∀ n : State, n.cp14 = s.cp14 → n.readCp14 crd = .ok (v, n)) :
        Stores (exec (.stc c p u false w rn crd 14 off) s) s va .word v base := by
      have stored := Stores.stc hc hp hd hn hw direct' canonical reads
      rwa [address] at stored
    exact ⟨stores fun n same => by rw [← same]; rfl, stores fun n same => by rw [← same]; rfl,
      stores fun n same => by rw [← same]; rfl⟩

end Sys2Proof.Machine
end

section
/-! PROOF. Which line a slot of a cache holds, and what the invalidation, the clean and the allocation of a line leave of the
lines of the caches (20_memory.md R185, R191, R205, R208, R209, R217, R218, R268). -/

namespace Sys2Proof.Machine

/-! Lines and slots. -/

/-- A line is its set and its tag. -/
theorem line_ext {l l' : BitVec 27} (set : lineSet l = lineSet l') (tag : lineTag l = lineTag l') : l = l' := by
  have hl := l.isLt
  have hl' := l'.isLt
  rw [BitVec.toNat_eq, field_toNat, field_toNat] at set tag
  rw [BitVec.toNat_eq]
  omega

/-- A slot of an instruction cache holds the valid line of an MVA line. -/
def ILine.isOf (ways : Nat) (l : BitVec 27) (k : Nat) (d : ILine) : Bool :=
  d.valid && k / ways == (lineSet l).toNat && d.tag == lineTag l

/-- A slot of a data cache holds the valid line of an MVA line. -/
def DLine.isOf (ways : Nat) (l : BitVec 27) (k : Nat) (d : DLine) : Bool :=
  d.valid && k / ways == (lineSet l).toNat && d.tag == lineTag l

theorem findIline_eq (ways : Nat) (l : BitVec 27) (lines : List (Nat × ILine)) :
    findIline ways l lines = lines.find? fun e => e.2.isOf ways l e.1 := rfl

theorem findDline_eq (ways : Nat) (l : BitVec 27) (lines : List (Nat × DLine)) :
    findDline ways l lines = lines.find? fun e => e.2.isOf ways l e.1 := rfl

/-- A slot holds one line. -/
theorem slot_line_unique {ways k : Nat} {valid : Bool} {tag : BitVec 22} {l l' : BitVec 27}
    (h : (valid && k / ways == (lineSet l).toNat && tag == lineTag l) = true)
    (h' : (valid && k / ways == (lineSet l').toNat && tag == lineTag l') = true) : l = l' := by
  simp only [Bool.and_eq_true, beq_iff_eq] at h h'
  obtain ⟨⟨-, set⟩, tag⟩ := h
  obtain ⟨⟨-, set'⟩, tag'⟩ := h'
  exact line_ext (BitVec.eq_of_toNat_eq (set.symm.trans set')) (tag.symm.trans tag')

/-- Some slot holds the line that was put. -/
theorem mem_sparsePut_same {α : Type} (l : List (Nat × α)) (k : Nat) (v : α) : (k, v) ∈ sparsePut l k v := by
  induction l with
  | nil => exact List.mem_singleton_self _
  | cons x t ih =>
    rw [sparsePut]
    split
    · exact List.mem_cons_self
    split
    · exact List.mem_cons_self
    · exact List.mem_cons_of_mem _ ih

theorem find?_sparsePut_isSome {α : Type} {p : Nat × α → Bool} (l : List (Nat × α)) {k : Nat} {d : α} (hp : p (k, d) = true) :
    ((sparsePut l k d).find? p).isSome = true :=
  List.find?_isSome.mpr ⟨_, mem_sparsePut_same l k d, hp⟩

/-- A search that found nothing finds what is put. -/
theorem find?_sparsePut_new {α : Type} {p : Nat × α → Bool} {l : List (Nat × α)} {k : Nat} {d : α} (miss : l.find? p = none)
    (hp : p (k, d) = true) : (sparsePut l k d).find? p = some (k, d) := by
  obtain ⟨x, found⟩ := Option.isSome_iff_exists.mp (find?_sparsePut_isSome l hp)
  rcases mem_sparsePut (List.mem_of_find?_eq_some found) with rfl | old
  · exact found
  · exact absurd (List.find?_some found) (List.find?_eq_none.mp miss x old)

/-! The placement of a line (R177, R212, R215). -/

theorem placeLine_way_lt (lockMode : Bool) (rr lk : BitVec 5) : (placeLine lockMode rr lk).way < 32 := by
  unfold placeLine
  split
  · exact lk.isLt
  · exact rr.isLt

/-- The set of the slot of a way. -/
theorem slot_set (set : BitVec 5) {way : Nat} (h : way < 32) : (32 * set.toNat + way) / 32 = set.toNat := by
  omega

/-! Invalidation of one line (R191, R217). -/

/-- What an invalidation makes of a slot: one that is hit goes, or stays as an unusable way where it is locked. -/
def clearedSlot {α : Type} (hit : Nat → α → Bool) (locked : α → Bool) (clear : α → α) (e : Nat × α) : Option (Nat × α) :=
  if hit e.1 e.2 then (if locked e.2 then some (e.1, clear e.2) else none) else some e

theorem invalidateIlines_eq (hit : Nat → ILine → Bool) (lines : List (Nat × ILine)) : invalidateIlines hit lines =
    lines.filterMap (clearedSlot hit ILine.locked fun d => { d with valid := false }) := by
  induction lines with
  | nil => rfl
  | cons e t ih =>
    rw [invalidateIlines, List.filterMap_cons, clearedSlot, ih]
    cases hit e.1 e.2 <;> cases e.2.locked <;> rfl

theorem invalidateDlines_eq (hit : Nat → DLine → Bool) (lines : List (Nat × DLine)) : invalidateDlines hit lines =
    lines.filterMap (clearedSlot hit DLine.locked fun d =>
      { d with valid := false, dirtyLow := false, dirtyHigh := false }) := by
  induction lines with
  | nil => rfl
  | cons e t ih =>
    rw [invalidateDlines, List.filterMap_cons, clearedSlot, ih]
    cases hit e.1 e.2 <;> cases e.2.locked <;> rfl

/-- The line that is invalidated is not found any more, and every other is found as before. -/
theorem find?_clearedSlot {α : Type} {ofLine : BitVec 27 → Nat → α → Bool} {locked : α → Bool} {clear : α → α}
    (invalid : ∀ l k d, ofLine l k (clear d) = false)
    (unique : ∀ {l l' k d}, ofLine l k d = true → ofLine l' k d = true → l = l') (l l' : BitVec 27) (lines : List (Nat × α)) :
    ((lines.filterMap (clearedSlot (ofLine l) locked clear)).find? fun e => ofLine l' e.1 e.2) =
      if l' = l then none else lines.find? fun e => ofLine l' e.1 e.2 := by
  by_cases same : l' = l
  · rw [if_pos same, same, List.find?_eq_none]
    intro e he
    obtain ⟨x, -, hx⟩ := List.mem_filterMap.mp he
    unfold clearedSlot at hx
    split at hx
    · split at hx <;> cases hx
      exact Bool.eq_false_iff.mp (invalid l _ _)
    · cases hx
      assumption
  · rw [if_neg same, List.find?_filterMap]
    have kept {e : Nat × α} (here : ofLine l' e.1 e.2 = true) : clearedSlot (ofLine l) locked clear e = some e :=
      if_neg fun gone => same (unique here gone)
    have matching (e : Nat × α) :
        (clearedSlot (ofLine l) locked clear e).any (fun e => ofLine l' e.1 e.2) = ofLine l' e.1 e.2 := by
      cases here : ofLine l' e.1 e.2
      · unfold clearedSlot
        split
        · split
          · exact invalid l' _ _
          · rfl
        · exact here
      · rw [kept here]
        exact here
    simp only [matching]
    cases found : lines.find? fun e => ofLine l' e.1 e.2 with
    | none => rfl
    | some e => exact kept (List.find?_some (p := fun e : Nat × α => ofLine l' e.1 e.2) found)

theorem findIline_invalidate (ways : Nat) (l l' : BitVec 27) (lines : List (Nat × ILine)) :
    findIline ways l' (invalidateIlines (fun k d => d.isOf ways l k) lines) =
      if l' = l then none else findIline ways l' lines := by
  rw [invalidateIlines_eq]
  exact find?_clearedSlot (ofLine := fun l k d => d.isOf ways l k) (clear := fun d => { d with valid := false })
    (fun _ _ _ => rfl) slot_line_unique l l' lines

theorem findDline_invalidate (ways : Nat) (l l' : BitVec 27) (lines : List (Nat × DLine)) :
    findDline ways l' (invalidateDlines (fun k d => d.isOf ways l k) lines) =
      if l' = l then none else findDline ways l' lines := by
  rw [invalidateDlines_eq]
  exact find?_clearedSlot (ofLine := fun l k d => d.isOf ways l k)
    (clear := fun d => { d with valid := false, dirtyLow := false, dirtyHigh := false })
    (fun _ _ _ => rfl) slot_line_unique l l' lines

/-- No data cache holds the line any more, and every other line is held as before (R217). -/
theorem State.dataHit_invalidateDcacheLine (s : State) (l l' : BitVec 27) :
    (s.invalidateDcacheLine l).dataHit l' = if l' = l then none else s.dataHit l' := by
  have main : findDline 32 l' (s.invalidateDcacheLine l).dcache.lines = _ := findDline_invalidate 32 l l' s.dcache.lines
  have mini : findDline 2 l' (s.invalidateDcacheLine l).miniDCache.lines = _ := findDline_invalidate 2 l l' s.miniDCache.lines
  rw [State.dataHit, main, mini, State.dataHit]
  by_cases same : l' = l
  · simp only [same, if_true, Option.map_none]
  · simp only [same, if_false]

/-! Write-backs (R208, R209). -/

/-- Only the write buffer, memory with what is beside it, and the counters may differ. -/
def BufferFrame (s t : State) : Prop :=
  t = { s with
    cp14 := t.cp14, writeBuf := t.writeBuf, mem := t.mem, deviceOps := t.deviceOps, pending := t.pending
    freeCtr := t.freeCtr, stale := t.stale }

namespace BufferFrame

theorem refl (s : State) : BufferFrame s s := rfl

theorem trans {s t u : State} (h : BufferFrame s t) (k : BufferFrame t u) : BufferFrame s u := by
  unfold BufferFrame at h k ⊢
  rw [h] at k
  exact k

theorem ite {s t : State} {p : Prop} [Decidable p] (h : BufferFrame s t) : BufferFrame s (if p then t else s) := by
  split
  · exact h
  · exact .refl s

theorem ofBus {s t : State} (h : BusFrame s t) : BufferFrame s t := by
  unfold BufferFrame
  rw [h]

theorem setWriteBuf {s t : State} (h : BufferFrame s t) (l : List WriteEntry) : BufferFrame s { t with writeBuf := l } :=
  h.trans rfl

theorem retireWrite (s : State) (i : Nat) : BufferFrame s (s.retireWrite i) := by
  unfold State.retireWrite
  split
  · exact .refl s
  · exact .ite ((ofBus (.deliver s none _)).setWriteBuf _)

theorem appendWrite (s : State) (e : WriteEntry) : BufferFrame s (s.appendWrite e) :=
  (BufferFrame.ite (.retireWrite s 0) : BufferFrame s s.makeRoom).setWriteBuf _

theorem writeBackHalf (s : State) (d : DLine) (high : Bool) : BufferFrame s (s.writeBackHalf d high) :=
  (show BufferFrame s (s.count .dcacheWriteBack) from rfl).trans (.appendWrite _ _)

theorem writeBackHalves (s : State) (d : DLine) : BufferFrame s (s.writeBackHalves d) :=
  (BufferFrame.ite (.writeBackHalf s d false)).trans (.ite (.writeBackHalf _ d true))

theorem writeBackLine (s : State) (detects : Bool) (d : DLine) : BufferFrame s (s.writeBackLine detects d) :=
  (BufferFrame.ite (show BufferFrame s (s.pendImprecise true none) from rfl)).trans (.writeBackHalves _ d)

theorem evict (s : State) (detects mini : Bool) (key : Nat) : BufferFrame s (s.evict detects mini key) := by
  unfold State.evict
  split
  · exact .ite (.writeBackLine s detects _)
  · exact .refl s

theorem drainWrites (s : State) : BufferFrame s s.drainWrites := (ofBus (.deliverAll s s.writeBuf)).setWriteBuf _

theorem core {s t : State} (h : BufferFrame s t) : t.core = s.core := by rw [h]
theorem dcache {s t : State} (h : BufferFrame s t) : t.dcache = s.dcache := by rw [h]
theorem miniDCache {s t : State} (h : BufferFrame s t) : t.miniDCache = s.miniDCache := by rw [h]

theorem dataHit {s t : State} (h : BufferFrame s t) (l : BitVec 27) : t.dataHit l = s.dataHit l :=
  State.dataHit_congr h.dcache h.miniDCache l

end BufferFrame

theorem toNat_append_ofBool (pl : BitVec 27) (b : Bool) :
    (pl ++ BitVec.ofBool b : BitVec 28).toNat = pl.toNat * 2 + b.toNat := by
  rw [BitVec.toNat_append, ← Nat.shiftLeft_add_eq_or_of_lt (BitVec.isLt _), Nat.shiftLeft_eq, BitVec.toNat_ofBool]

/-- The entry of half a line holds the bytes of that half (R209). -/
theorem DLine.byteAt_halfEntry (d : DLine) (high : Bool) (i : Fin 32) :
    (d.halfEntry high).byteAt (d.paLine ++ BitVec.ofNat 5 i.val) =
      if high = decide (16 ≤ i.val) then some d.data[i] else none := by
  have hi := i.isLt
  have address : (d.paLine ++ BitVec.ofNat 5 i.val : BitVec 32).toNat = d.paLine.toNat * 32 + i.val := by
    rw [lineByte_toNat, BitVec.toNat_ofNat, Nat.mod_eq_of_lt hi]
  have block : (d.halfEntry high).block = field (d.paLine ++ BitVec.ofNat 5 i.val : BitVec 32) 4 28 ↔
      high = decide (16 ≤ i.val) := by
    rw [BitVec.toNat_eq, field_block_toNat, address]
    show (d.paLine ++ BitVec.ofBool high : BitVec 28).toNat = _ ↔ _
    rw [toNat_append_ofBool]
    cases high <;> simp <;> omega
  have lane : (field (d.paLine ++ BitVec.ofNat 5 i.val : BitVec 32) 0 4).toNat = i.val % 16 := by
    rw [field_low_toNat, address]
    omega
  have held : ∀ j < 16, bitAt (d.halfEntry high).mask j = true := by
    show ∀ j < 16, bitAt (0xFFFF : BitVec 16) j = true
    decide
  have byte : high = decide (16 ≤ i.val) → (d.halfEntry high).data[i.val % 16]? = some d.data[i] := by
    intro half
    have place : (if high = true then 16 else 0) + i.val % 16 = i.val := by
      rw [half]
      by_cases upper : 16 ≤ i.val
      · rw [decide_eq_true upper, if_pos rfl]
        omega
      · rw [decide_eq_false upper, if_neg Bool.false_ne_true]
        omega
    simp only [DLine.halfEntry]
    rw [Vector.getElem?_eq_getElem (by omega), Vector.getElem_ofFn]
    simp only [place]
    rw [Vector.getElem?_eq_getElem hi]
    rfl
  simp only [WriteEntry.byteAt, lane, held _ (Nat.mod_lt _ (by decide)), and_true, block]
  split
  · exact byte ‹_›
  · rfl

/-- The data side sees the newest entry that holds a byte. -/
theorem State.dataByte_of_entry {s : State} {older newer : List WriteEntry} {e : WriteEntry} {a : Word} {b : Byte}
    (buffered : s.writeBuf = older ++ e :: newer) (held : e.byteAt a = some b) (last : bufferedByte a newer = none) :
    s.dataByte a = b := by
  rw [State.dataByte_eq, buffered, bufferedByte_append, bufferedByte_cons, last, held]
  rfl

/-- Room is made at the old end: the newest entry stays (R230). -/
theorem State.makeRoom_newest {s : State} {l : List WriteEntry} {e : WriteEntry} (h : s.writeBuf = l ++ [e]) :
    ∃ l', s.makeRoom.writeBuf = l' ++ [e] := by
  unfold State.makeRoom
  split
  · rename_i full
    cases l with
    | nil => simp [h] at full
    | cons o t => exact ⟨t, by simp [State.retireWrite, h, State.mayRetire]⟩
  · exact ⟨l, h⟩

theorem State.writeBackHalf_writeBuf (s : State) (d : DLine) (high : Bool) : (s.writeBackHalf d high).writeBuf =
    (s.count .dcacheWriteBack).makeRoom.writeBuf ++ [d.halfEntry high] := rfl

/-- The data side sees the dirty halves of a line that is written back (R208, R246). -/
theorem State.writeBackHalves_dataByte (s : State) (d : DLine) (i : Fin 32)
    (dirty : (if i.val < 16 then d.dirtyLow else d.dirtyHigh) = true) :
    (s.writeBackHalves d).dataByte (d.paLine ++ BitVec.ofNat 5 i.val) = d.data[i] := by
  have byte (high : Bool) := d.byteAt_halfEntry high i
  by_cases low : i.val < 16
  · rw [if_pos low] at dirty
    have upper : decide (16 ≤ i.val) = false := decide_eq_false (by omega)
    rw [upper] at byte
    have here := s.writeBackHalf_writeBuf d false
    cases high : d.dirtyHigh
    · simp only [State.writeBackHalves, dirty, high, Bool.false_eq_true, if_false, if_true]
      exact State.dataByte_of_entry here (byte false) rfl
    · obtain ⟨l, kept⟩ := State.makeRoom_newest (s := (s.writeBackHalf d false).count .dcacheWriteBack) here
      have both := (s.writeBackHalf d false).writeBackHalf_writeBuf d true
      rw [kept, List.append_assoc] at both
      simp only [State.writeBackHalves, dirty, high, if_true]
      exact State.dataByte_of_entry both (byte false) ((bufferedByte_single _ _).trans (byte true))
  · rw [if_neg low] at dirty
    have upper : decide (16 ≤ i.val) = true := decide_eq_true (by omega)
    rw [upper] at byte
    simp only [State.writeBackHalves, dirty, if_true]
    exact State.dataByte_of_entry (State.writeBackHalf_writeBuf _ d true) (byte true) rfl

/-! The clean of a line (R217). -/

theorem State.cleanDcacheLine_hit {s : State} {l : BitVec 27} {h : Hit} (hit : s.dataHit l = some h) : s.cleanDcacheLine l =
    (s.writeBackLine true h.line).putDline h { h.line with dirtyLow := false, dirtyHigh := false } := by
  simp only [State.cleanDcacheLine, hit]

theorem State.cleanDcacheLine_miss {s : State} {l : BitVec 27} (miss : s.dataHit l = none) : s.cleanDcacheLine l = s := by
  simp only [State.cleanDcacheLine, miss]

theorem State.putDline_core (s : State) (h : Hit) (d : DLine) : (s.putDline h d).core = s.core := by
  unfold State.putDline State.setDlines
  split <;> rfl

theorem State.putDline_dataByte (s : State) (h : Hit) (d : DLine) (a : Word) : (s.putDline h d).dataByte a = s.dataByte a := by
  unfold State.putDline State.setDlines
  split <;> rfl

theorem State.cleanDcacheLine_core (s : State) (l : BitVec 27) : (s.cleanDcacheLine l).core = s.core := by
  cases hit : s.dataHit l with
  | none => rw [State.cleanDcacheLine_miss hit]
  | some h => rw [State.cleanDcacheLine_hit hit, State.putDline_core, (BufferFrame.writeBackLine s true h.line).core]

/-- The line stays, clean. -/
theorem State.cleanDcacheLine_dataHit {s : State} {l : BitVec 27} {h : Hit} (hit : s.dataHit l = some h) :
    (s.cleanDcacheLine l).dataHit l = some { h with line := { h.line with dirtyLow := false, dirtyHigh := false } } := by
  rw [State.cleanDcacheLine_hit hit]
  refine State.dataHit_putDline ?_ rfl rfl
  rw [(BufferFrame.writeBackLine s true h.line).dataHit, hit]

/-! The allocation of a line (R268). -/

/-- A line that is allocated in the data cache is found there. -/
theorem State.allocMain_hit (s : State) (detects : Bool) (l pl : BitVec 27) (data : LineData) :
    ((s.allocMain detects l pl data).dataHit l).isSome = true := by
  have found : (findDline 32 l (s.allocMain detects l pl data).dcache.lines).isSome = true := by
    refine find?_sparsePut_isSome _ ?_
    show (true && _ == _ && lineTag l == lineTag l) = true
    rw [slot_set _ (placeLine_way_lt _ _ _), beq_self_eq_true, beq_self_eq_true]
    rfl
  obtain ⟨e, found⟩ := Option.isSome_iff_exists.mp found
  simp only [State.dataHit, found, Option.isSome_some]

end Sys2Proof.Machine
end

section
/-! PROOF. The cache, write-buffer, BTB and TLB functions of CP15 (41_coprocessor_access.md R370-R375; 20_memory.md R191, R217,
R218, R234, R268). -/

namespace Sys2Proof.Machine

/-! How a function runs. -/

theorem State.cp15Function_run {s : State} {c : Cond} {rd : Reg} (hc : s.passed c = true) (hp : s.mode ≠ .usr) (hrd : rd ≠ 15)
    (f : Word → Result) : s.cp15Function c rd f = f (s.reg rd) := by
  have h15 : (rd == 15) = false := beq_eq_false_iff_ne.mpr hrd
  simp only [State.cp15Function, hc, State.privileged_of_ne hp, h15, Bool.not_true, Bool.false_eq_true, if_false, if_true]

/-- A function of CP15 runs in a privileged mode, on the value of its register (R361, R363). -/
theorem exec_function {s : State} {c : Cond} {rd : Reg} {i : Instr} {f : Word → Result} (hc : s.passed c = true)
    (hp : s.mode ≠ .usr) (hrd : rd ≠ 15) (run : exec i s = s.cp15Function c rd f) : exec i s = f (s.reg rd) :=
  run.trans (State.cp15Function_run hc hp hrd f)

/-- An instruction that leaves a state with the core registers of `s` goes on in sequence. -/
theorem CompletesAs.ofCore {s u : State} (hn : s.hasNext) (core : u.core = s.core) : CompletesAs u.advance s u :=
  .advance hn (congrArg Core.pc core) (congrArg (fun k : Core => bitAt k.cpsr 5) core)

/-! The functions that never abort. -/

theorem State.settleFills_core (s : State) : s.settleFills.core = s.core := (AccessFrame.settleFills s).core

theorem State.drainCommand_core (s : State) : s.drainCommand.core = s.core := (AccessFrame.drainAll s).core

/-- Each function of the table leaves the state of its row (R371-R375). -/
theorem functionRows_complete {s : State} {c : Cond} {rd : Reg} (hc : s.passed c = true) (hp : s.mode ≠ .usr) (hrd : rd ≠ 15)
    (hn : s.hasNext) : ∀ r ∈ functionRows s c rd, CompletesAs (exec r.1 s) s r.2 := by
  have row {i : Instr} {f : Word → State} (run : exec i s = s.cp15Function c rd fun v => (f v).advance)
      (core : (f (s.reg rd)).core = s.core) : CompletesAs (exec i s) s (f (s.reg rd)) := by
    rw [exec_function hc hp hrd run]
    exact .ofCore hn core
  have settled := s.settleFills_core
  have cleaned := (State.cleanDcacheLine_core s.settleFills (lineOf (s.reg rd))).trans settled
  simp only [functionRows, List.forall_mem_cons, List.not_mem_nil, false_implies, implies_true, and_true]
  refine ⟨?invIDCacheBtb, ?invICacheBtb, ?invICacheLine, ?invDCache, ?invDCacheLine, ?cleanDCacheLine, ?drainWriteBuffer,
    ?invBtb, ?invIDTlb, ?invITlb, ?invDTlb, ?invITlbEntry, ?invDTlbEntry⟩
  case invIDCacheBtb => exact row (f := fun _ => s.settleFills.invalidateIcache.invalidateDcache) rfl settled
  case invICacheBtb => exact row (f := fun _ => s.invalidateIcache) rfl rfl
  case invICacheLine => exact row (f := fun v => s.invalidateIcacheLine (lineOf v)) rfl rfl
  case invDCache => exact row (f := fun _ => s.settleFills.invalidateDcache) rfl settled
  case invDCacheLine => exact row (f := fun v => s.settleFills.invalidateDcacheLine (lineOf v)) rfl settled
  case cleanDCacheLine => exact row (f := fun v => s.settleFills.cleanDcacheLine (lineOf v)) rfl cleaned
  case drainWriteBuffer => exact row (f := fun _ => s.drainCommand) rfl s.drainCommand_core
  case invBtb => exact row (f := fun _ => { s with btb := [] }) rfl rfl
  case invIDTlb => exact row (f := fun _ => (s.setTlb .instr s.itlb.invalidate).setTlb .data s.dtlb.invalidate) rfl rfl
  case invITlb => exact row (f := fun _ => s.setTlb .instr s.itlb.invalidate) rfl rfl
  case invDTlb => exact row (f := fun _ => s.setTlb .data s.dtlb.invalidate) rfl rfl
  case invITlbEntry => exact row (f := fun v => s.setTlb .instr (s.itlb.invalidateEntry v)) rfl rfl
  case invDTlbEntry => exact row (f := fun v => s.setTlb .data (s.dtlb.invalidateEntry v)) rfl rfl

/-! The commands that complete the pending memory operations (R234, R268). -/

/-- What these commands leave as it is. -/
structure CommandFrame (s t : State) : Prop where
  core : t.core = s.core
  cp15 : t.cp15 = s.cp15
  itlb : t.itlb = s.itlb
  dtlb : t.dtlb = s.dtlb
  icache : t.icache = s.icache
  btb : t.btb = s.btb

namespace CommandFrame

theorem trans {s t u : State} (h : CommandFrame s t) (k : CommandFrame t u) : CommandFrame s u :=
  ⟨k.core.trans h.core, k.cp15.trans h.cp15, k.itlb.trans h.itlb, k.dtlb.trans h.dtlb, k.icache.trans h.icache,
    k.btb.trans h.btb⟩

theorem ofBuffers {s t : State} (h : BufferFrame s t) : CommandFrame s t := by
  constructor <;> rw [h]

theorem allocMain (s : State) (detects : Bool) (l pl : BitVec 27) (data : LineData) :
    CommandFrame s (s.allocMain detects l pl data) := by
  obtain ⟨core, cp15, itlb, dtlb, icache, btb⟩ := ofBuffers
    (.evict s detects false
      (32 * (lineSet l).toNat + (placeLine s.cp15.dlock s.dcache.rr[(lineSet l).toFin] s.dcache.lk[(lineSet l).toFin]).way))
  exact ⟨core, cp15, itlb, dtlb, icache, btb⟩

end CommandFrame

/-- The end of such a command: the PC moves on. -/
structure CommandDone (s u t : State) : Prop where
  core : t.core = { s.core with pc := s.nextPc }
  cp15 : t.cp15 = s.cp15
  itlb : t.itlb = s.itlb
  dtlb : t.dtlb = s.dtlb
  icache : t.icache = s.icache
  btb : t.btb = s.btb
  lines : ∀ l, t.dataHit l = u.dataHit l
  writeBuf : t.writeBuf = u.writeBuf
  mem : t.mem = u.mem

theorem CommandFrame.advance {s u : State} (h : CommandFrame s u) (hn : s.hasNext) :
    ∃ t, u.advance = .next t ∧ CommandDone s u t := by
  obtain ⟨core, cp15, itlb, dtlb, icache, btb⟩ := h
  refine ⟨_, State.advance_at hn (by rw [core]) (by rw [State.thumb, State.thumb, core]), ?_⟩
  constructor
  case core => rw [State.traceInstr_core, State.setPc, core]
  case lines => exact State.dataHit_congr (by simp) (by simp)
  case writeBuf | mem => simp
  case cp15 | itlb | dtlb | icache | btb => simp [cp15, itlb, dtlb, icache, btb]

/-- With nothing outstanding a drain empties the write buffer (R234). -/
theorem State.drainAll_settled {s : State} (hf : s.fillBuf = []) : s.drainAll = s.drainWrites := by
  rw [State.drainAll, State.settleFills_empty hf]

theorem CommandFrame.drainCommand {s : State} (hf : s.fillBuf = []) : CommandFrame s s.drainCommand := by
  have drained := CommandFrame.ofBuffers (.drainWrites s)
  rw [← State.drainAll_settled hf] at drained
  exact drained.trans ⟨rfl, rfl, rfl, rfl, rfl, rfl⟩

/-- The command leaves a line for its address, where lock mode does not refuse it. -/
theorem State.allocateCommand_hit {s : State} (hf : s.fillBuf = []) {mva pa : Word}
    (allowed : s.cp15.dlock = false ∨ s.dataHit (lineOf mva) = none) :
    ∃ t, s.allocateCommand mva pa = .ok t ∧ CommandFrame s t ∧ (t.dataHit (lineOf mva)).isSome = true := by
  have frame := BufferFrame.drainWrites s
  have lookup := frame.dataHit (lineOf mva)
  have drained := CommandFrame.ofBuffers frame
  simp only [State.allocateCommand, State.drainAll_settled hf]
  cases hit : s.dataHit (lineOf mva) with
  | none =>
    have consumed : CommandFrame s.drainWrites (s.drainWrites.consume 8) := ⟨rfl, rfl, rfl, rfl, rfl, rfl⟩
    rw [lookup, hit]
    exact ⟨_, rfl, drained.trans (consumed.trans (.allocMain ..)), State.allocMain_hit ..⟩
  | some h =>
    have unlocked : s.cp15.dlock = false := allowed.resolve_right (by simp [hit])
    have accepted : s.drainWrites.lockHit h (lineOf mva) = false := by
      rw [State.lockHit, drained.cp15, unlocked]
      rfl
    rw [lookup, hit]
    simp only [accepted]
    exact ⟨_, rfl, drained, by rw [lookup, hit]; rfl⟩

/-! The statement. -/

/-- Settles O50, function by function. -/
theorem cacheAndTlbFunctions : Obligations.CacheAndTlbFunctions := by
  intro s c rd hc hp hrd hn l moves
  refine ⟨functionRows_complete hc hp hrd hn, State.settleFills_empty, ⟨rfl, fun e => ?icache, rfl, rfl⟩, ⟨rfl, ?icacheLine⟩,
    ⟨rfl, fun e => ?dcache⟩, ⟨rfl, ?dcacheLine⟩, State.cleanDcacheLine_miss, fun h hit => ?clean,
    fun hf platform errors => ?drain, fun hf off allowed => ?alloc⟩
  case icache | dcache => exact List.mem_filter
  case icacheLine =>
    have main (l' : BitVec 27) : findIline 32 l' (s.invalidateIcacheLine l).icache.lines = _ :=
      findIline_invalidate 32 l l' s.icache.lines
    have mini (l' : BitVec 27) : findIline 2 l' (s.invalidateIcacheLine l).miniICache.lines = _ :=
      findIline_invalidate 2 l l' s.miniICache.lines
    exact ⟨(main l).trans (if_pos rfl), (mini l).trans (if_pos rfl),
      fun l' other => ⟨(main l').trans (if_neg other), (mini l').trans (if_neg other)⟩⟩
  case dcacheLine =>
    have lookup := s.dataHit_invalidateDcacheLine l
    exact ⟨(lookup l).trans (if_pos rfl), fun l' other => (lookup l').trans (if_neg other)⟩
  case clean =>
    refine ⟨State.cleanDcacheLine_dataHit hit, s.cleanDcacheLine_core l, fun i dirty => ?_⟩
    rw [State.cleanDcacheLine_hit hit, State.putDline_dataByte]
    exact State.writeBackHalves_dataByte _ h.line i dirty
  case drain =>
    obtain ⟨t, run, done⟩ := (CommandFrame.drainCommand hf).advance hn
    refine ⟨t, (exec_function (f := fun _ => s.drainCommand.advance) hc hp hrd rfl).trans run,
      ⟨done.core, done.cp15, done.itlb, done.dtlb, done.icache, done.btb⟩, done.writeBuf, fun canonical pa => ?_⟩
    have drained := State.drainWrites_memByte ⟨platform, errors, canonical⟩ pa
    rw [← State.drainAll_settled hf] at drained
    rw [State.memByte, done.mem]
    exact drained
  case alloc =>
    obtain ⟨u, command, frame, found⟩ :=
      State.allocateCommand_hit (pa := ({ TlbEntry.empty with base := s.reg rd } : TlbEntry).pa (s.reg rd)) hf allowed
    obtain ⟨t, run, done⟩ := frame.advance hn
    have flat : s.allocateLine (s.reg rd) = .ok () u := by
      simp only [State.allocateLine, off, Bool.false_eq_true, if_false, command]
    have finished : exec (.allocDCacheLine c rd) s = finishFunction (s.allocateLine (s.reg rd)) :=
      exec_function (f := fun v => finishFunction (s.allocateLine v)) hc hp hrd rfl
    rw [flat] at finished
    exact ⟨t, finished.trans run, ⟨done.core, done.cp15, done.itlb, done.dtlb, done.icache, done.btb⟩,
      (congrArg _ (done.lines l)).trans found⟩

end Sys2Proof.Machine
end

section
/-! PROOF. The lock and unlock functions of CP15 (41_coprocessor_access.md R376, R377; 20_memory.md R178, R193, R194,
R215, R216). -/

namespace Sys2Proof.Machine

/-! Unlocking a cache (R194, R216). -/

/-- A search among the slots that an unlock changes and keeps. -/
theorem find?_map_filter {α : Type} {f : α → α} {p valid : α → Bool} (same : ∀ e, p (f e) = p e)
    (matched : ∀ e, p e = true → valid (f e) = true) (l : List α) : ((l.map f).filter valid).find? p = (l.find? p).map f := by
  rw [List.find?_filter, List.find?_map]
  congr 2
  funext e
  cases here : p e
  · simp [same, here]
  · simp [same, here, matched e here]

theorem findIline_unlock (ways : Nat) (l : BitVec 27) (lines : List (Nat × ILine)) :
    findIline ways l ((lines.map unlockIline).filter fun e => e.2.valid) = (findIline ways l lines).map unlockIline := by
  refine find?_map_filter (f := unlockIline) (fun _ => rfl) (fun e matched => ?_) lines
  exact (Bool.and_eq_true_iff.mp (Bool.and_eq_true_iff.mp matched).1).1

theorem findDline_unlock (ways : Nat) (l : BitVec 27) (lines : List (Nat × DLine)) :
    findDline ways l ((lines.map unlockDline).filter fun e => e.2.valid) = (findDline ways l lines).map unlockDline := by
  refine find?_map_filter (f := unlockDline) (fun _ => rfl) (fun e matched => ?_) lines
  exact (Bool.and_eq_true_iff.mp (Bool.and_eq_true_iff.mp matched).1).1

/-- What an unlock keeps was made by it. -/
theorem forall_mem_map_filter {α : Type} {f : α → α} {valid : α → Bool} {P : α → Prop} (made : ∀ e, P (f e)) (l : List α) :
    ∀ e ∈ (l.map f).filter valid, P e := by
  intro e he
  obtain ⟨x, -, rfl⟩ := List.mem_map.mp (List.mem_filter.mp he).1
  exact made x

/-! Unlocking a TLB (R178). -/

/-- The unlock keeps the valid entries. -/
theorem Tlb.held_unlock (t : Tlb) : t.unlock.held = t.held := by
  simp only [Tlb.held, Tlb.unlock, Vector.toList_map, List.filter_map, List.map_map]
  rfl

/-- No translation ends with an unlock (93 U11). -/
theorem Tlb.dropped_unlock (t : Tlb) : t.dropped t.unlock = [] := by
  have kept : t.held.filter (fun e => !t.held.contains e) = [] := List.filter_eq_nil_iff.mpr fun e he => by
    simp [he]
  rw [Tlb.dropped, Tlb.held_unlock, kept, List.map_nil]

theorem State.setTlb_unlock_itlb (s : State) : s.setTlb .instr s.itlb.unlock = { s with itlb := s.itlb.unlock } := by
  simp only [State.setTlb, Tlb.dropped_unlock, State.noteMaps_nil]

/-! The walk of a lock operation (R163, R178). -/

/-- The state that a translation leaves has these counters. -/
def Translation.withCp14 (k : Cp14) : Translation → Translation
  | .ok e s => .ok e (s.setCp14 k)
  | .fault c s => .fault c (s.setCp14 k)
  | .stop r => .stop r

theorem State.readDescriptor_withCp14 (s : State) (k : Cp14) (pa : Word) :
    (s.setCp14 k).readDescriptor pa =
      ((s.readDescriptor pa).1, (s.readDescriptor pa).2.setCp14 k) := by
  have memory : (s.setCp14 k).allMemory pa 4 = s.allMemory pa 4 := rfl
  have error : (s.setCp14 k).anyError .walk pa 4 = s.anyError .walk pa 4 := rfl
  have device : (s.setCp14 k).anyRegion .device pa 4 = s.anyRegion .device pa 4 := rfl
  simp only [State.readDescriptor, State.busRead, memory, error, device]
  split
  · rfl
  · cases s.anyRegion .device pa 4 <;> rfl

theorem State.secondLevel_withCp14 (s : State) (k : Cp14) (fine : Bool) (mva d : Word) (domain : BitVec 4) :
    (s.setCp14 k).secondLevel fine mva d domain = (s.secondLevel fine mva d domain).withCp14 k := by
  unfold State.secondLevel
  split <;> rfl

theorem State.walkSecond_withCp14 (s : State) (k : Cp14) (fine : Bool) (mva a : Word) (domain : BitVec 4) :
    (s.setCp14 k).walkSecond fine mva a domain = (s.walkSecond fine mva a domain).withCp14 k := by
  rw [State.walkSecond, State.readDescriptor_withCp14, State.walkSecond]
  rcases s.readDescriptor a with ⟨_ | d, t⟩
  · rfl
  · exact t.secondLevel_withCp14 k fine mva d domain

theorem State.firstLevel_withCp14 (s : State) (k : Cp14) (mva d : Word) :
    (s.setCp14 k).firstLevel mva d = (s.firstLevel mva d).withCp14 k := by
  unfold State.firstLevel
  dsimp only
  split
  · rfl
  · exact s.walkSecond_withCp14 k ..
  · rfl
  · exact s.walkSecond_withCp14 k ..

/-- A table walk reads no counter: one that is counted first goes the same way. -/
theorem State.walk_withCp14 (s : State) (k : Cp14) (mva : Word) :
    (s.setCp14 k).walk mva = (s.walk mva).withCp14 k := by
  rw [State.walk, State.setCp14_cp15, State.readDescriptor_withCp14, State.walk]
  rcases s.readDescriptor (field s.cp15.ttbr 14 18 ++ field mva 20 12 ++ 0#2 : BitVec 32) with ⟨_ | d, t⟩
  · rfl
  · exact t.firstLevel_withCp14 k mva d

theorem State.countTlbMiss_eq (s : State) (side : Side) : s.countTlbMiss side = s.setCp14 (s.countTlbMiss side).cp14 := by
  cases side <;> rfl

/-- A walk changes the calls into devices and the count of free values only. -/
def WalkFrame (s t : State) : Prop := t = { s with deviceOps := t.deviceOps, freeCtr := t.freeCtr }

theorem WalkFrame.trans {s t u : State} (h : WalkFrame s t) (k : WalkFrame t u) : WalkFrame s u := by
  unfold WalkFrame at h k ⊢
  rw [h] at k
  exact k

theorem WalkFrame.readDescriptor (s : State) (pa : Word) : WalkFrame s (s.readDescriptor pa).2 := s.busRead_after _ _ pa 4

theorem WalkFrame.walkSecond {s t : State} {fine : Bool} {mva a : Word} {domain : BitVec 4}
    (h : (s.walkSecond fine mva a domain).after? = some t) : WalkFrame s t := by
  have read := WalkFrame.readDescriptor s a
  unfold State.walkSecond at h
  split at h <;> rename_i e <;> rw [e] at read
  · cases h
    exact read
  · unfold State.secondLevel at h
    split at h <;> cases h <;> exact read

theorem WalkFrame.walk {s t : State} {mva : Word} (h : (s.walk mva).after? = some t) : WalkFrame s t := by
  have read := WalkFrame.readDescriptor s (field s.cp15.ttbr 14 18 ++ field mva 20 12 ++ 0#2 : BitVec 32)
  unfold State.walk at h
  split at h <;> rename_i e <;> rw [e] at read
  · cases h
    exact read
  · unfold State.firstLevel at h
    dsimp only at h
    split at h
    case h_1 | h_3 => cases h; exact read
    case h_2 | h_4 => exact read.trans (.walkSecond h)

/-- Locking puts the entry of the walk into the TLB, where its permissions are those of a read (R178; log entry 83). -/
theorem State.lockTlbEntry_ok {s s1 : State} {side : Side} {v : Word} {e : TlbEntry} (on : s.mmuOn = true)
    (miss : (s.tlb side).lookup v = none) (walked : s.walk v = .ok e s1)
    (allowed : s.checkAccess e v s.privileged false = .ok none) :
    ∃ t : State, s.lockTlbEntry side v = .ok () (t.setTlb side ((s.tlb side).lock e)) ∧
      t = { s with cp14 := t.cp14, deviceOps := t.deviceOps, freeCtr := t.freeCtr } := by
  have frame : WalkFrame s s1 := .walk (by rw [walked]; rfl)
  have counted : (s.countTlbMiss side).walk v = .ok e (s1.setCp14 (s.countTlbMiss side).cp14) := by
    rw [s.countTlbMiss_eq side, State.walk_withCp14, walked]
    rfl
  refine ⟨s1.setCp14 (s.countTlbMiss side).cp14, ?_, by rw [frame]; rfl⟩
  have allowed' : (s1.setCp14 (s.countTlbMiss side).cp14).checkAccess e v
      (s1.setCp14 (s.countTlbMiss side).cp14).privileged false = .ok none := by rw [frame]; exact allowed
  have tlb : (s1.setCp14 (s.countTlbMiss side).cp14).tlb side = s.tlb side := by rw [frame]; cases side <;> rfl
  simp only [State.lockTlbEntry, on, miss, counted, allowed', tlb, Bool.not_true, Option.isSome_none, Bool.false_eq_true,
    if_false]

theorem State.tlb_setTlb_same (s : State) (side : Side) (t : Tlb) : (s.setTlb side t).tlb side = t := by
  cases side <;> rfl

theorem State.tlb_setTlb_other (s : State) {side other : Side} (t : Tlb) (h : other ≠ side) :
    (s.setTlb side t).tlb other = s.tlb other := by
  cases side with
  | instr =>
    cases other with
    | instr => exact absurd rfl h
    | data => rfl
  | data =>
    cases other with
    | instr => rfl
    | data => exact absurd rfl h

theorem State.setTlb_core (s : State) (side : Side) (t : Tlb) : (s.setTlb side t).core = s.core := by
  cases side <;> rfl

theorem State.setTlb_cp15 (s : State) (side : Side) (t : Tlb) : (s.setTlb side t).cp15 = s.cp15 := by
  cases side <;> rfl

theorem State.traceInstr_tlb (s : State) (side : Side) : s.traceInstr.tlb side = s.tlb side := by
  cases side
  · exact s.traceInstr_itlb
  · exact s.traceInstr_dtlb

/-- The lock of a TLB entry is complete. -/
structure EntryLocked (s t : State) (side : Side) (e : TlbEntry) : Prop where
  tlb : t.tlb side = (s.tlb side).lock e
  core : t.core = { s.core with pc := s.nextPc }
  memory : SameMemory s t
  cp15 : t.cp15 = s.cp15
  others : ∀ other, other ≠ side → t.tlb other = s.tlb other

theorem State.lockTlbEntry_completes {s s1 : State} (hn : s.hasNext) {side : Side} {v : Word} {e : TlbEntry}
    (on : s.mmuOn = true) (miss : (s.tlb side).lookup v = none) (walked : s.walk v = .ok e s1)
    (allowed : s.checkAccess e v s.privileged false = .ok none) :
    ∃ t, finishFunction (s.lockTlbEntry side v) = .next t ∧ EntryLocked s t side e := by
  obtain ⟨u, locked, frame⟩ := State.lockTlbEntry_ok on miss walked allowed
  have core : (u.setTlb side ((s.tlb side).lock e)).core = s.core := by rw [State.setTlb_core, frame]
  have done := State.advance_at hn (congrArg Core.pc core) (congrArg (fun k : Core => bitAt k.cpsr 5) core)
  refine ⟨_, (congrArg finishFunction locked).trans done, ?tlb, ?core, fun a => ?memory, ?cp15, fun other ne => ?others⟩
  case tlb => exact (State.traceInstr_tlb ..).trans (State.tlb_setTlb_same ..)
  case core => rw [State.traceInstr_core, State.setPc, core]
  case memory =>
    rw [State.memByte, State.traceInstr_mem, State.setPc_mem, State.setTlb_mem, frame]
    rfl
  case cp15 => rw [State.traceInstr_cp15, State.setPc_cp15, State.setTlb_cp15, frame]
  case others =>
    refine (State.traceInstr_tlb ..).trans ((u.tlb_setTlb_other _ ne).trans ?_)
    rw [frame]
    cases other <;> rfl

/-! Locking a line of the instruction cache (R193). -/

theorem placeLine_lower {lk : BitVec 5} (rr : BitVec 5) (h : lk.toNat < 28) : (placeLine true rr lk).locked = true := by
  have below : lk.ult 28 = true := decide_eq_true h
  rw [placeLine, below]
  rfl

theorem placeLine_full {lk : BitVec 5} (rr : BitVec 5) (h : 28 ≤ lk.toNat) :
    (placeLine true rr lk).locked = false ∧ (placeLine true rr lk).lk = lk := by
  have full : lk.ult 28 = false := decide_eq_false (Nat.not_lt.mpr h)
  rw [placeLine, full]
  exact ⟨rfl, rfl⟩

/-- A cache that held the lines of lock operations only has taken the line that one of them fetched. -/
structure LineLocked (before after : ICache) (l : BitVec 27) (data : LineData) (k : Nat) (d : ILine) : Prop where
  found : findIline 32 l after.lines = some (k, d)
  locked : before.lk[(lineSet l).toFin].toNat < 28 → d.locked = true
  full : 28 ≤ before.lk[(lineSet l).toFin].toNat → d.locked = false ∧ after.lk = before.lk
  ready : (after.lines.all fun e => e.2.byLock || !e.2.valid) = true
  bytes : d.data = data

theorem State.fillIcache_locks {s : State} {l : BitVec 27} (miss : findIline 32 l s.icache.lines = none)
    (ready : s.icacheReady = true) (data : LineData) :
    ∃ k d, LineLocked s.icache (s.fillIcache true false l data).icache l data k d := by
  have place := placeLine_way_lt true s.icache.rr[(lineSet l).toFin] s.icache.lk[(lineSet l).toFin]
  refine ⟨_, _, find?_sparsePut_new miss ?here, placeLine_lower _, fun h => ?full, ?ready, rfl⟩
  case here =>
    show (true && _ == _ && lineTag l == lineTag l) = true
    rw [slot_set _ place, beq_self_eq_true, beq_self_eq_true]
    rfl
  case full =>
    obtain ⟨unlocked, kept⟩ := placeLine_full s.icache.rr[(lineSet l).toFin] h
    refine ⟨unlocked, ?_⟩
    simp only [State.fillIcache, kept]
    exact Vector.set_getElem_self _
  case ready =>
    refine List.all_eq_true.mpr fun e he => ?_
    rcases mem_sparsePut he with rfl | old
    · rfl
    · exact List.all_eq_true.mp ready e old

/-- A translation that the TLB holds, and that allows a read. -/
theorem State.translateToLock_held {s : State} {v : Word} {e : TlbEntry} (held : s.itlb.lookup v = some e)
    (allowed : s.checkAccess e v s.privileged false = .ok none) : s.translateToLock .instr v = .ok e s := by
  have lookup : (s.tlb .instr).lookup v = some e := held
  simp only [State.translateToLock, State.translateChecked, State.translate, lookup, allowed]

/-- The requirements on a lock of an instruction cache line (R193; log entry 56). -/
structure State.MayLockLine (s : State) (v : Word) (e : TlbEntry) : Prop where
  masked : s.masked = true
  on : s.icacheOn = true
  placed : s.routinePlaced = true
  ready : s.icacheReady = true
  miss : findIline 32 (lineOf v) s.icache.lines = none
  held : s.itlb.lookup v = some e
  allowed : s.checkAccess e v s.privileged false = .ok none
  cacheable : e.c = true
  answers : s.Answers .fetch (lineOf (e.pa v) ++ 0#5) 32

/-- The bytes of a line of memory. -/
def State.memLine (s : State) (l : BitVec 27) : LineData := Vector.ofFn fun i : Fin 32 => s.memByte (l ++ BitVec.ofNat 5 i.val)

theorem State.MayLockLine.lockIcacheLine {s : State} {v : Word} {e : TlbEntry} (h : s.MayLockLine v e) :
    s.lockIcacheLine v = .ok () ((s.count .icacheMiss).fillIcache true false (lineOf v) (s.memLine (lineOf (e.pa v)))) := by
  have translated := State.translateToLock_held h.held h.allowed
  have read : s.busRead .fetch s.memByte (lineOf (e.pa v) ++ 0#5) 32 = _ :=
    State.busRead_memory (State.allMemory_of fun i hi => (h.answers i hi).1) (State.anyError_of fun i hi => (h.answers i hi).2)
  have line : (Vector.ofFn fun i : Fin 32 => s.memByte ((lineOf (e.pa v) ++ 0#5) + BitVec.ofNat 32 i.val)) =
      s.memLine (lineOf (e.pa v)) := by
    simp only [State.memLine, lineBase_add _ (Fin.isLt _)]
  simp only [State.lockIcacheLine, h.on, h.placed, h.masked, h.ready, h.miss, translated, read, h.cacheable, line,
    Bool.not_true, Option.isSome_none, Bool.or_self, Bool.false_eq_true, if_false]

/-- The line is in the cache, and the instruction is complete. -/
theorem State.MayLockLine.completes {s : State} {v : Word} {e : TlbEntry} (h : s.MayLockLine v e) (hn : s.hasNext) :
    ∃ t k d, finishFunction (s.lockIcacheLine v) = .next t ∧
      LineLocked s.icache t.icache (lineOf v) (s.memLine (lineOf (e.pa v))) k d ∧
      t.core = { s.core with pc := s.nextPc } ∧ SameMemory s t := by
  obtain ⟨u, hu⟩ : ∃ u, u = (s.count .icacheMiss).fillIcache true false (lineOf v) (s.memLine (lineOf (e.pa v))) := ⟨_, rfl⟩
  have ok : s.lockIcacheLine v = .ok () u := hu ▸ h.lockIcacheLine
  have core : u.core = s.core := by rw [hu]; rfl
  have mem : u.mem = s.mem := by rw [hu]; rfl
  obtain ⟨k, d, line⟩ := State.fillIcache_locks (s := s.count .icacheMiss) h.miss h.ready (s.memLine (lineOf (e.pa v)))
  rw [← hu] at line
  have done := State.advance_at hn (congrArg Core.pc core) (congrArg (fun k : Core => bitAt k.cpsr 5) core)
  refine ⟨_, k, d, (congrArg finishFunction ok).trans done, ?icache, ?core, fun pa => ?memory⟩
  case icache =>
    rw [State.traceInstr_icache, State.setPc_icache]
    exact line
  case core => rw [State.traceInstr_core, State.setPc, core]
  case memory => rw [State.memByte, State.traceInstr_mem, State.setPc_mem, mem, State.memByte]

/-! How the functions run. -/

section

variable {s : State} {c : Cond} {rd : Reg} (hc : s.passed c = true) (hp : s.mode ≠ .usr)

include hc hp in
theorem exec_readDCacheLock : exec (.readDCacheLock c rd) s =
    finishMrc rd (.ok (s.readMasked 1 (if s.cp15.dlock then 1 else 0))) := by
  simp only [exec, execReadDCacheLock, hc, State.privileged_of_ne hp, Bool.not_true, Bool.false_eq_true, if_false, if_true]

variable (hrd : rd ≠ 15)

include hc hp hrd

theorem exec_writeDCacheLock : exec (.writeDCacheLock c rd) s =
    if bitAt (s.reg rd) 0 && s.miniOutstanding then .refused .lockPrecondition
    else (s.setCp15 { s.cp15 with dlock := bitAt (s.reg rd) 0 }).advance :=
  exec_function (i := .writeDCacheLock c rd) hc hp hrd
    (f := fun v => if bitAt v 0 && s.miniOutstanding then .refused .lockPrecondition
      else (s.setCp15 { s.cp15 with dlock := bitAt v 0 }).advance) rfl

theorem exec_unlockICache : exec (.unlockICache c rd) s =
    if s.icacheOn then s.unlockIcache.advance else .refused .lockOnDisabledUnit :=
  exec_function (i := .unlockICache c rd) hc hp hrd
    (f := fun _ => if s.icacheOn then s.unlockIcache.advance else .refused .lockOnDisabledUnit) rfl

theorem exec_unlockDCache : exec (.unlockDCache c rd) s =
    if s.dcacheOn then s.unlockDcache.advance else .refused .lockOnDisabledUnit :=
  exec_function (i := .unlockDCache c rd) hc hp hrd
    (f := fun _ => if s.dcacheOn then s.unlockDcache.advance else .refused .lockOnDisabledUnit) rfl

theorem exec_unlockITlb (on : s.mmuOn = true) :
    exec (.unlockITlb c rd) s = ({ s with itlb := s.itlb.unlock } : State).advance := by
  rw [← s.setTlb_unlock_itlb]
  exact (exec_function (i := .unlockITlb c rd) hc hp hrd (f := fun _ => s.unlockTlb .instr) rfl).trans (if_pos on)

theorem exec_unlockDTlb (on : s.mmuOn = true) :
    exec (.unlockDTlb c rd) s = ({ s with dtlb := s.dtlb.unlock } : State).advance :=
  (exec_function (i := .unlockDTlb c rd) hc hp hrd (f := fun _ => s.unlockTlb .data) rfl).trans (if_pos on)

theorem exec_lockITlbEntry : exec (.lockITlbEntry c rd) s = finishFunction (s.lockTlbEntry .instr (s.reg rd)) :=
  exec_function (i := .lockITlbEntry c rd) hc hp hrd (f := fun v => finishFunction (s.lockTlbEntry .instr v)) rfl

theorem exec_lockDTlbEntry : exec (.lockDTlbEntry c rd) s = finishFunction (s.lockTlbEntry .data (s.reg rd)) :=
  exec_function (i := .lockDTlbEntry c rd) hc hp hrd (f := fun v => finishFunction (s.lockTlbEntry .data v)) rfl

theorem exec_lockICacheLine : exec (.lockICacheLine c rd) s = finishFunction (s.lockIcacheLine (s.reg rd)) :=
  exec_function (i := .lockICacheLine c rd) hc hp hrd (f := fun v => finishFunction (s.lockIcacheLine v)) rfl

end

/-- Settles O51, function by function. -/
theorem lockFunctions : Obligations.LockFunctions := by
  intro s c rd hc hp hrd hn v
  have privileged := State.privileged_of_ne hp
  refine ⟨?readLock, fun free => ?writeLock, fun set busy => ?refuseLock, fun on => ?unlockIcache, fun on => ?unlockDcache,
    ⟨rfl, fun i => ⟨?icachePointers, rfl⟩, ?icacheLocks, fun l => ?icacheLines⟩,
    ⟨rfl, fun i => ⟨?dcachePointers, rfl⟩, ?dcacheLocks, fun l => ?dcacheLines⟩,
    fun on => ⟨?unlockItlb, ?unlockDtlb⟩, fun off => ?refuseUnlock,
    fun e s1 on walked allowed => ⟨fun miss => ?lockItlb, fun miss => ?lockDtlb⟩,
    fun e maskedI maskedF on placed ready miss held allowed cacheable answers => ?lockLine⟩
  case readLock =>
    rw [exec_readDCacheLock hc hp]
    exact .finishMrc (n := 1) hn hrd (merge_and_mask ..)
  case writeLock =>
    have allowed : (bitAt v 0 && s.miniOutstanding) = false := by
      rcases free with h | h
      · rw [h, Bool.false_and]
      · rw [h, Bool.and_false]
    rw [exec_writeDCacheLock hc hp hrd, allowed]
    exact .ofCore hn rfl
  case refuseLock =>
    rw [exec_writeDCacheLock hc hp hrd, set, busy]
    rfl
  case unlockIcache =>
    rw [exec_unlockICache hc hp hrd, if_pos on]
    exact .ofCore hn rfl
  case unlockDcache =>
    rw [exec_unlockDCache hc hp hrd, if_pos on]
    exact .ofCore hn rfl
  case icachePointers | dcachePointers => exact Vector.getElem_replicate _
  case icacheLocks => exact forall_mem_map_filter (f := unlockIline) (P := fun e => e.2.locked = false) (fun _ => rfl) _
  case dcacheLocks => exact forall_mem_map_filter (f := unlockDline) (P := fun e => e.2.locked = false) (fun _ => rfl) _
  case icacheLines =>
    have found : findIline 32 l s.unlockIcache.icache.lines = _ := findIline_unlock 32 l s.icache.lines
    rw [found, Option.map_map]
    rfl
  case dcacheLines =>
    have found : findDline 32 l s.unlockDcache.dcache.lines = _ := findDline_unlock 32 l s.dcache.lines
    rw [found, Option.map_map]
    rfl
  case unlockItlb =>
    rw [exec_unlockITlb hc hp hrd on]
    exact .ofCore hn rfl
  case unlockDtlb =>
    rw [exec_unlockDTlb hc hp hrd on]
    exact .ofCore hn rfl
  case refuseUnlock => rw [exec_unlockICache hc hp hrd, off, if_neg Bool.false_ne_true]
  case lockItlb =>
    obtain ⟨t, done, locked⟩ :=
      State.lockTlbEntry_completes (side := .instr) hn on miss walked (by rw [privileged]; exact allowed)
    exact ⟨t, (exec_lockITlbEntry hc hp hrd).trans done, locked.tlb, locked.core, locked.memory, locked.cp15,
      locked.others .data (by decide)⟩
  case lockDtlb =>
    obtain ⟨t, done, locked⟩ :=
      State.lockTlbEntry_completes (side := .data) hn on miss walked (by rw [privileged]; exact allowed)
    exact ⟨t, (exec_lockDTlbEntry hc hp hrd).trans done, locked.tlb, locked.core, locked.memory, locked.cp15,
      locked.others .instr (by decide)⟩
  case lockLine =>
    have may : s.MayLockLine v e := ⟨by rw [State.masked, maskedI, maskedF]; rfl, on, placed, ready, miss, held,
      by rw [privileged]; exact allowed, cacheable, answers⟩
    obtain ⟨t, k, d, done, line, core, memory⟩ := may.completes hn
    refine ⟨t, k, d, (exec_lockICacheLine hc hp hrd).trans done, line.found, line.locked, line.full, line.ready, fun i => ?_,
      core, memory⟩
    rw [line.bytes]
    exact Vector.getElem_ofFn _

end Sys2Proof.Machine
end

section
/-! PROOF. The words that the spec prints are the codes of the instructions that it prints them for (30_encoding.md R280). -/

namespace Sys2Proof

/-- Settles O4: each word is the code of a well-formed instruction, and decoding gives that instruction back. -/
theorem printedWordsDecode : Obligations.PrintedWordsDecode := by
  have arm {w : Word} {i : Instr} (hwf : wellFormed i = true) (e : encode i = .arm w) : decode (.arm w) = i :=
    decodeOfEncodeArm i w hwf e
  have thumb {h : Half} {i : Instr} (hwf : wellFormed i = true) (e : encode i = .thumb h) : decode (.thumb h) = i :=
    decodeOfEncodeThumb i h hwf e
  exact ⟨arm rfl rfl, arm rfl rfl, arm rfl rfl, arm rfl rfl, arm rfl rfl, arm rfl rfl, arm rfl rfl, arm rfl rfl, arm rfl rfl,
    arm rfl rfl, arm rfl rfl, arm rfl rfl, thumb rfl rfl, thumb rfl rfl, thumb rfl rfl, thumb rfl rfl⟩

end Sys2Proof
end

section
/-! PROOF. The shifter operand and its carry-out, bit by bit (42_arm_data_processing.md R401-R403). -/

namespace Sys2Proof.Machine

/-! The shifts by any number of places. -/

theorem bitAt_top (w : Word) : bitAt w 31 = w.msb := (BitVec.msb_eq_getLsbD_last w).symm

/-- There is no bit past the top of a word. -/
theorem bitAt_past (w : Word) {i : Nat} (hi : 32 ≤ i) : bitAt w i = false := BitVec.getLsbD_of_ge w i hi

/-- A rotated word, read around the ring of its bits. -/
theorem bitAt_rotateRight (w : Word) (r : Nat) {i : Nat} (hi : i < 32) :
    bitAt (w.rotateRight r) i = bitAt w ((i + r) % 32) := by
  rw [bitAt, BitVec.getLsbD_rotateRight, Bool.cond_decide, decide_eq_true hi, Bool.true_and]
  split <;> congr 1 <;> omega

section
variable (m : Word) (n : Nat) (c : Bool)

theorem bitAt_shiftLsl {i : Nat} (hi : i < 32) : bitAt (shiftLsl m n c).1 i = (decide (n ≤ i) && bitAt m (i - n)) := by
  unfold shiftLsl
  split
  case isTrue h => simp [h]
  split
  case isTrue =>
    rw [bitAt, BitVec.getLsbD_shiftLeft, decide_eq_true hi, Bool.true_and, ← decide_not, decide_eq_decide.mpr Nat.not_lt]
  case isFalse h => simp [show ¬ n ≤ i by omega]

theorem shiftLsl_carry : (shiftLsl m n c).2 = if n = 0 then c else decide (n ≤ 32) && bitAt m (32 - n) := by
  unfold shiftLsl
  split
  · rfl
  · split
    case isTrue h => rw [decide_eq_true h, Bool.true_and]
    case isFalse h => rw [decide_eq_false h, Bool.false_and]

theorem bitAt_shiftLsr (i : Nat) : bitAt (shiftLsr m n c).1 i = bitAt m (i + n) := by
  unfold shiftLsr
  split
  case isTrue h => simp [h]
  case isFalse => simp [Nat.add_comm]

theorem shiftLsr_carry : (shiftLsr m n c).2 = if n = 0 then c else bitAt m (n - 1) := by
  unfold shiftLsr
  split <;> rfl

theorem bitAt_shiftAsr {i : Nat} (hi : i < 32) :
    bitAt (shiftAsr m n c).1 i = if i + n < 32 then bitAt m (i + n) else bitAt m 31 := by
  unfold shiftAsr
  split
  case isTrue h => simp [h, hi]
  split
  case isTrue =>
    rw [bitAt, BitVec.getLsbD_sshiftRight, decide_eq_false (Nat.not_le.mpr hi), Bool.not_false, Bool.true_and, Nat.add_comm,
      bitAt_top]
  case isFalse h =>
    have ones : ∀ i < 32, bitAt (0xFFFFFFFF : Word) i = true := by decide
    rw [if_neg (show ¬ i + n < 32 by omega), bitAt_top]
    cases m.msb
    · exact BitVec.getLsbD_zero
    · exact ones i hi

theorem shiftAsr_carry : (shiftAsr m n c).2 = if n = 0 then c else if n < 32 then bitAt m (n - 1) else bitAt m 31 := by
  unfold shiftAsr
  split
  · rfl
  · split
    · rfl
    · exact (bitAt_top m).symm

theorem bitAt_shiftRor {i : Nat} (hi : i < 32) : bitAt (shiftRor m n c).1 i = bitAt m ((i + n) % 32) := by
  unfold shiftRor
  split
  case isTrue h => rw [h, Nat.add_zero, Nat.mod_eq_of_lt hi]
  split
  case isTrue h => rw [show (i + n) % 32 = i by omega]
  case isFalse h => rw [bitAt_rotateRight _ _ hi, Nat.add_mod_mod]

theorem shiftRor_carry : (shiftRor m n c).2 = if n = 0 then c else bitAt m ((n + 31) % 32) := by
  unfold shiftRor
  split
  · rfl
  · split
    case isTrue h => rw [show (n + 31) % 32 = 31 by omega]; exact (bitAt_top m).symm
    case isFalse h => rw [show (n + 31) % 32 = n % 32 - 1 by omega]

/-- RRX: the carry comes in at the top. -/
theorem bitAt_shiftRrx {i : Nat} (hi : i < 32) : bitAt (shiftRrx m c).1 i = if i = 31 then c else bitAt m (i + 1) := by
  rw [shiftRrx, bitAt, BitVec.getLsbD_append]
  split
  case isTrue h => rw [if_neg (by omega), BitVec.getLsbD_extractLsb', decide_eq_true h, Bool.true_and, Nat.add_comm]
  case isFalse h =>
    obtain rfl : i = 31 := by omega
    simp

end

/-! The forms of the shifter operand. -/

theorem bitAt_rotatedImm (rot : BitVec 4) (imm : Byte) (c : Bool) {i : Nat} (hi : i < 32) :
    bitAt (rotatedImm rot imm c).1 i = bitAt (imm.zeroExtend 32) ((i + 2 * rot.toNat) % 32) := bitAt_rotateRight _ _ hi

theorem rotatedImm_carry (rot : BitVec 4) (imm : Byte) (c : Bool) :
    (rotatedImm rot imm c).2 = if rot = 0 then c else bitAt (rotatedImm rot imm c).1 31 := by
  rw [bitAt_top]; rfl

/-- A shift amount of an instruction that is not zero. -/
theorem toNat_amount {n : BitVec 5} (h : n ≠ 0) : n.toNat ≠ 0 := fun e => h (BitVec.eq_of_toNat_eq e)

/-! A shift by an amount that the instruction holds: the shift by that many places, but for the amount 0, which is 32 for LSR and
ASR and RRX for ROR (R402). -/

section
variable (m : Word) (n : BitVec 5) (c : Bool)

theorem immShift_lsl_carry : (immShift .lsl m n c).2 = if n = 0 then c else bitAt m (32 - n.toNat) := by
  have e : (immShift .lsl m n c).2 = _ := shiftLsl_carry m n.toNat c
  by_cases h : n = 0
  · rw [e, h]; rfl
  · rw [e, if_neg h, if_neg (toNat_amount h), decide_eq_true (by omega), Bool.true_and]

theorem bitAt_immShift_lsr (i : Nat) : bitAt (immShift .lsr m n c).1 i = (n != 0 && bitAt m (i + n.toNat)) := by
  have e : bitAt (immShift .lsr m n c).1 i = _ := bitAt_shiftLsr m (if n = 0 then 32 else n.toNat) c i
  by_cases h : n = 0
  · rw [e, if_pos h, bitAt_past m (Nat.le_add_left 32 i), h]; rfl
  · rw [e, if_neg h, bne_iff_ne.mpr h, Bool.true_and]

theorem immShift_lsr_carry : (immShift .lsr m n c).2 = if n = 0 then bitAt m 31 else bitAt m (n.toNat - 1) := by
  have e : (immShift .lsr m n c).2 = _ := shiftLsr_carry m (if n = 0 then 32 else n.toNat) c
  by_cases h : n = 0
  · rw [e, h]; rfl
  · rw [e, if_neg h, if_neg h, if_neg (toNat_amount h)]

theorem bitAt_immShift_asr {i : Nat} (hi : i < 32) : bitAt (immShift .asr m n c).1 i =
    if n ≠ 0 ∧ i + n.toNat < 32 then bitAt m (i + n.toNat) else bitAt m 31 := by
  have e : bitAt (immShift .asr m n c).1 i = _ := bitAt_shiftAsr m (if n = 0 then 32 else n.toNat) c hi
  by_cases h : n = 0
  · rw [e, if_pos h, if_neg (by omega), if_neg (fun both => both.1 h)]
  · simp only [e, h, if_false, ne_eq, not_false_eq_true, true_and]

theorem immShift_asr_carry : (immShift .asr m n c).2 = if n = 0 then bitAt m 31 else bitAt m (n.toNat - 1) := by
  have e : (immShift .asr m n c).2 = _ := shiftAsr_carry m (if n = 0 then 32 else n.toNat) c
  by_cases h : n = 0
  · rw [e, h]; rfl
  · rw [e, if_neg h, if_neg h, if_neg (toNat_amount h), if_pos n.isLt]

theorem bitAt_immShift_ror {i : Nat} (hi : i < 32) : bitAt (immShift .ror m n c).1 i =
    if n = 0 then (if i = 31 then c else bitAt m (i + 1)) else bitAt m ((i + n.toNat) % 32) := by
  rw [immShift]
  split
  · exact bitAt_shiftRrx m c hi
  · exact bitAt_shiftRor m n.toNat c hi

theorem immShift_ror_carry : (immShift .ror m n c).2 = if n = 0 then bitAt m 0 else bitAt m (n.toNat - 1) := by
  rw [immShift]
  split
  case isTrue => rfl
  case isFalse h =>
    have positive := toNat_amount h
    rw [shiftRor_carry, if_neg positive, show (n.toNat + 31) % 32 = n.toNat - 1 by omega]

end

/-- The amount of a shift by a register is its low byte (R403). -/
theorem field_byte_toNat (w : Word) : (field w 0 8).toNat = w.toNat % 256 :=
  (field_toNat w 0 8).trans (congrArg (· % 256) (Nat.div_one _))

/-- Settles O16, form by form. -/
theorem shifterOperandValues : Obligations.ShifterOperandValues := by
  intro s rm rs n rot imm
  dsimp only
  simp only [State.shifter, regShift, field_byte_toNat]
  exact ⟨fun i hi => bitAt_rotatedImm _ _ _ hi, rotatedImm_carry ..,
    fun i hi => bitAt_shiftLsl _ _ _ hi, immShift_lsl_carry ..,
    fun i _ => bitAt_immShift_lsr .., immShift_lsr_carry ..,
    fun i hi => bitAt_immShift_asr _ _ _ hi, immShift_asr_carry ..,
    fun i hi => bitAt_immShift_ror _ _ _ hi, immShift_ror_carry ..,
    fun i hi => bitAt_shiftLsl _ _ _ hi, shiftLsl_carry ..,
    fun i _ => bitAt_shiftLsr .., shiftLsr_carry ..,
    fun i hi => bitAt_shiftAsr _ _ _ hi, shiftAsr_carry ..,
    fun i hi => bitAt_shiftRor _ _ _ hi, shiftRor_carry ..⟩

end Sys2Proof.Machine
end

section
/-! PROOF. Data processing with a register as its destination, the compares and the tests: the result, the flags and nothing
else (42_arm_data_processing.md R403-R421). -/

namespace Sys2Proof.Machine

/-! The flags in the CPSR (10_state.md R36-R38). -/

/-- The bits of the CPSR below N, Z, C and V. -/
theorem bitAt_withNzcv_low (n z c v : Bool) (w : Word) {i : Nat} (hi : i < 28) : bitAt (withNzcv n z c v w) i = bitAt w i := by
  have hm : ∀ i < 28, bitAt (0xF0000000 : Word) i = false := by decide
  rw [withNzcv, bitAt_merge, hm i hi, if_neg Bool.false_ne_true]

/-- N, Z, C and V. -/
theorem bitAt_withNzcv_flags (n z c v : Bool) (w : Word) : bitAt (withNzcv n z c v w) 31 = n ∧
    bitAt (withNzcv n z c v w) 30 = z ∧ bitAt (withNzcv n z c v w) 29 = c ∧ bitAt (withNzcv n z c v w) 28 = v := by
  have spelled : ∀ n z c v : Bool,
      let f : Word := BitVec.ofBool n ++ BitVec.ofBool z ++ BitVec.ofBool c ++ BitVec.ofBool v ++ 0#28
      bitAt f 31 = n ∧ bitAt f 30 = z ∧ bitAt f 29 = c ∧ bitAt f 28 = v := by decide
  have taken (f : Word) {i : Nat} (hi : bitAt (0xF0000000 : Word) i = true) : bitAt (merge 0xF0000000 w f) i = bitAt f i := by
    rw [bitAt_merge, if_pos hi]
  obtain ⟨hn, hz, hc, hv⟩ := spelled n z c v
  unfold withNzcv
  exact ⟨(taken _ (by decide)).trans hn, (taken _ (by decide)).trans hz, (taken _ (by decide)).trans hc,
    (taken _ (by decide)).trans hv⟩

theorem State.setAluFlags_nzcv (s : State) (o : AluOut) : (s.setAluFlags o).nzcv = resultFlags o.value o.c o.v := by
  obtain ⟨hn, hz, hc, hv⟩ := bitAt_withNzcv_flags o.value.msb (o.value == 0) o.c o.v s.core.cpsr
  exact Nzcv.mk.injEq .. ▸ ⟨hn, hz, hc, hv⟩

theorem State.setAluFlags_flagQ (s : State) (o : AluOut) : (s.setAluFlags o).flagQ = s.flagQ :=
  bitAt_withNzcv_low _ _ _ _ _ (by decide)

/-! How an instruction ends that writes flags. -/

/-- Words that agree below the flags name the same mode (10_state.md R31). -/
theorem modeOf_congr {w v : Word} (h : field w 0 27 = field v 0 27) : modeOf w = modeOf v := by
  have low (x : Word) : field x 0 5 = field (field x 0 27) 0 5 := (field_field (i := 0) (k := 5) x (Nat.le_add_right 5 22)).symm
  rw [modeOf, modeOf, low w, low v, h]

section
variable {s : State} (hs : s.hasNext) {w : Word} (hw : field w 0 27 = field s.core.cpsr 0 27)
include hs hw

/-- Flags are written, and nothing else. -/
theorem Completes.setCpsr : Completes (s.setCpsr w).advance s [] (s.setCpsr w).nzcv (s.setCpsr w).flagQ s.core.acc0 :=
  .ofCore rfl hs rfl hw rfl (.nil rfl) rfl rfl rfl

/-- Flags and a register are written, and nothing else. -/
theorem Completes.setCpsr_setReg {n : Reg} (hn : n ≠ 15) (v : Word) :
    Completes ((s.setCpsr w).setReg n v).advance s [(n, v)] (s.setCpsr w).nzcv (s.setCpsr w).flagQ s.core.acc0 := by
  have same : (s.setCpsr w).mode = s.mode := modeOf_congr hw
  rw [State.setReg_of_ne v hn, same]
  exact .ofCore rfl hs rfl hw rfl (.one rfl) rfl rfl rfl

end

/-- A register is written, and nothing else. -/
theorem Completes.setReg {s : State} (hs : s.hasNext) {n : Reg} (hn : n ≠ 15) (v : Word) :
    Completes (s.setReg n v).advance s [(n, v)] s.nzcv s.flagQ s.core.acc0 :=
  .setCpsr_setReg (w := s.core.cpsr) hs rfl hn v

/-- A write of N, Z, C and V keeps the rest of the CPSR. -/
theorem field_withNzcv (n z c v : Bool) (w : Word) : field (withNzcv n z c v w) 0 27 = field w 0 27 :=
  field_congr fun _ hi => bitAt_withNzcv_low n z c v w (by omega)

/-- A compare or a test writes the four flags, and nothing else. -/
theorem Completes.setAluFlags {s : State} (hs : s.hasNext) (o : AluOut) :
    Completes (s.setAluFlags o).advance s [] (resultFlags o.value o.c o.v) s.flagQ s.core.acc0 := by
  have h := Completes.setCpsr hs (field_withNzcv o.value.msb (o.value == 0) o.c o.v s.core.cpsr)
  rwa [← State.setAluFlags, State.setAluFlags_nzcv, State.setAluFlags_flagQ] at h

/-- A result goes to its register, and with S its flags to the CPSR; nothing else is written (R405). -/
theorem Completes.dataResult {s : State} (hs : s.hasNext) (sf : Bool) {rd : Reg} (hd : rd ≠ 15) (o : AluOut) :
    Completes (s.dataResult sf rd o) s [(rd, o.value)] (if sf then resultFlags o.value o.c o.v else s.nzcv) s.flagQ
      s.core.acc0 := by
  rw [State.dataResult, if_neg hd]
  cases sf
  case false => exact .setReg hs hd o.value
  case true =>
    have h := Completes.setCpsr_setReg hs (field_withNzcv o.value.msb (o.value == 0) o.c o.v s.core.cpsr) hd o.value
    rwa [← State.setAluFlags, State.setAluFlags_nzcv, State.setAluFlags_flagQ] at h

/-! The operations that write a register (R406-R413, R418-R421). -/

theorem State.dataProc_namesPc {s : State} {c : Cond} {rn rd : Reg} {op2 : ShifterOp} (hc : s.passed c = true)
    (h : op2.namesPc rn rd = true) (sf : Bool) (alu : Word → Word → Bool → AluOut) :
    s.dataProc c sf rn rd op2 alu = .refused .unpredictableOperands := by
  rw [State.dataProc, if_pos hc, if_pos h]

/-- MOV and MVN ignore the Rn field (R419, R421). -/
theorem exec_mov_mvn (s : State) (c : Cond) (sf : Bool) (x rd : Reg) (op2 : ShifterOp) :
    exec (.mov c sf x rd op2) s = s.dataProc c sf 0 rd op2 (fun _ b k => logical s b k) ∧
    exec (.mvn c sf x rd op2) s = s.dataProc c sf 0 rd op2 (fun _ b k => logical s (~~~b) k) := by
  unfold exec
  exact ⟨rfl, rfl⟩

/-- A shift by a register that names R15 is refused; MOV and MVN have no first operand to name it (R403). -/
theorem exec_dataRows_namesPc {s : State} {c : Cond} (hc : s.passed c = true) (sf : Bool) (rn rd : Reg) (op2 : ShifterOp) :
    ∀ r ∈ dataRows s c sf rn rd op2,
      (op2.namesPc 0 rd = true → exec r.instr s = .refused .unpredictableOperands) ∧
      (op2.namesPc rn rd = true → r.instr ≠ .mov c sf rn rd op2 → r.instr ≠ .mvn c sf rn rd op2 →
        exec r.instr s = .refused .unpredictableOperands) := by
  have named (h : op2.namesPc 0 rd = true) : op2.namesPc rn rd = true := by
    rw [← Bool.not_eq_false] at h ⊢
    exact fun hn => h (ShifterOp.namesPc_mono hn 0 (by decide))
  have two {i : Instr} {p q : Prop} (alu : Word → Word → Bool → AluOut) (e : exec i s = s.dataProc c sf rn rd op2 alu) :
      (op2.namesPc 0 rd = true → exec i s = .refused .unpredictableOperands) ∧
      (op2.namesPc rn rd = true → p → q → exec i s = .refused .unpredictableOperands) :=
    ⟨fun h => e.trans (State.dataProc_namesPc hc (named h) sf alu), fun h _ _ => e.trans (State.dataProc_namesPc hc h sf alu)⟩
  simp only [dataRows, List.forall_mem_cons, List.not_mem_nil, false_implies, implies_true, and_true]
  refine ⟨?and, ?eor, ?orr, ?bic, ?mov, ?mvn, ?add, ?adc, ?sub, ?sbc, ?rsb, ?rsc⟩
  case mov => exact ⟨fun h => (exec_mov_mvn ..).1.trans (State.dataProc_namesPc hc h sf _), fun _ h _ => absurd rfl h⟩
  case mvn => exact ⟨fun h => (exec_mov_mvn ..).2.trans (State.dataProc_namesPc hc h sf _), fun _ _ h => absurd rfl h⟩
  all_goals exact two _ (by unfold exec; rfl)

/-- Settles O17: a row that is not refused ends in the shared result of data processing. -/
theorem dataProcessingResult : Obligations.DataProcessingResult := by
  refine ⟨fun s c sf rn rd op2 hc hd hpc hs r hr => ?completes, fun s c sf x rd op2 => ?ignored,
    fun s c sf rn rd op2 hc => exec_dataRows_namesPc hc sf rn rd op2⟩
  case completes =>
    rw [exec_dataRows hc hpc sf r hr]
    exact .dataResult hs sf hd r.out
  case ignored =>
    obtain ⟨mov, mvn⟩ := exec_mov_mvn s c sf x rd op2
    obtain ⟨mov0, mvn0⟩ := exec_mov_mvn s c sf 0 rd op2
    exact ⟨mov.trans mov0.symm, mvn.trans mvn0.symm⟩

/-! The compares and the tests (R414-R417). -/

/-- A compare or a test computes the result of its row. -/
theorem exec_testRows (s : State) (c : Cond) (rn rd : Reg) (op2 : ShifterOp) :
    ∀ r ∈ testRows s c rn rd op2, ∃ alu : Word → Word → Bool → AluOut, exec r.instr s = s.dataTest c rn rd op2 alu ∧
      alu (s.reg rn) (s.shifter op2).1 (s.shifter op2).2 = r.out := by
  simp only [testRows, List.forall_mem_cons, List.not_mem_nil, false_implies, implies_true, and_true]
  refine ⟨?tst, ?teq, ?cmp, ?cmn⟩
  case tst | teq => exact ⟨_, by unfold exec; rfl, rfl⟩
  case cmp => exact ⟨_, by unfold exec differenceRow; rfl, by rw [differenceRow_out]; rfl⟩
  case cmn => exact ⟨_, by unfold exec sumRow; rfl, by rw [sumRow_out]⟩

/-- Settles O18: each row is a data test, which writes the flags of its result. -/
theorem compareAndTestResult : Obligations.CompareAndTestResult := by
  intro s c rn rd op2 hc r hr
  obtain ⟨alu, he, ho⟩ := exec_testRows s c rn rd op2 r hr
  rw [he, State.dataTest, if_pos hc, ho]
  refine ⟨fun hd hpc hs => ?completes, fun h => ?refused⟩
  case completes =>
    rw [hpc, beq_false_of_ne hd, Bool.or_self, if_neg Bool.false_ne_true]
    exact .setAluFlags hs r.out
  case refused => rw [if_pos (by simpa [or_comm] using h)]

end Sys2Proof.Machine
end

section
/-! PROOF. CLZ and the saturating sums and differences (42_arm_data_processing.md R425-R430). -/

namespace Sys2Proof.Machine

/-! CLZ (R425). -/

/-- The count of leading zeros of the low `k` bits: the bits that it counts are 0, and the next is 1. -/
theorem leadingZeros_spec (w : Word) (k : Nat) : leadingZeros w k ≤ k ∧
    (∀ i < k, k - leadingZeros w k ≤ i → bitAt w i = false) ∧
    (leadingZeros w k < k → bitAt w (k - 1 - leadingZeros w k) = true) := by
  induction k with
  | zero => simp [leadingZeros]
  | succ k ih =>
    obtain ⟨le, zeros, one⟩ := ih
    rw [leadingZeros]
    cases hk : w.getLsbD k with
    | true =>
      rw [if_pos rfl]
      exact ⟨Nat.zero_le _, fun i hi hle => by omega, fun _ => hk⟩
    | false =>
      rw [if_neg Bool.false_ne_true]
      refine ⟨Nat.succ_le_succ le, fun i hi hle => ?_, fun hlt => ?_⟩
      · by_cases e : i = k
        · rw [e]; exact hk
        · exact zeros i (by omega) (by omega)
      · rw [show k + 1 - 1 - (leadingZeros w k + 1) = k - 1 - leadingZeros w k by omega]
        exact one (by omega)

/-! Saturation (R426). -/

theorem doesSat32_eq (x : Int) : doesSat32 x = decide (clamp32 x ≠ x) := by
  rw [doesSat32, ← Bool.decide_or, decide_eq_decide, clamp32]
  omega

theorem signedSat32_eq (x : Int) : signedSat32 x = BitVec.ofInt 32 (clamp32 x) := by
  unfold signedSat32
  split
  case isTrue h => rw [show clamp32 x = 2147483647 by rw [clamp32]; omega]; rfl
  split
  case isTrue h => rw [show clamp32 x = -2147483648 by rw [clamp32]; omega]; rfl
  case isFalse => rw [show clamp32 x = x by rw [clamp32]; omega]

/-- A saturated number is what its word means. -/
theorem toInt_signedSat32 (x : Int) : (signedSat32 x).toInt = clamp32 x := by
  have low : -2147483648 ≤ clamp32 x := le_max_left ..
  have high : clamp32 x ≤ 2147483647 := by rw [clamp32]; omega
  rw [signedSat32_eq]
  exact BitVec.toInt_ofInt_eq_self (by decide) (by simpa using low) (by simpa using Int.lt_of_le_of_lt high (by decide))

/-! The Q flag (10_state.md R38). -/

/-- Raising Q changes no other flag. -/
theorem State.nzcv_setQ (s : State) : (s.setCpsr (setBit 27 true s.core.cpsr)).nzcv = s.nzcv := by
  have other {i : Nat} (hi : i < 32) (hne : i ≠ 27) : bitAt (setBit 27 true s.core.cpsr) i = bitAt s.core.cpsr i := by
    rw [bitAt_setBit true _ (by decide) hi, if_neg hne]
  simp only [State.nzcv, State.flagN, State.flagZ, State.flagC, State.flagV, State.setCpsr]
  rw [other (i := 31), other (i := 30), other (i := 29), other (i := 28)] <;> decide

/-- A register is written, Q is raised where `b`, and nothing else changes. -/
theorem Completes.raiseQ_setReg {s : State} (hs : s.hasNext) (b : Bool) {n : Reg} (hn : n ≠ 15) (v : Word) :
    Completes ((s.raiseQ b).setReg n v).advance s [(n, v)] s.nzcv (s.flagQ || b) s.core.acc0 := by
  cases b
  case false => rw [Bool.or_false]; exact .setReg hs hn v
  case true =>
    have below : field (setBit 27 true s.core.cpsr) 0 27 = field s.core.cpsr 0 27 :=
      field_congr fun i hi => by rw [bitAt_setBit true _ (by decide) (by omega), if_neg (by omega)]
    have raised : (s.setCpsr (setBit 27 true s.core.cpsr)).flagQ = true := bitAt_setBit true _ (by decide) (by decide)
    have h := Completes.setCpsr_setReg hs below hn v
    rw [State.nzcv_setQ, raised] at h
    rwa [Bool.or_true]

/-- A saturating sum ends with the number brought into range, and Q raised where that or the doubling changed it. -/
theorem Completes.saturate {s : State} (hs : s.hasNext) {rd : Reg} (hd : rd ≠ 15) (doubled : Bool) (x : Int) :
    Completes (s.saturate rd doubled x) s [(rd, BitVec.ofInt 32 (clamp32 x))] s.nzcv
      (s.flagQ || doubled || decide (clamp32 x ≠ x)) s.core.acc0 := by
  rw [State.saturate, signedSat32_eq, doesSat32_eq, Bool.or_assoc]
  exact .raiseQ_setReg hs _ hd _

/-- R15 is among three registers. -/
theorem anyPc_triple (a b c : Reg) : anyPc [a, b, c] = true ↔ a = 15 ∨ b = 15 ∨ c = 15 := by
  simp only [anyPc, List.contains_eq_mem, decide_eq_true_eq, List.mem_cons, List.not_mem_nil, or_false, eq_comm (a := (15 : Reg))]

/-- The end of a saturating instruction whose condition passes: R15 is refused (R426). -/
def State.saturateUnlessPc (s : State) (rn rd rm : Reg) (doubled : Bool) (x : Int) : Result :=
  if anyPc [rn, rd, rm] then .refused .unpredictableOperands else s.saturate rd doubled x

theorem State.saturateUnlessPc_refused {s : State} {rn rd rm : Reg} (h : rn = 15 ∨ rd = 15 ∨ rm = 15) (doubled : Bool)
    (x : Int) : s.saturateUnlessPc rn rd rm doubled x = .refused .unpredictableOperands :=
  if_pos ((anyPc_triple rn rd rm).mpr h)

theorem State.saturateUnlessPc_completes {s : State} (hs : s.hasNext) {rn rd rm : Reg} (hn : rn ≠ 15) (hd : rd ≠ 15)
    (hm : rm ≠ 15) (doubled : Bool) (x : Int) :
    Completes (s.saturateUnlessPc rn rd rm doubled x) s [(rd, BitVec.ofInt 32 (clamp32 x))] s.nzcv
      (s.flagQ || doubled || decide (clamp32 x ≠ x)) s.core.acc0 := by
  have allowed : ¬ anyPc [rn, rd, rm] = true := fun h => ((anyPc_triple rn rd rm).mp h).elim hn (·.elim hd hm)
  rw [State.saturateUnlessPc, if_neg allowed]
  exact .saturate hs hd doubled x

/-- What QADD, QSUB, QDADD and QDSUB compute (R427-R430). -/
theorem exec_saturating {s : State} {c : Cond} (hc : s.passed c = true) (rn rd rm : Reg) :
    let m := (s.reg rm).toInt
    let n := (s.reg rn).toInt
    let d := clamp32 (2 * n)
    exec (.qadd c rn rd rm) s = s.saturateUnlessPc rn rd rm false (m + n) ∧
    exec (.qsub c rn rd rm) s = s.saturateUnlessPc rn rd rm false (m - n) ∧
    exec (.qdadd c rn rd rm) s = s.saturateUnlessPc rn rd rm (decide (d ≠ 2 * n)) (m + d) ∧
    exec (.qdsub c rn rd rm) s = s.saturateUnlessPc rn rd rm (decide (d ≠ 2 * n)) (m - d) := by
  intro m n d
  have double : doesSat32 (2 * n) = decide (d ≠ 2 * n) ∧ (signedSat32 (2 * n)).toInt = d :=
    ⟨doesSat32_eq _, toInt_signedSat32 _⟩
  rw [← double.1, ← double.2]
  unfold exec
  exact ⟨if_pos hc, if_pos hc, if_pos hc, if_pos hc⟩

theorem exec_clz {s : State} {c : Cond} (hc : s.passed c = true) (rd rm : Reg) :
    exec (.clz c rd rm) s = if rd == 15 || rm == 15 then .refused .unpredictableOperands
      else (s.setReg rd (BitVec.ofNat 32 (leadingZeros (s.reg rm) 32))).advance := by
  show execClz c rd rm s = _
  rw [execClz, if_pos hc]

/-- Settles O20: the count of leading zeros, and the shared end of the four saturating instructions. -/
theorem clzAndSaturation : Obligations.ClzAndSaturation := by
  intro s c rn rd rm hc
  obtain ⟨qadd, qsub, qdadd, qdsub⟩ := exec_saturating hc rn rd rm
  refine ⟨fun hd hm hs => ?clz, fun h => ?clzRefused, fun hn hd hm hs => ?saturates, fun h => ?refused⟩
  case clz =>
    obtain ⟨le, zeros, one⟩ := leadingZeros_spec (s.reg rm) 32
    refine ⟨leadingZeros (s.reg rm) 32, le, fun i hi => ?_, one, ?_⟩
    · by_cases h : i < 32
      · exact zeros i h hi
      · exact bitAt_past _ (Nat.le_of_not_lt h)
    · rw [exec_clz hc, beq_false_of_ne hd, beq_false_of_ne hm, Bool.or_self, if_neg Bool.false_ne_true]
      exact .setReg hs hd _
  case clzRefused => rw [exec_clz hc, if_pos (by simpa using h)]
  case saturates =>
    dsimp only
    rw [qadd, qsub, qdadd, qdsub]
    have ends := State.saturateUnlessPc_completes hs hn hd hm
    exact ⟨ends .., ends .., ends .., ends ..⟩
  case refused =>
    have refused := State.saturateUnlessPc_refused (s := s) h
    exact ⟨qadd.trans (refused ..), qsub.trans (refused ..), qdadd.trans (refused ..), qdsub.trans (refused ..)⟩

end Sys2Proof.Machine
end

section
/-! PROOF. The multiplies: MUL and MLA, the long multiplies and the half-register multiplies (43_arm_multiply.md R450-R465). -/

namespace Sys2Proof.Machine

/-! The registers that a multiply forbids (R450, R460; 93 U2 (a), (e)). -/

/-- R15 is among four registers. -/
theorem anyPc_quadruple (a b c d : Reg) : anyPc [a, b, c, d] = true ↔ a = 15 ∨ b = 15 ∨ c = 15 ∨ d = 15 := by
  simp only [anyPc, List.contains_eq_mem, decide_eq_true_eq, List.mem_cons, List.not_mem_nil, or_false, eq_comm (a := (15 : Reg))]

theorem longForbidden_iff (hi lo rs rm : Reg) : longForbidden hi lo rs rm = true ↔
    hi = 15 ∨ lo = 15 ∨ rs = 15 ∨ rm = 15 ∨ hi = lo ∨ hi = rm ∨ lo = rm := by
  simp only [longForbidden, Bool.or_eq_true, anyPc_quadruple, beq_iff_eq, or_assoc]

/-! N and Z (R450; 92 D14). -/

/-- Writing N and Z is writing all four flags with the C and V that stand there. -/
theorem withNz_eq (n z : Bool) (w : Word) : withNz n z w = withNzcv n z (bitAt w 29) (bitAt w 28) w := by
  obtain ⟨flagN, flagZ, flagC, flagV⟩ := bitAt_withNzcv_flags n z (bitAt w 29) (bitAt w 28) w
  have spelled : ∀ n z : Bool, let f : Word := BitVec.ofBool n ++ BitVec.ofBool z ++ 0#30
      bitAt f 31 = n ∧ bitAt f 30 = z := by decide
  have outside : ∀ i < 30, bitAt (0xC0000000 : Word) i = false := by decide
  obtain ⟨hn, hz⟩ := spelled n z
  apply BitVec.eq_of_getLsbD_eq
  intro i hi
  show bitAt (withNz n z w) i = bitAt (withNzcv n z (bitAt w 29) (bitAt w 28) w) i
  have kept (h : i < 30) : bitAt (withNz n z w) i = bitAt w i := by
    rw [withNz, bitAt_merge, outside i h, if_neg Bool.false_ne_true]
  have cases : i = 31 ∨ i = 30 ∨ i = 29 ∨ i = 28 ∨ i < 28 := by omega
  rcases cases with rfl | rfl | rfl | rfl | low
  · rw [flagN, withNz, bitAt_merge, if_pos (by decide), hn]
  · rw [flagZ, withNz, bitAt_merge, if_pos (by decide), hz]
  · rw [flagC, kept (by decide)]
  · rw [flagV, kept (by decide)]
  · rw [kept (by omega), bitAt_withNzcv_low _ _ _ _ _ low]

theorem State.setNz_nzcv (s : State) (n z : Bool) : (s.setNz n z).nzcv = { n := n, z := z, c := s.flagC, v := s.flagV } := by
  obtain ⟨hn, hz, hc, hv⟩ := bitAt_withNzcv_flags n z s.flagC s.flagV s.core.cpsr
  rw [State.setNz, withNz_eq]
  exact Nzcv.mk.injEq .. ▸ ⟨hn, hz, hc, hv⟩

theorem State.setNz_flagQ (s : State) (n z : Bool) : (s.setNz n z).flagQ = s.flagQ := by
  rw [State.setNz, withNz_eq]
  exact bitAt_withNzcv_low _ _ _ _ _ (by decide)

theorem field_withNz (n z : Bool) (w : Word) : field (withNz n z w) 0 27 = field w 0 27 := by
  rw [withNz_eq, field_withNzcv]

/-! MUL and MLA (R451, R452). -/

section
variable {s : State} {c : Cond} (hc : s.passed c = true)
include hc

theorem exec_mul (sf : Bool) (rd rs rm : Reg) (sbz : BitVec 4) : exec (.mul c sf rd sbz rs rm) s =
    if rd = 15 ∨ rs = 15 ∨ rm = 15 ∨ rd = rm then .refused .unpredictableOperands
    else s.mulResult sf rd (s.reg rm * s.reg rs) := by
  show execMul c sf rd sbz rs rm s = _
  rw [execMul, if_pos hc]
  simp only [Bool.or_eq_true, anyPc_triple, beq_iff_eq, or_assoc]

theorem exec_mla (sf : Bool) (rd rn rs rm : Reg) : exec (.mla c sf rd rn rs rm) s =
    if rd = 15 ∨ rn = 15 ∨ rs = 15 ∨ rm = 15 ∨ rd = rm then .refused .unpredictableOperands
    else s.mulResult sf rd (s.reg rm * s.reg rs + s.reg rn) := by
  show execMla c sf rd rn rs rm s = _
  rw [execMla, if_pos hc]
  simp only [Bool.or_eq_true, anyPc_quadruple, beq_iff_eq, or_assoc]

end

/-- The result goes to Rd, and with S its N and Z to the CPSR; nothing else is written. -/
theorem Completes.mulResult {s : State} (hs : s.hasNext) (sf : Bool) {rd : Reg} (hd : rd ≠ 15) (v : Word) :
    Completes (s.mulResult sf rd v) s [(rd, v)] (if sf then resultFlags v s.flagC s.flagV else s.nzcv) s.flagQ
      s.core.acc0 := by
  cases sf
  case false => exact .setReg hs hd v
  case true =>
    have h := Completes.setCpsr_setReg hs (field_withNz v.msb (v == 0) s.core.cpsr) hd v
    rwa [← State.setNz, State.setNz_nzcv, State.setNz_flagQ] at h

/-- Settles O21: with allowed operands both end in the shared result of MUL and MLA. -/
theorem multiplyResult : Obligations.MultiplyResult := by
  intro s c sf rd rn rs rm sbz hc hd hrs hrm hne hs p a
  refine ⟨?mul, fun hn => ?mla⟩
  case mul =>
    rw [exec_mul hc, if_neg (by simp only [hd, hrs, hrm, hne, or_self, not_false_eq_true])]
    exact .mulResult hs sf hd p
  case mla =>
    rw [exec_mla hc, if_neg (by simp only [hd, hn, hrs, hrm, hne, or_self, not_false_eq_true])]
    exact .mulResult hs sf hd a

/-! The long multiplies (R453-R456). -/

/-- Flags and two registers are written, and nothing else. -/
theorem Completes.setCpsr_setReg_setReg {s : State} (hs : s.hasNext) {w : Word}
    (hw : field w 0 27 = field s.core.cpsr 0 27) {n n' : Reg} (v v' : Word) (hn : n ≠ 15) (hn' : n' ≠ 15) (hne : n ≠ n') :
    Completes (((s.setCpsr w).setReg n v).setReg n' v').advance s [(n, v), (n', v')] (s.setCpsr w).nzcv
      (s.setCpsr w).flagQ s.core.acc0 := by
  have written := WritesBank.setReg_setReg (s.setCpsr w) v v' hn hn' hne
  have same : (s.setCpsr w).mode = s.mode := modeOf_congr hw
  rw [State.setReg_of_ne v hn, State.setReg_of_ne v' hn', same] at written ⊢
  exact .ofCore rfl hs rfl hw rfl ⟨written.written, written.others⟩ rfl rfl rfl

/-- The 64 bits go to RdHi and RdLo, and with S their N and Z to the CPSR; nothing else is written. -/
theorem Completes.longResult {s : State} (hs : s.hasNext) (sf : Bool) {hi lo : Reg} (hhi : hi ≠ 15) (hlo : lo ≠ 15)
    (hne : hi ≠ lo) (p : BitVec 64) :
    Completes (s.longResult sf hi lo p) s [(lo, p.truncate 32), (hi, (p >>> 32).truncate 32)]
      (if sf then { n := p.msb, z := p == 0, c := s.flagC, v := s.flagV } else s.nzcv) s.flagQ s.core.acc0 := by
  rw [BitVec.truncate_eq_setWidth, BitVec.truncate_eq_setWidth, BitVec.setWidth_eq_extractLsb' (by decide),
    BitVec.setWidth_ushiftRight_eq_extractLsb]
  cases sf
  case false => exact .setReg_setReg hs _ _ hlo hhi hne.symm
  case true =>
    have h := Completes.setCpsr_setReg_setReg hs (field_withNz p.msb (p == 0) s.core.cpsr) (field p 0 32) (field p 32 32) hlo
      hhi hne.symm
    rwa [← State.setNz, State.setNz_nzcv, State.setNz_flagQ] at h

/-- The exact product is the product of the words extended to 64 bits. -/
theorem ofInt_product (signed : Bool) (a b : Word) : BitVec.ofInt 64 (product signed a b) =
    if signed then a.signExtend 64 * b.signExtend 64 else a.zeroExtend 64 * b.zeroExtend 64 := by
  cases signed
  case true => exact ofInt_mul_toInt 64 a b
  case false =>
    show BitVec.ofInt 64 ((a.toNat : Int) * b.toNat) = a.setWidth 64 * b.setWidth 64
    rw [BitVec.ofInt_mul, BitVec.ofInt_natCast, BitVec.ofInt_natCast, BitVec.ofNat_toNat, BitVec.ofNat_toNat]

section
variable {s : State} {c : Cond} (hc : s.passed c = true) {hi lo rs rm : Reg}
include hc

theorem State.longMultiply_refused (h : hi = 15 ∨ lo = 15 ∨ rs = 15 ∨ rm = 15 ∨ hi = lo ∨ hi = rm ∨ lo = rm)
    (sf signed acc : Bool) : s.longMultiply c sf signed acc hi lo rs rm = .refused .unpredictableOperands := by
  rw [State.longMultiply, if_pos hc, if_pos ((longForbidden_iff ..).mpr h)]

theorem State.longMultiply_allowed (h : ¬ longForbidden hi lo rs rm = true) (sf signed acc : Bool) :
    let p : BitVec 64 := if signed then (s.reg rm).signExtend 64 * (s.reg rs).signExtend 64
      else (s.reg rm).zeroExtend 64 * (s.reg rs).zeroExtend 64
    s.longMultiply c sf signed acc hi lo rs rm = s.longResult sf hi lo (if acc then p + (s.reg hi ++ s.reg lo) else p) := by
  rw [State.longMultiply, if_pos hc, if_neg h, ofInt_product]

end

/-- Settles O22: the four differ in the product and in whether RdHi:RdLo is added. -/
theorem longMultiplyResult : Obligations.LongMultiplyResult := by
  intro s c sf hi lo rs rm hc hhi hlo hrs hrm hne hhm hlm hs old unsigned signed ends
  have allowed : ¬ longForbidden hi lo rs rm = true := by
    simp only [longForbidden_iff, hhi, hlo, hrs, hrm, hne, hhm, hlm, or_self, not_false_eq_true]
  have long {i : Instr} {p : BitVec 64} (sg acc : Bool) (e : exec i s = s.longMultiply c sf sg acc hi lo rs rm)
      (hp : (if acc then (if sg then signed else unsigned) + old else if sg then signed else unsigned) = p) : ends i p := by
    show Completes (exec i s) s _ _ _ _
    rw [e, State.longMultiply_allowed hc allowed, ← hp]
    exact .longResult hs sf hhi hlo hne _
  exact ⟨long false false rfl rfl, long false true rfl rfl, long true false rfl rfl, long true true rfl rfl⟩

/-! The products of halves (R460-R465). -/

/-- The sum of words overflows where it is out of the range of a signed word. -/
theorem doesSat32_eq_ofInt (x : Int) : doesSat32 x = decide ((BitVec.ofInt 32 x).toInt ≠ x) := by
  rw [doesSat32, ← Bool.decide_or, decide_eq_decide]
  have low := BitVec.le_toInt (BitVec.ofInt 32 x)
  have high := BitVec.toInt_lt (x := BitVec.ofInt 32 x)
  have inRange (hl : -2147483648 ≤ x) (hh : x < 2147483648) : (BitVec.ofInt 32 x).toInt = x :=
    BitVec.toInt_ofInt_eq_self (by decide) hl hh
  omega

/-- A product of halves fits a signed word. -/
theorem toInt_ofInt_halfOf_mul (v w : Word) (x y : HalfSel) :
    (BitVec.ofInt 32 (halfOf v x * halfOf w y)).toInt = halfOf v x * halfOf w y := by
  rw [halfOf_eq_toInt, halfOf_eq_toInt]
  have low := BitVec.le_toInt_mul_toInt (x := halfBits v x) (y := halfBits w y)
  have high := BitVec.toInt_mul_toInt_le (x := halfBits v x) (y := halfBits w y)
  exact BitVec.toInt_ofInt_eq_self (by decide) (by omega) (by omega)

/-- The upper 32 bits of a product of a word and a half fit a signed word. -/
theorem toInt_ofInt_wideProduct (v w : Word) (y : HalfSel) :
    (BitVec.ofInt 32 (wideProduct v (halfOf w y))).toInt = wideProduct v (halfOf w y) := by
  rw [halfOf_eq_toInt, wideProduct]
  have word : |v.toInt| ≤ 2 ^ 31 := abs_le.mpr ⟨v.le_toInt, v.toInt_lt.le⟩
  have half : |(halfBits w y).toInt| ≤ 2 ^ 15 := abs_le.mpr ⟨(halfBits w y).le_toInt, (halfBits w y).toInt_lt.le⟩
  have bound : |v.toInt * (halfBits w y).toInt| ≤ 2 ^ 31 * 2 ^ 15 := by
    rw [abs_mul]
    exact mul_le_mul word half (abs_nonneg _) (by decide)
  obtain ⟨low, high⟩ := abs_le.mp bound
  exact BitVec.toInt_ofInt_eq_self (by decide) (by omega) (by omega)

/-- Dividing by 2^16 drops the low 16 bits. -/
theorem ofInt_div_eq_extract (x : Int) : BitVec.ofInt 32 (x / 65536) = (BitVec.ofInt 48 x).extractLsb' 16 32 := by
  apply BitVec.eq_of_toNat_eq
  rw [BitVec.extractLsb'_toNat, BitVec.toNat_ofInt, BitVec.toNat_ofInt, Nat.shiftRight_eq_div_pow]
  omega

theorem ofInt_wideProduct (v w : Word) (y : HalfSel) : BitVec.ofInt 32 (wideProduct v (halfOf w y)) =
    (v.signExtend 48 * (halfBits w y).signExtend 48).extractLsb' 16 32 := by
  rw [wideProduct, ofInt_div_eq_extract, halfOf_eq_toInt]
  exact congrArg _ (BitVec.ofInt_mul ..)

/-- The product with Rn added goes to Rd, and Q is raised where the sum overflows; nothing else is written. -/
theorem Completes.accumulateQ {s : State} (hs : s.hasNext) {rd rn : Reg} (hd : rd ≠ 15) (v : Word) :
    Completes (s.accumulateQ rd rn v.toInt) s [(rd, v + s.reg rn)] s.nzcv
      (s.flagQ || decide ((v + s.reg rn).toInt ≠ v.toInt + (s.reg rn).toInt)) s.core.acc0 := by
  have sum : BitVec.ofInt 32 (v.toInt + (s.reg rn).toInt) = v + s.reg rn := by
    rw [BitVec.ofInt_add, BitVec.ofInt_toInt, BitVec.ofInt_toInt]
  rw [State.accumulateQ, doesSat32_eq_ofInt, sum]
  exact .raiseQ_setReg hs _ hd _

section
variable {s : State} {c : Cond} (hc : s.passed c = true)
include hc

theorem exec_smulxy (rd rs rm : Reg) (x y : HalfSel) (sbz : BitVec 4) : exec (.smulxy c rd sbz rs y x rm) s =
    if rd = 15 ∨ rs = 15 ∨ rm = 15 then .refused .unpredictableOperands
    else (s.setReg rd ((halfBits (s.reg rm) x).signExtend 32 * (halfBits (s.reg rs) y).signExtend 32)).advance := by
  show execSmulxy c rd sbz rs y x rm s = _
  rw [execSmulxy, if_pos hc, ofInt_halfOf_mul]
  simp only [anyPc_triple]

theorem exec_smulwy (rd rs rm : Reg) (y : HalfSel) (sbz : BitVec 4) : exec (.smulwy c rd sbz rs y rm) s =
    if rd = 15 ∨ rs = 15 ∨ rm = 15 then .refused .unpredictableOperands
    else (s.setReg rd (((s.reg rm).signExtend 48 * (halfBits (s.reg rs) y).signExtend 48).extractLsb' 16 32)).advance := by
  show execSmulwy c rd sbz rs y rm s = _
  rw [execSmulwy, if_pos hc, ofInt_wideProduct]
  simp only [anyPc_triple]

theorem exec_smlaxy (rd rn rs rm : Reg) (x y : HalfSel) : exec (.smlaxy c rd rn rs y x rm) s =
    if rd = 15 ∨ rn = 15 ∨ rs = 15 ∨ rm = 15 then .refused .unpredictableOperands
    else s.accumulateQ rd rn ((halfBits (s.reg rm) x).signExtend 32 * (halfBits (s.reg rs) y).signExtend 32).toInt := by
  show execSmlaxy c rd rn rs y x rm s = _
  rw [execSmlaxy, if_pos hc, ← ofInt_halfOf_mul, toInt_ofInt_halfOf_mul]
  simp only [anyPc_quadruple]

theorem exec_smlawy (rd rn rs rm : Reg) (y : HalfSel) : exec (.smlawy c rd rn rs y rm) s =
    if rd = 15 ∨ rn = 15 ∨ rs = 15 ∨ rm = 15 then .refused .unpredictableOperands
    else s.accumulateQ rd rn
      (((s.reg rm).signExtend 48 * (halfBits (s.reg rs) y).signExtend 48).extractLsb' 16 32).toInt := by
  show execSmlawy c rd rn rs y rm s = _
  rw [execSmlawy, if_pos hc, ← ofInt_wideProduct, toInt_ofInt_wideProduct]
  simp only [anyPc_quadruple]

theorem exec_smlalxy (hi lo rs rm : Reg) (x y : HalfSel) : exec (.smlalxy c hi lo rs y x rm) s =
    if hi = 15 ∨ lo = 15 ∨ rs = 15 ∨ rm = 15 ∨ hi = lo then .refused .unpredictableOperands
    else s.longResult false hi lo ((s.reg hi ++ s.reg lo : BitVec 64) +
      ((halfBits (s.reg rm) x).signExtend 32 * (halfBits (s.reg rs) y).signExtend 32).signExtend 64) := by
  show execSmlalxy c hi lo rs y x rm s = _
  rw [execSmlalxy, if_pos hc, ← ofInt_halfOf_mul, BitVec.signExtend, toInt_ofInt_halfOf_mul]
  simp only [Bool.or_eq_true, anyPc_quadruple, beq_iff_eq, or_assoc]

end

/-- Settles O23: the exact products are those of the extended halves, and only the accumulations can raise Q. -/
theorem halfMultiplyResult : Obligations.HalfMultiplyResult := by
  intro s c rd rn rs rm x y sbz hc hd hrs hrm hs p wide w sum q
  have three : ¬ (rd = 15 ∨ rs = 15 ∨ rm = 15) := by simp only [hd, hrs, hrm, or_self, not_false_eq_true]
  have four (hn : rn ≠ 15) : ¬ (rd = 15 ∨ rn = 15 ∨ rs = 15 ∨ rm = 15) := by
    simp only [hd, hn, hrs, hrm, or_self, not_false_eq_true]
  refine ⟨?smulxy, ?smulwy, fun hn => ⟨?smlaxy, ?smlawy⟩, fun hn hne => ?smlalxy⟩
  case smulxy => rw [exec_smulxy hc, if_neg three]; exact .setReg hs hd p
  case smulwy => rw [exec_smulwy hc, if_neg three]; exact .setReg hs hd w
  case smlaxy => rw [exec_smlaxy hc, if_neg (four hn)]; exact .accumulateQ hs hd p
  case smlawy => rw [exec_smlawy hc, if_neg (four hn)]; exact .accumulateQ hs hd w
  case smlalxy =>
    rw [exec_smlalxy hc, if_neg (by simp only [hd, hn, hrs, hrm, hne, or_self, not_false_eq_true])]
    exact .longResult hs false hd hn hne sum

end Sys2Proof.Machine
end

section
/-! PROOF. Forbidden operands of the accumulator instructions and of the loads and stores of one register are refused
(40_cp0_dsp.md R341, 44_arm_load_store.md R490-R492, R507; 93 U2, U8, U42; log entry 61). -/

namespace Sys2Proof.Machine

/-! The accumulator (40_cp0_dsp.md R341, R349, R350). -/

/-- R15 is among two registers. -/
theorem anyPc_pair_iff (a b : Reg) : anyPc [a, b] = true ↔ a = 15 ∨ b = 15 := by
  simp only [anyPc, List.contains_eq_mem, decide_eq_true_eq, List.mem_cons, List.not_mem_nil, or_false, eq_comm (a := (15 : Reg))]

section
variable {s : State} {c : Cond} (hc : s.passed c = true) (h0 : s.cp0Allowed = true) {hi lo : Reg}
include hc h0

theorem State.accumulate_pc (h : hi = 15 ∨ lo = 15) (p : Word → Word → Int) :
    s.accumulate c hi lo p = .refused .unpredictableOperands := by
  rw [State.accumulate, if_pos hc, if_pos h0, if_pos ((anyPc_pair_iff hi lo).mpr h)]

theorem exec_accumulateRows_pc (h : hi = 15 ∨ lo = 15) :
    ∀ r ∈ accumulateRows s c hi lo, exec r.1 s = .refused .unpredictableOperands := by
  have row {i : Instr} (p : Word → Word → Int) (e : exec i s = s.accumulate c hi lo p) :
      exec i s = .refused .unpredictableOperands := e.trans (State.accumulate_pc hc h0 h p)
  simp only [accumulateRows, List.forall_mem_cons, List.not_mem_nil, false_implies, implies_true, and_true]
  and_intros
  all_goals exact row _ (by unfold exec; rfl)

theorem exec_mar_pc (h : hi = 15 ∨ lo = 15) : exec (.mar c hi lo) s = .refused .unpredictableOperands := by
  show execMar c hi lo s = _
  rw [execMar, if_pos hc, if_pos h0, if_pos ((anyPc_pair_iff hi lo).mpr h)]

theorem exec_mra_refused (h : (hi = 15 ∨ lo = 15) ∨ hi = lo) : exec (.mra c hi lo) s = .refused .unpredictableOperands := by
  show execMra c hi lo s = _
  rw [execMra, if_pos hc, if_pos h0, if_pos (by simpa only [Bool.or_eq_true, anyPc_pair_iff, beq_iff_eq] using h)]

end

/-! Write-back to R15 or to the loaded register (44_arm_load_store.md R491). -/

theorem Indexing.writesBack_iff (ix : Indexing) : ix.writesBack = true ↔ ix ≠ .offset := by
  cases ix <;> decide

theorem badBase_iff (ix : Indexing) (rn rd : Reg) : badBase ix rn rd = true ↔ ix ≠ .offset ∧ (rn = 15 ∨ rn = rd) := by
  simp only [badBase, Bool.and_eq_true, Bool.or_eq_true, beq_iff_eq, Indexing.writesBack_iff]

theorem State.address3_va (s : State) (ix : Indexing) (u : Bool) (rn : Reg) (off : Offset3) :
    (s.address3 ix u rn off).va = accessAddress ix u (s.reg rn) (s.offset3 off) := by
  cases ix <;> rfl

theorem State.oddHalf_of_odd {s : State} (ha : s.alignChecked = false) {va : Word} (h : va.toNat % 2 = 1) :
    s.oddHalf va = true := by
  rw [State.oddHalf, bitAt, BitVec.getLsbD, Nat.testBit_zero, h, ha]
  rfl

theorem badMode3_iff (ix : Indexing) (rn rd : Reg) (off : Offset3) : badMode3 ix rn rd off = true ↔
    off.namesPc = true ∨ ix = .postW ∨ ix ≠ .offset ∧ (rn = 15 ∨ rn = rd) := by
  simp only [badMode3, Bool.or_eq_true, beq_iff_eq, badBase_iff, or_assoc]

/-! Words and bytes (44_arm_load_store.md R490, R491, R495-R499). -/

theorem exec_ldr {s : State} (hm : s.mode ≠ .dbg) (c : Cond) (ix : Indexing) (u : Bool) (rn rd : Reg) (off : Offset2) :
    exec (.ldr c ix u rn rd off) s = s.load2 c ix u rn rd off .word s.privileged true rotateRead := by
  show execLdr c ix u rn rd off s = _
  rw [execLdr, beq_false_of_ne hm, Bool.and_false, Bool.false_and, if_neg Bool.false_ne_true]

section
variable {s : State} {c : Cond} (hc : s.passed c = true)
include hc

section
variable {ix : Indexing} {rn rd : Reg} {off : Offset2} {pcAllowed : Bool}
  (h : (off.namesPc = true ∨ ix ≠ .offset ∧ (rn = 15 ∨ rn = rd)) ∨ rd = 15 ∧ pcAllowed = false)
include h

theorem State.load2_refused (u : Bool) (w : Width) (privileged : Bool) (conv : Word → Word → Word) :
    s.load2 c ix u rn rd off w privileged pcAllowed conv = .refused .unpredictableOperands := by
  rw [State.load2, if_pos hc, if_pos]
  simpa only [Bool.or_eq_true, Bool.and_eq_true, badBase_iff, beq_iff_eq, Bool.not_eq_true'] using h

theorem State.store2_refused (u : Bool) (w : Width) (privileged : Bool) :
    s.store2 c ix u rn rd off w privileged pcAllowed = .refused .unpredictableOperands := by
  rw [State.store2, if_pos hc, if_pos]
  simpa only [Bool.or_eq_true, Bool.and_eq_true, badBase_iff, beq_iff_eq, Bool.not_eq_true'] using h

end

variable {ix : Indexing} {u : Bool} {rn rd : Reg}

theorem exec_loadRows2_refused {off : Offset2} (hm : s.mode ≠ .dbg)
    (h : off.namesPc = true ∨ ix ≠ .offset ∧ (rn = 15 ∨ rn = rd)) :
    ∀ r ∈ loadRows2 s c ix u rn rd off, exec r.instr s = .refused .unpredictableOperands := by
  have ldr := (exec_ldr hm c ix u rn rd off).trans (State.load2_refused hc (.inl h) u .word s.privileged rotateRead)
  have refused (pcAllowed : Bool) := State.load2_refused (pcAllowed := pcAllowed) hc (.inl h) u
  unfold loadRows2
  split
  case isTrue post =>
    subst post
    simp only [List.forall_mem_cons, List.not_mem_nil, false_implies, implies_true, and_true]
    exact ⟨ldr, refused false .byte _ _, refused false .word _ _, refused false .byte _ _⟩
  case isFalse =>
    simp only [List.forall_mem_cons, List.not_mem_nil, false_implies, implies_true, and_true]
    exact ⟨ldr, refused false .byte _ _⟩

theorem exec_storeRows2_refused {off : Offset2} (h : off.namesPc = true ∨ ix ≠ .offset ∧ (rn = 15 ∨ rn = rd)) :
    ∀ r ∈ storeRows2 s c ix u rn rd off, exec r.instr s = .refused .unpredictableOperands := by
  have refused (pcAllowed : Bool) := State.store2_refused (pcAllowed := pcAllowed) hc (.inl h) u
  unfold storeRows2
  split
  case isTrue post =>
    subst post
    simp only [List.forall_mem_cons, List.not_mem_nil, false_implies, implies_true, and_true]
    exact ⟨refused true .word _, refused false .byte _, refused true .word _, refused false .byte _⟩
  case isFalse =>
    simp only [List.forall_mem_cons, List.not_mem_nil, false_implies, implies_true, and_true]
    exact ⟨refused true .word _, refused false .byte _⟩

/-- In DEBUG mode LDR of R15 or with an RRX offset is refused (93 U42). -/
theorem exec_ldr_debug {off : Offset2} (hm : s.mode = .dbg) (h : rd = 15 ∨ off.isRrx = true) :
    exec (.ldr c ix u rn rd off) s = .refused .notInDebugMode := by
  show execLdr c ix u rn rd off s = _
  rw [execLdr, if_pos]
  simpa only [hc, hm, beq_self_eq_true, Bool.and_self, Bool.true_and, Bool.or_eq_true, beq_iff_eq] using h

/-! Halfwords, signed bytes and pairs (44_arm_load_store.md R492, R503-R508). -/

variable {off : Offset3}

theorem State.load3_refused (h : badMode3 ix rn rd off = true ∨ rd = 15) (w : Width) (conv : Word → Word) :
    s.load3 c ix u rn rd off w conv = .refused .unpredictableOperands := by
  rw [State.load3, if_pos hc, if_pos (by simpa only [Bool.or_eq_true, beq_iff_eq] using h)]

theorem exec_strh_refused (h : badMode3 ix rn rd off = true ∨ rd = 15) :
    exec (.strh c ix u rn rd off) s = .refused .unpredictableOperands := by
  show execStrh c ix u rn rd off s = _
  rw [execStrh, if_pos hc, if_pos (by simpa only [Bool.or_eq_true, beq_iff_eq] using h)]

section
variable (h : ¬ (badMode3 ix rn rd off = true ∨ rd = 15)) (odd : s.oddHalf (s.address3 ix u rn off).va = true)
include h odd

theorem State.load3_odd (conv : Word → Word) : s.load3 c ix u rn rd off .half conv = .refused .unpredictableAlignment := by
  rw [State.load3, if_pos hc, if_neg (by simpa only [Bool.or_eq_true, beq_iff_eq] using h)]
  exact if_pos odd

theorem exec_strh_odd : exec (.strh c ix u rn rd off) s = .refused .unpredictableAlignment := by
  show execStrh c ix u rn rd off s = _
  rw [execStrh, if_pos hc, if_neg (by simpa only [Bool.or_eq_true, beq_iff_eq] using h)]
  exact if_pos odd

end

theorem exec_ldrd_refused (even : bitAt rd 0 = false)
    (h : (((rd = 14 ∨ badMode3 ix rn rd off = true) ∨ ix ≠ .offset ∧ rn = rd + 1) ∨ off.reg? = some rd) ∨
      off.reg? = some (rd + 1)) : exec (.ldrd c ix u rn rd off) s = .refused .unpredictableOperands := by
  show execLdrd c ix u rn rd off s = _
  rw [execLdrd, if_pos hc, even, if_neg Bool.false_ne_true, if_pos]
  simpa only [badLdrd, nextReg, Bool.or_eq_true, Bool.and_eq_true, beq_iff_eq, Indexing.writesBack_iff] using h

theorem exec_strd_refused (even : bitAt rd 0 = false) (h : rd = 14 ∨ badMode3 ix rn rd off = true) :
    exec (.strd c ix u rn rd off) s = .refused .unpredictableOperands := by
  show execStrd c ix u rn rd off s = _
  rw [execStrd, if_pos hc, even, if_neg Bool.false_ne_true, if_pos (by simpa only [Bool.or_eq_true, beq_iff_eq] using h)]

end

end Sys2Proof.Machine
end

section
/-! PROOF. What the spec forbids in the operands of an instruction is refused: the multiple transfers, the swaps, MSR and the
coprocessor writes, and all families together (44_arm_load_store.md R520-R530, 45_arm_branch_status.md R551,
41_coprocessor_access.md R365; 93 U2, U31, U34, U42; log entry 61). -/

namespace Sys2Proof.Machine

/-! Multiple transfers (44_arm_load_store.md R520-R524). -/

theorem badBlock_iff (rn : Reg) (list : BitVec 16) : badBlock rn list = true ↔ list = 0 ∨ rn = 15 := by
  simp only [badBlock, Bool.or_eq_true, beq_iff_eq]

/-- A list without R15 is empty where its low part is. -/
theorem badBlock_low {rn : Reg} {low : BitVec 15} (h : low = 0 ∨ rn = 15) : badBlock rn (0#1 ++ low) = true :=
  (badBlock_iff ..).mpr (h.imp_left (congrArg (0#1 ++ ·)))

theorem State.badUserBlock_iff (s : State) (w : Bool) :
    s.badUserBlock w = true ↔ w = true ∨ s.mode = .usr ∨ s.mode = .sys := by
  simp only [State.badUserBlock, Bool.or_eq_true, beq_iff_eq, or_assoc]

section
variable {s : State} {c : Cond} (hc : s.passed c = true) {m : BlockMode} {w : Bool} {rn : Reg}
include hc

theorem exec_stm_refused {list : BitVec 16} (h : badBlock rn list = true) :
    exec (.stm c m w rn list) s = .refused .unpredictableOperands := by
  show execStm c m w rn list s = _
  rw [execStm, if_pos hc, if_pos h]

theorem exec_stmUser_refused {list : BitVec 16} (h : badBlock rn list = true ∨ s.badUserBlock w = true) :
    exec (.stmUser c m w rn list) s = .refused .unpredictableOperands := by
  show execStmUser c m w rn list s = _
  rw [execStmUser, if_pos hc, if_pos ((Bool.or_eq_true _ _).mpr h)]

section
variable (hm : s.mode ≠ .dbg)
include hm

theorem exec_ldm_refused {list : BitVec 16} (h : badBlock rn list = true ∨ w = true ∧ bitAt list rn.toNat = true) :
    exec (.ldm c m w rn list) s = .refused .unpredictableOperands := by
  show execLdm c m w rn list s = _
  rw [execLdm, if_pos hc, if_neg (mt beq_iff_eq.mp hm), if_pos]
  simpa only [Bool.or_eq_true, Bool.and_eq_true] using h

theorem exec_ldmUser_refused {low : BitVec 15} (h : badBlock rn (0#1 ++ low) = true ∨ s.badUserBlock w = true) :
    exec (.ldmUser c m w rn low) s = .refused .unpredictableOperands := by
  show execLdmUser c m w rn low s = _
  rw [execLdmUser, if_pos hc, if_neg (mt beq_iff_eq.mp hm), if_pos ((Bool.or_eq_true _ _).mpr h)]

theorem exec_ldmRet_noSpsr (low : BitVec 15) (h : s.spsrOf s.mode = none) :
    exec (.ldmRet c m w rn low) s = .refused .noSpsr := by
  show execLdmRet c m w rn low s = _
  rw [execLdmRet, if_pos hc, if_neg (mt beq_iff_eq.mp hm), if_pos (Option.isNone_iff_eq_none.mpr h)]

theorem exec_ldmRet_refused {low : BitVec 15} (hs : s.spsrOf s.mode ≠ none)
    (h : rn = 15 ∨ w = true ∧ bitAt low rn.toNat = true) :
    exec (.ldmRet c m w rn low) s = .refused .unpredictableOperands := by
  show execLdmRet c m w rn low s = _
  rw [execLdmRet, if_pos hc, if_neg (mt beq_iff_eq.mp hm), if_neg (mt Option.isNone_iff_eq_none.mp hs), if_pos]
  simpa only [Bool.or_eq_true, Bool.and_eq_true] using h.imp_left fun h => (badBlock_iff ..).mpr (.inr h)

end

/-- In DEBUG mode every load multiple is refused (93 U42). -/
theorem exec_loadMultiple_debug (hm : s.mode = .dbg) (list : BitVec 16) (low : BitVec 15) :
    exec (.ldm c m w rn list) s = .refused .notInDebugMode ∧ exec (.ldmUser c m w rn low) s = .refused .notInDebugMode ∧
    exec (.ldmRet c m w rn low) s = .refused .notInDebugMode := by
  have debug : (s.mode == .dbg) = true := beq_iff_eq.mpr hm
  unfold exec execLdm execLdmUser execLdmRet
  simp only [hc, debug, if_true, and_self]

end

/-! Swaps (44_arm_load_store.md R530, R531). -/

theorem badSwap_iff (rn rd rm : Reg) : badSwap rn rd rm = true ↔ rd = 15 ∨ rm = 15 ∨ rn = 15 ∨ rn = rm ∨ rn = rd := by
  simp only [badSwap, Bool.or_eq_true, beq_iff_eq, or_assoc]

section
variable {s : State} {c : Cond} (hc : s.passed c = true)
include hc

theorem exec_swp_refused {rn rd rm : Reg} (hm : s.mode ≠ .dbg) (h : badSwap rn rd rm = true) :
    exec (.swp c rn rd rm) s = .refused .unpredictableOperands := by
  show execSwp c rn rd rm s = _
  rw [execSwp, if_pos hc, if_neg (mt beq_iff_eq.mp hm), if_pos h]

theorem exec_swp_debug (hm : s.mode = .dbg) (rn rd rm : Reg) : exec (.swp c rn rd rm) s = .refused .notInDebugMode := by
  show execSwp c rn rd rm s = _
  rw [execSwp, if_pos hc, if_pos (beq_iff_eq.mpr hm)]

theorem exec_swpb_refused {rn rd rm : Reg} (h : badSwap rn rd rm = true) :
    exec (.swpb c rn rd rm) s = .refused .unpredictableOperands := by
  show execSwpb c rn rd rm s = _
  rw [execSwpb, if_pos hc, if_pos h]

/-! MSR and the coprocessor writes (45_arm_branch_status.md R551, 41_coprocessor_access.md R365). -/

theorem exec_msrReg_pc (r : Bool) (mask : BitVec 4) : exec (.msrReg c r mask 15) s = .refused .unpredictableOperands := by
  show execMsrReg c r mask 15 s = _
  rw [execMsrReg, if_pos hc, if_pos (beq_self_eq_true _)]

section
variable (hp : s.mode ≠ .usr)
include hp

theorem exec_mcr_pc {cp : BitVec 4} (h : cp = 14 ∨ cp = 15) (op1 op2 : BitVec 3) (crn crm : BitVec 4) :
    exec (.mcr c op1 crn 15 cp op2 crm) s = .refused .unpredictableOperands := by
  show execMcr c op1 crn 15 cp op2 crm s = _
  have reached : ¬ ((cp != 14 && cp != 15) || !s.privileged) = true := by
    rw [State.privileged_of_ne hp]
    rcases h with rfl | rfl <;> decide
  rw [execMcr, if_pos hc, if_neg reached, if_pos (beq_self_eq_true _)]

theorem State.cp15Function_pc (f : Word → Result) : s.cp15Function c 15 f = .refused .unpredictableOperands := by
  rw [State.cp15Function, if_pos hc, State.privileged_of_ne hp]
  rfl

/-- Of the functions of CP15 only the read of the data cache lock register has a meaning with Rd = 15 (R366). -/
theorem exec_functionInstrs_pc :
    ∀ i ∈ functionInstrs c 15, i ≠ .readDCacheLock c 15 → exec i s = .refused .unpredictableOperands := by
  have function {i : Instr} (f : Word → Result) (e : exec i s = s.cp15Function c 15 f) :
      i ≠ .readDCacheLock c 15 → exec i s = .refused .unpredictableOperands :=
    fun _ => e.trans (State.cp15Function_pc hc hp f)
  simp only [functionInstrs, List.forall_mem_cons, List.not_mem_nil, false_implies, implies_true, and_true]
  and_intros
  on_goal 17 => exact fun h => absurd rfl h
  all_goals exact function _ (by unfold exec; rfl)

end

end

/-- Bit 0 of an even register number. -/
theorem bitAt_zero_of_even {rd : Reg} (h : rd.toNat % 2 = 0) : bitAt rd 0 = false := by
  simp only [bitAt, BitVec.getLsbD, Nat.testBit_zero, h, Nat.zero_ne_one, decide_false]

/-- Settles O25, family by family: each refuses by a check before its work. -/
theorem forbiddenOperandsAreRefused : Obligations.ForbiddenOperandsAreRefused := by
  intro s c sf u w b r rn rd rs rm sbz mask x y ix off off3 m list low op1 op2 crn crm cp stops noDebug badBase mode3 hc
  have bad3 : badMode3 ix rn rd off3 = true ↔ mode3 := badMode3_iff ix rn rd off3
  refine ⟨fun h => ⟨?mul, ?mla⟩, fun h => ?mlaRn, fun h => ?long, fun h => ⟨?smulxy, ?smulwy⟩,
    fun h => ⟨?smlaxy, ?smlawy, ?smlalxy⟩, fun h => ?smlalxySame,
    fun h0 => ⟨fun h => ?accumulatorPc, fun h => exec_mra_refused hc h0 (.inr h)⟩,
    fun h => ⟨fun hm => exec_loadRows2_refused hc hm h, exec_storeRows2_refused hc h⟩, fun h => ?bytesPc,
    fun h => ?halves, fun hok hd ha odd => ?oddHalves, fun even => ⟨fun h => ?pairs, fun h => ?ldrd⟩,
    fun h => ?swaps, fun h => ?stm, fun h => ?userBank,
    fun hm => ⟨fun h => ?ldm, fun h => ?ldmUser, fun h => ?noSpsr, fun hs h => ?ldmRet⟩,
    fun hm => ?debug, fun h => if_pos h, fun h => ?msr, fun hp h => ?coprocessor⟩
  case mul => exact (exec_mul hc ..).trans (if_pos h)
  case mla => exact (exec_mla hc ..).trans (if_pos (h.imp_right .inr))
  case mlaRn => exact (exec_mla hc ..).trans (if_pos (.inr (.inl h)))
  case long =>
    have refused := State.longMultiply_refused hc h sf
    exact ⟨refused false false, refused false true, refused true false, refused true true⟩
  case smulxy => exact (exec_smulxy hc ..).trans (if_pos h)
  case smulwy => exact (exec_smulwy hc ..).trans (if_pos h)
  case smlaxy => exact (exec_smlaxy hc ..).trans (if_pos h)
  case smlawy => exact (exec_smlawy hc ..).trans (if_pos h)
  case smlalxy => exact (exec_smlalxy hc ..).trans (if_pos (by simpa only [or_assoc] using Or.inl (b := rd = rn) h))
  case smlalxySame => exact (exec_smlalxy hc ..).trans (if_pos (.inr (.inr (.inr (.inr h)))))
  case accumulatorPc =>
    exact ⟨exec_accumulateRows_pc hc h0 h, exec_mar_pc hc h0 h, exec_mra_refused hc h0 (.inl h)⟩
  case bytesPc =>
    have load {ix : Indexing} := State.load2_refused (ix := ix) (rn := rn) (off := off) hc (.inr ⟨h, rfl⟩) u
    have store {ix : Indexing} := State.store2_refused (ix := ix) (rn := rn) (off := off) hc (.inr ⟨h, rfl⟩) u
    exact ⟨load .byte _ _, store .byte _, load .word _ _, load .byte _ _, store .byte _⟩
  case halves =>
    have load := State.load3_refused (u := u) hc (h.imp_left bad3.mpr)
    exact ⟨load .half _, load .byte _, load .half _, exec_strh_refused hc (h.imp_left bad3.mpr)⟩
  case oddHalves =>
    have allowed : ¬ (badMode3 ix rn rd off3 = true ∨ rd = 15) := not_or.mpr ⟨hok ∘ bad3.mp, hd⟩
    have odd := State.oddHalf_of_odd ha (State.address3_va s ix u rn off3 ▸ odd)
    exact ⟨State.load3_odd hc allowed odd _, State.load3_odd hc allowed odd _, exec_strh_odd hc allowed odd⟩
  case pairs =>
    have h := h.imp_right bad3.mpr
    exact ⟨exec_ldrd_refused hc (bitAt_zero_of_even even) (.inl (.inl (.inl h))),
      exec_strd_refused hc (bitAt_zero_of_even even) h⟩
  case ldrd =>
    apply exec_ldrd_refused hc (bitAt_zero_of_even even)
    rcases h with first | second | base
    · exact .inl (.inr first)
    · exact .inr second
    · exact .inl (.inl (.inr base))
  case swaps =>
    have bad := (badSwap_iff rn rd rm).mpr h
    exact ⟨fun hm => exec_swp_refused hc hm bad, exec_swpb_refused hc bad⟩
  case stm =>
    have bad := (badBlock_iff rn list).mpr h
    exact ⟨exec_stm_refused hc bad, exec_stmUser_refused hc (.inl bad)⟩
  case userBank =>
    have bad := (s.badUserBlock_iff w).mpr h
    exact ⟨exec_stmUser_refused hc (.inr bad), fun hm => exec_ldmUser_refused hc hm (.inr bad)⟩
  case ldm =>
    apply exec_ldm_refused hc hm
    rwa [badBlock_iff, or_assoc]
  case ldmUser => exact exec_ldmUser_refused hc hm (.inl (badBlock_low h))
  case noSpsr => exact exec_ldmRet_noSpsr hc hm low h
  case ldmRet => exact exec_ldmRet_refused hc hm hs h
  case debug =>
    obtain ⟨ldm, ldmUser, ldmRet⟩ := exec_loadMultiple_debug (m := m) (w := w) (rn := rn) hc hm list low
    exact ⟨ldm, ldmUser, ldmRet, exec_swp_debug hc hm rn rd rm, exec_ldr_debug hc hm⟩
  case msr => exact h ▸ exec_msrReg_pc hc r mask
  case coprocessor =>
    subst h
    exact ⟨fun hcp => exec_mcr_pc hc hp hcp op1 op2 crn crm, exec_functionInstrs_pc hc hp⟩

end Sys2Proof.Machine
end

section
/-! PROOF. How a transfer ends: the registers that it writes after its accesses, going on in sequence, and the branch of a load
of R15 (10_state.md R32, R35; 44_arm_load_store.md R491, R493, R494). -/

namespace Sys2Proof.Machine

/-! Lists of registers that are written (10_state.md R32). -/

/-- In which order the registers of a list stand does not count. -/
theorem WritesBank.of_mem_iff {s t : State} {m : Mode} {l l' : List (Reg × Word)} (h : WritesBank s t m l)
    (same : ∀ x, x ∈ l ↔ x ∈ l') : WritesBank s t m l' :=
  ⟨fun x hx => h.written x ((same x).mpr hx), fun p hp => h.others p fun x hx => hp x ((same x).mp hx)⟩

/-- Registers that are written after others, none of them twice. -/
theorem WritesBank.append {s t u : State} {m : Mode} {l l' : List (Reg × Word)} (h : WritesBank s t m l)
    (k : WritesBank t u m l') (apart : ∀ x ∈ l, ∀ y ∈ l', physReg m x.1 ≠ physReg m y.1) : WritesBank s u m (l ++ l') where
  written x hx := by
    rcases List.mem_append.mp hx with first | second
    · have kept := k.others (physReg m x.1).toFin fun y hy same =>
        apart x first y hy (BitVec.eq_of_toNat_eq (congrArg Fin.val same))
      exact kept.trans (h.written x first)
    · exact k.written x second
  others p hp := by
    rw [k.others p fun x hx => hp x (List.mem_append_right l hx), h.others p fun x hx => hp x (List.mem_append_left l' hx)]

/-- Only the registers before the write count. -/
theorem WritesBank.of_core {s v t : State} {m : Mode} {l : List (Reg × Word)} (h : WritesBank v t m l) (core : v.core = s.core) :
    WritesBank s t m l :=
  ⟨h.written, by rw [← core]; exact h.others⟩

/-- From `v` to `u` the registers of a list are written, in the bank of mode `m`, and nothing else changes. -/
structure RegsWritten (v u : State) (m : Mode) (l : List (Reg × Word)) : Prop where
  regs : WritesBank v u m l
  eq : u = { v with core := { v.core with regs := u.core.regs } }

namespace RegsWritten

theorem refl (v : State) (m : Mode) : RegsWritten v v m [] := ⟨.nil rfl, rfl⟩

theorem setBankedReg (v : State) (m : Mode) (n : Reg) (x : Word) : RegsWritten v (v.setBankedReg m n x) m [(n, x)] :=
  ⟨.one rfl, rfl⟩

theorem mode {v u : State} {m : Mode} {l : List (Reg × Word)} (h : RegsWritten v u m l) : u.mode = v.mode := by
  rw [h.eq]
  rfl

theorem append {v u t : State} {m : Mode} {l l' : List (Reg × Word)} (h : RegsWritten v u m l) (k : RegsWritten u t m l')
    (own : ∀ x ∈ l, x.1 ≠ 15) (own' : ∀ y ∈ l', y.1 ≠ 15) (apart : ∀ x ∈ l, ∀ y ∈ l', x.1 ≠ y.1) :
    RegsWritten v t m (l ++ l') := by
  refine ⟨h.regs.append k.regs fun x hx y hy => physReg_ne_of_ne m m (own x hx) (own' y hy) (apart x hx y hy), ?_⟩
  have e := k.eq
  rw [h.eq] at e
  exact e

theorem setReg {v u : State} {l : List (Reg × Word)} (h : RegsWritten v u v.mode l) {n : Reg} (hn : n ≠ 15) (x : Word)
    (own : ∀ y ∈ l, y.1 ≠ 15) (apart : ∀ y ∈ l, y.1 ≠ n) : RegsWritten v (u.setReg n x) v.mode (l ++ [(n, x)]) := by
  rw [State.setReg_of_ne x hn, h.mode]
  refine h.append (.setBankedReg u v.mode n x) own (fun y hy => ?_) fun y hy z hz => ?_
  · rwa [List.mem_singleton.mp hy]
  · rw [List.mem_singleton.mp hz]
    exact apart y hy

end RegsWritten

/-! The base register (44_arm_load_store.md R491). -/

/-- The base register, where it is written back. -/
def baseWrites (rn : Reg) : Option Word → List (Reg × Word)
  | none => []
  | some v => [(rn, v)]

theorem eq_of_mem_baseWrites {rn : Reg} {b : Option Word} {y : Reg × Word} (h : y ∈ baseWrites rn b) :
    b.isSome = true ∧ y.1 = rn := by
  cases b with
  | none => cases h
  | some v => exact ⟨rfl, congrArg Prod.fst (List.mem_singleton.mp h)⟩

theorem RegsWritten.writeBase (v : State) {rn : Reg} {b : Option Word} (hn : b.isSome = true → rn ≠ 15) :
    RegsWritten v (v.writeBase rn b) v.mode (baseWrites rn b) := by
  cases b with
  | none => exact .refl v v.mode
  | some x => exact RegsWritten.setReg (.refl v v.mode) (hn rfl) x nofun nofun

theorem State.address2_va (s : State) (ix : Indexing) (u : Bool) (rn : Reg) (off : Offset2) :
    (s.address2 ix u rn off).va = accessAddress ix u (s.reg rn) (s.offset2 off) := by
  cases ix <;> rfl

theorem baseWrites_indexedAddress (ix : Indexing) (u : Bool) (rn : Reg) (base offset : Word) :
    baseWrites rn (indexedAddress ix u base offset).newBase = baseAfter ix u rn base offset := by
  cases ix <;> rfl

theorem indexedAddress_newBase_isSome (ix : Indexing) (u : Bool) (base offset : Word) :
    (indexedAddress ix u base offset).newBase.isSome = true ↔ ix ≠ .offset := by
  cases ix <;> simp [indexedAddress, Indexing.writesBack]

/-! Going on in sequence (10_state.md R35). -/

/-- A transfer of `s` is complete: after its accesses, which led to `v`, it wrote the registers of a list and went on in
sequence. -/
structure TransferDone (s v t : State) (m : Mode) (l : List (Reg × Word)) : Prop where
  regs : WritesBank s t m l
  core : t.core = { s.core with pc := s.nextPc, regs := t.core.regs }
  mem : t.mem = v.mem
  cp15 : t.cp15 = v.cp15
  btb : t.btb = v.btb
  stale : t.stale = v.stale
  storing : t.storing = v.storing
  elsewhere : SameElsewhere v t

theorem RegsWritten.advance {s v u : State} {m : Mode} {l : List (Reg × Word)} (h : RegsWritten v u m l)
    (core : v.core = s.core) (hn : s.hasNext) : ∃ t, u.advance = .next t ∧ TransferDone s v t m l := by
  have ucore : u.core = { s.core with regs := u.core.regs } := by rw [h.eq, core]
  have done := State.advance_at (u := u) hn (by rw [ucore]) (by rw [State.thumb, State.thumb, ucore])
  have elsewhere : SameElsewhere v u := by rw [h.eq]; exact .here v _ v.mem v.btb
  refine ⟨_, done, (h.regs.of_advance done).of_core core, ?core, ?mem, ?cp15, ?btb, ?stale, ?storing,
    (elsewhere.trans (.here u _ u.mem u.btb)).trans (.traceInstr _)⟩
  case core => rw [State.traceInstr_core, State.setPc, ucore]
  case mem => rw [State.traceInstr_mem, State.setPc_mem, h.eq]
  case cp15 => rw [State.traceInstr_cp15, State.setPc_cp15, h.eq]
  case btb => rw [State.traceInstr_btb, State.setPc_btb, h.eq]
  case stale => rw [State.traceInstr_stale, State.setPc_stale, h.eq]
  case storing => rw [State.traceInstr_storing, State.setPc_storing, h.eq]

/-- After accesses that only read, a load is complete. -/
theorem TransferDone.loadAfter {s v t : State} {m : Mode} {l : List (Reg × Word)} (h : TransferDone s v t m l)
    (noted : OnlyNoted s v) : LoadAfter s t m l where
  regs := h.regs
  pc := by rw [h.core]
  status := by rw [h.core]
  saved := by rw [h.core]
  accumulator := by rw [h.core]
  memory pa := congrArg (memGet · pa) (h.mem.trans noted.mem)
  predictor := h.btb.trans noted.btb
  stale := h.stale.trans (by rw [noted.eq])
  storing := h.storing.trans (by rw [noted.eq])
  elsewhere := noted.elsewhere.trans h.elsewhere

theorem Loads.of_regs {s v u : State} {m : Mode} {l : List (Reg × Word)} (noted : OnlyNoted s v) (h : RegsWritten v u m l)
    (hn : s.hasNext) : Loads u.advance s m l := by
  obtain ⟨t, run, done⟩ := h.advance noted.core hn
  exact ⟨t, run, done.loadAfter noted⟩

/-! Interworking branches (10_state.md R35 (b), (c)). -/

theorem bitAt_zero_and_even (v : Word) (h : bitAt v 0 = false) : v &&& 0xFFFFFFFE = v := by
  apply BitVec.eq_of_getLsbD_eq
  intro i hi
  rcases Nat.eq_zero_or_pos i with rfl | pos
  · rw [BitVec.getLsbD_and, show v.getLsbD 0 = false from h, Bool.false_and]
  · have mask : ∀ i < 32, 0 < i → (0xFFFFFFFE : Word).getLsbD i = true := by decide
    rw [BitVec.getLsbD_and, mask i hi pos, Bool.and_true]

theorem setBit_five (b : Bool) (w : Word) : setBit 5 b w = merge 0x20 w (if b then 0x20 else 0) := by
  cases b
  · rfl
  · show (w &&& ~~~(1#32 <<< 5)) ||| (0xFFFFFFFF &&& (1#32 <<< 5)) = (w &&& ~~~0x20) ||| (0x20 &&& 0x20)
    rfl

/-- A write of the PC with a T bit beside it. -/
theorem State.jumpTo_setThumb (u : State) (i b : Bool) (v : Word) :
    JumpsTo (.next ((u.jumpTo i v).setCpsr (setBit 5 b u.core.cpsr))) u
      { u.core with pc := v, cpsr := merge 0x20 u.core.cpsr (if b then 0x20 else 0) } := by
  obtain ⟨t, run, core, memory, btb, stale, storing, elsewhere⟩ := u.jumpTo_next i v
  cases run
  refine ⟨_, rfl, ?_, memory, btb, stale, storing, elsewhere.trans (.here _ _ _ _)⟩
  rw [State.setCpsr, core, setBit_five]

theorem State.jumpExchange_exchanges (u : State) (v : Word) : Exchanges (u.jumpExchange v) u u.core v := by
  unfold Exchanges State.jumpExchange exchangeCore
  by_cases thumb : bitAt v 0 = true
  · rw [if_pos thumb, if_neg (fun h => absurd (h.1.symm.trans thumb) Bool.false_ne_true)]
    simpa only [thumb] using u.jumpTo_setThumb true true (v &&& 0xFFFFFFFE)
  · rw [Bool.not_eq_true] at thumb
    rw [thumb, if_neg Bool.false_ne_true, bitAt_zero_and_even v thumb]
    by_cases odd : bitAt v 1 = true
    · rw [if_pos odd, if_pos ⟨rfl, odd⟩]
    · rw [if_neg odd, if_neg fun h => odd h.2]
      exact u.jumpTo_setThumb u.thumb false v

/-- A branch of a state in which only core registers and what a read notes differ. -/
theorem Exchanges.of_regs {s v u : State} {r : Result} {m : Mode} {l : List (Reg × Word)} {x : Word} (noted : OnlyNoted s v)
    (h : RegsWritten v u m l) (k : Exchanges r u u.core x) : Exchanges r s u.core x := by
  unfold Exchanges at k ⊢
  split
  · rwa [if_pos ‹_›] at k
  · rw [if_neg ‹_›] at k
    obtain ⟨t, run, core, memory, btb, stale, storing, elsewhere⟩ := k
    have wrote : SameElsewhere v u := by rw [h.eq]; exact .here v _ v.mem v.btb
    refine ⟨t, run, core, fun pa => ?_, ?_, ?_, ?_, (noted.elsewhere.trans wrote).trans elsewhere⟩
    · rw [memory pa, State.memByte, State.memByte, h.eq, ← noted.mem]
    · rw [btb, h.eq, noted.eq]
    · rw [stale, h.eq, noted.eq]
    · rw [storing, h.eq, noted.eq]

end Sys2Proof.Machine
end

section
/-! PROOF. What a store that reaches memory leaves: the bytes at its lane, every other byte, and words that are read again
(20_memory.md R150, R153, R157). -/

namespace Sys2Proof.Machine

/-! Words in memory. -/

theorem wordOf_byteOf (v : Word) : wordOf (byteOf v 0) (byteOf v 1) (byteOf v 2) (byteOf v 3) = v := by
  apply BitVec.eq_of_getLsbD_eq
  intro i hi
  simp only [wordOf, byteOf, BitVec.getLsbD_append, BitVec.getLsbD_extractLsb']
  grind

theorem gather_congr {w : Width} {f g : Nat → Byte} (h : ∀ i < w.bytes, f i = g i) : gather w f = gather w g := by
  cases w with
  | byte => exact congrArg (BitVec.zeroExtend 32) (h 0 (by decide))
  | half =>
    show wordOf (f 0) (f 1) 0 0 = wordOf (g 0) (g 1) 0 0
    rw [h 0 (by decide), h 1 (by decide)]
  | word =>
    show wordOf (f 0) (f 1) (f 2) (f 3) = wordOf (g 0) (g 1) (g 2) (g 3)
    rw [h 0 (by decide), h 1 (by decide), h 2 (by decide), h 3 (by decide)]

/-- A word lies in a word of the physical address space. -/
theorem State.directLane_word_mod (s : State) (va : Word) : (s.directLane va .word).toNat % 4 = 0 := by
  have lane := wordAddr_toNat (s.mva va)
  show (s.mva va &&& 0xFFFFFFFC).toNat % 4 = 0
  omega

/-- Two words in different places share no byte. -/
theorem wordBytes_ne {a b : Word} (ha : a.toNat % 4 = 0) (hb : b.toNat % 4 = 0) (apart : a ≠ b) {i j : Nat} (hi : i < 4)
    (hj : j < 4) : a + BitVec.ofNat 32 i ≠ b + BitVec.ofNat 32 j := by
  intro same
  apply apart
  have ia := a.isLt
  have ib := b.isLt
  have e := congrArg BitVec.toNat same
  simp only [BitVec.toNat_add, BitVec.toNat_ofNat] at e
  apply BitVec.eq_of_toNat_eq
  omega

/-! Stores. -/

/-- Beside memory only what an access notes may differ. -/
structure StoredOnly (s t : State) : Prop where
  eq : t = { s with
    mem := t.mem, cp14 := t.cp14, pending := t.pending, stale := t.stale, storing := t.storing }
  elsewhere : SameElsewhere s t

namespace StoredOnly

variable {s t : State} (h : StoredOnly s t)

include h

theorem core : t.core = s.core := by rw [h.eq]

theorem btb : t.btb = s.btb := by rw [h.eq]

theorem midBus : t.midBus = s.midBus := by rw [h.eq]

theorem mode : t.mode = s.mode := by rw [State.mode, State.mode, h.core]

theorem directLane (va : Word) (w : Width) : t.directLane va w = s.directLane va w := by rw [h.eq]; rfl

theorem direct {va : Word} {w : Width} (d : s.Direct va w) : t.Direct va w := by
  refine d.of_same ?_ ?_ ?_ ?_ ?_ ?_ ?_ ?_ <;> rw [h.eq]

theorem trans {u : State} (k : StoredOnly t u) : StoredOnly s u := by
  refine ⟨?_, h.elsewhere.trans k.elsewhere⟩
  have e := k.eq
  rw [h.eq] at e
  exact e

end StoredOnly

theorem OnlyNoted.storedOnly {s t : State} (h : OnlyNoted s t) : StoredOnly s t :=
  ⟨by rw [h.eq], h.elsewhere⟩

/-- A store put the `n` bytes of a value at an address of memory. -/
structure BytesStored (s t : State) (pa v : Word) (n : Nat) : Prop extends StoredOnly s t where
  canonical : t.memCanonical = true
  stored : ∀ i < n, t.memByte (pa + BitVec.ofNat 32 i) = byteOf v i
  others : ∀ a, (∀ i < n, a ≠ pa + BitVec.ofNat 32 i) → t.memByte a = s.memByte a

theorem BytesStored.of_put {s t : State} {pa v : Word} {n : Nat} (hn : n ≤ 4) (canonical : s.memCanonical = true)
    (elsewhere : SameElsewhere s t) (put : t.mem = (s.putBytes pa v n).mem)
    (eq : t = { s with mem := t.mem, cp14 := t.cp14, pending := t.pending, stale := t.stale, storing := t.storing }) :
    BytesStored s t pa v n := by
  have byte (a : Word) : t.memByte a = (s.putBytes pa v n).memByte a := congrArg (memGet · a) put
  refine ⟨⟨eq, elsewhere⟩, ?canonical, fun i hi => ?stored, fun a ha => ?others⟩
  case canonical =>
    rw [State.memCanonical, put]
    exact State.putBytes_wf pa v n canonical
  case stored => rw [byte, State.putBytes_same pa v hn hi canonical]
  case others => rw [byte, State.putBytes_other s pa v n ha]

/-- `MemWrite` where the access reaches memory (20_memory.md R150). -/
theorem State.Direct.write_stores {s : State} {va : Word} {w : Width} (h : s.Direct va w) (canonical : s.memCanonical = true)
    (v : Word) (p : Bool) :
    ∃ t, s.memWrite va w v p = .ok () t ∧ BytesStored s t (s.directLane va w) v w.bytes := by
  obtain ⟨t, run, elsewhere, frame⟩ := h.memWrite v p
  have put : t.mem = (s.putBytes (s.directLane va w) v w.bytes).mem := by rw [frame]
  exact ⟨t, run, .of_put w.bytes_le_four canonical elsewhere put (by rw [put]; exact frame)⟩

/-- The word that was stored is read again. -/
theorem BytesStored.directValue_same {s t : State} {va v : Word} (h : BytesStored s t (s.directLane va .word) v 4) :
    t.directValue va .word = v := by
  rw [State.directValue, h.directLane]
  exact (gather_congr (w := .word) h.stored).trans (wordOf_byteOf v)

/-- A word in another place is read as before. -/
theorem BytesStored.directValue_other {s t : State} {va vb v : Word} (h : BytesStored s t (s.directLane va .word) v 4)
    (apart : s.directLane vb .word ≠ s.directLane va .word) : t.directValue vb .word = s.directValue vb .word := by
  rw [State.directValue, h.directLane]
  exact gather_congr (w := .word) fun i hi => h.others _ fun j hj =>
    wordBytes_ne (s.directLane_word_mod vb) (s.directLane_word_mod va) apart hi hj

/-- The values that a complete transfer left are those of memory after its accesses. -/
theorem TransferDone.memByte {s v t : State} {m : Mode} {l : List (Reg × Word)} (h : TransferDone s v t m l) (pa : Word) :
    t.memByte pa = v.memByte pa := congrArg (memGet · pa) h.mem

theorem TransferDone.directValue {s v t : State} {m : Mode} {l : List (Reg × Word)} (h : TransferDone s v t m l) (va : Word) :
    t.directValue va .word = v.directValue va .word := by
  have lane : t.directLane va .word = v.directLane va .word := by
    simp only [State.directLane, State.mva, State.bigEndian, h.cp15]
  simp only [State.directValue, lane, h.memByte]

/-- A store and the registers written after it. -/
theorem Stores.of_regs {s v u : State} {va x : Word} {w : Width} {l : List (Reg × Word)}
    (stored : BytesStored s v (s.directLane va w) x w.bytes) (h : RegsWritten v u s.mode l) (hn : s.hasNext) :
    Stores u.advance s va w x l := by
  obtain ⟨t, run, done⟩ := h.advance stored.core hn
  refine ⟨t, run, done.regs, by rw [done.core], by rw [done.core], by rw [done.core], by rw [done.core], fun i hi => ?_,
    fun a outside => ?_, done.btb.trans stored.btb, stored.elsewhere.trans done.elsewhere⟩
  · rw [done.memByte, stored.stored i hi]
  · rw [done.memByte, stored.others a fun i hi same => outside ⟨i, hi, same⟩]

end Sys2Proof.Machine
end

section
/-! PROOF. The ARM loads and stores of one register, in every indexing form, and those of R15 (44_arm_load_store.md R490-R506;
20_memory.md R150, R157). -/

namespace Sys2Proof.Machine

/-! One register (44_arm_load_store.md R493, R494). -/

section

variable {s : State} {a : Address} {rn rd : Reg} {w : Width} (direct : s.Direct a.va w)

include direct

/-- A load of a register that is not R15. -/
theorem Loads.single (hn : s.hasNext) (hd : rd ≠ 15) (base : a.newBase.isSome = true → rn ≠ 15 ∧ rn ≠ rd) (p : Bool)
    (conv : Word → Word) :
    Loads (s.loadSingle a rn rd w p conv) s s.mode ((rd, conv (s.directValue a.va w)) :: baseWrites rn a.newBase) := by
  obtain ⟨v, read, noted⟩ := direct.memRead p
  have mode : v.mode = s.mode := by rw [State.mode, State.mode, noted.core]
  have based := RegsWritten.writeBase v fun h => (base h).1
  have wrote := based.setReg hd (conv (s.directValue a.va w))
    (fun y hy => (eq_of_mem_baseWrites hy).2 ▸ (base (eq_of_mem_baseWrites hy).1).1)
    (fun y hy => (eq_of_mem_baseWrites hy).2 ▸ (base (eq_of_mem_baseWrites hy).1).2)
  rw [mode] at wrote
  obtain ⟨t, run, done⟩ := Loads.of_regs noted wrote hn
  refine ⟨t, ?_, { done with regs := done.regs.of_mem_iff fun x => ?_ }⟩
  · simpa only [State.loadSingle, read, if_neg hd] using run
  · rw [List.mem_append, List.mem_singleton, List.mem_cons, or_comm]

/-- A load of R15 branches once the base is written back. -/
theorem Exchanges.loadPc (base : a.newBase.isSome = true → rn ≠ 15) (p : Bool) (conv : Word → Word) :
    Exchanges (s.loadSingle a rn 15 w p conv) s (s.core.wrote s.mode (baseWrites rn a.newBase))
      (conv (s.directValue a.va w)) := by
  obtain ⟨v, read, noted⟩ := direct.memRead p
  have core : (v.writeBase rn a.newBase).core = s.core.wrote s.mode (baseWrites rn a.newBase) := by
    cases hb : a.newBase with
    | none => exact noted.core
    | some x =>
      show (v.setReg rn x).core = _
      rw [State.setReg_of_ne x (base (by rw [hb]; rfl)), State.setBankedReg, State.mode, noted.core]
      rfl
  have branch := Exchanges.of_regs noted (.writeBase v base)
    (State.jumpExchange_exchanges (v.writeBase rn a.newBase) (conv (s.directValue a.va w)))
  rw [core] at branch
  simpa only [State.loadSingle, read, if_true] using branch

/-- A store of a value. -/
theorem Stores.single (hn : s.hasNext) (canonical : s.memCanonical = true) (base : a.newBase.isSome = true → rn ≠ 15) (p : Bool)
    (v : Word) : Stores (s.storeSingle a rn w p v) s a.va w v (baseWrites rn a.newBase) := by
  obtain ⟨t, run, stored⟩ := direct.write_stores canonical v p
  have mode : t.mode = s.mode := stored.mode
  have wrote := RegsWritten.writeBase t base
  rw [mode] at wrote
  simpa only [State.storeSingle, run] using Stores.of_regs stored wrote hn

end

/-! Operands that are not refused (44_arm_load_store.md R490-R492). -/

theorem badBase_eq_false {ix : Indexing} {rn rd : Reg} (h : ix = .offset ∨ (rn ≠ 15 ∧ rn ≠ rd)) : badBase ix rn rd = false := by
  rw [Bool.eq_false_iff, ne_eq, badBase_iff, not_and_or, not_or]
  exact h.imp_left not_not.mpr

theorem badMode3_eq_false {ix : Indexing} {rn rd : Reg} {off : Offset3} (noPc : off.namesPc = false) (post : ix ≠ .postW)
    (h : ix = .offset ∨ (rn ≠ 15 ∧ rn ≠ rd)) : badMode3 ix rn rd off = false := by
  simp only [badMode3, noPc, beq_false_of_ne post, badBase_eq_false h, Bool.or_self]

/-- A written base is a register of its own. -/
theorem indexedAddress_base {ix : Indexing} {rn rd : Reg} (h : ix = .offset ∨ (rn ≠ 15 ∧ rn ≠ rd)) (u : Bool)
    (base offset : Word) : (indexedAddress ix u base offset).newBase.isSome = true → rn ≠ 15 ∧ rn ≠ rd :=
  fun written => h.resolve_left ((indexedAddress_newBase_isSome ix u base offset).mp written)

theorem rotateRead_eq_rotated (va v : Word) : rotateRead va v = rotated va v := by
  rw [rotateRead, rotated, field_toNat, Nat.pow_zero, Nat.div_one]
  rfl

theorem signByte_eq (v : Word) : signByte v = (v.truncate 8).signExtend 32 := by
  rw [signByte, BitVec.truncate_eq_setWidth, BitVec.setWidth_eq_extractLsb' (by decide)]

theorem signHalf_eq (v : Word) : signHalf v = (v.truncate 16).signExtend 32 := by
  rw [signHalf, BitVec.truncate_eq_setWidth, BitVec.setWidth_eq_extractLsb' (by decide)]

theorem oddHalf_of_even {s : State} {va : Word} (h : va.toNat % 2 = 0) : s.oddHalf va = false := by
  rw [State.oddHalf, bitAt, BitVec.getLsbD, Nat.testBit_zero, h]
  rfl

section

variable {s : State} {c : Cond} {ix : Indexing} {u : Bool} {rn rd : Reg}
variable (hc : s.passed c = true) (hd : rd ≠ 15) (base : ix = .offset ∨ (rn ≠ 15 ∧ rn ≠ rd)) (hn : s.hasNext)

include hc hd base hn

/-! Words and bytes (R495-R499). -/

theorem Loads.load2 {off : Offset2} (noPc : off.namesPc = false) {w : Width}
    (direct : s.Direct (accessAddress ix u (s.reg rn) (s.offset2 off)) w) (p pcAllowed : Bool) (conv : Word → Word → Word) :
    Loads (s.load2 c ix u rn rd off w p pcAllowed conv) s s.mode
      ((rd, conv (accessAddress ix u (s.reg rn) (s.offset2 off)) (s.directValue (accessAddress ix u (s.reg rn) (s.offset2 off)) w))
        :: baseAfter ix u rn (s.reg rn) (s.offset2 off)) := by
  rw [State.load2_good w p pcAllowed conv hc hd noPc (badBase_eq_false base), ← baseWrites_indexedAddress]
  rw [← State.address2_va] at direct ⊢
  exact Loads.single direct hn hd (indexedAddress_base base u _ _) p _

theorem Stores.store2 {off : Offset2} (noPc : off.namesPc = false) (canonical : s.memCanonical = true) {w : Width}
    (direct : s.Direct (accessAddress ix u (s.reg rn) (s.offset2 off)) w) (p pcAllowed : Bool) :
    Stores (s.store2 c ix u rn rd off w p pcAllowed) s (accessAddress ix u (s.reg rn) (s.offset2 off)) w (s.reg rd)
      (baseAfter ix u rn (s.reg rn) (s.offset2 off)) := by
  rw [State.store2_good w p pcAllowed hc hd noPc (badBase_eq_false base), ← baseWrites_indexedAddress]
  rw [← State.address2_va] at direct ⊢
  exact Stores.single direct hn canonical (fun h => (indexedAddress_base base u _ _ h).1) p _

/-! Halfwords and signed bytes (R503-R506). -/

theorem Loads.load3 {off : Offset3} (noPc : off.namesPc = false) (post : ix ≠ .postW) {w : Width}
    (direct : s.Direct (accessAddress ix u (s.reg rn) (s.offset3 off)) w)
    (even : w = .half → (accessAddress ix u (s.reg rn) (s.offset3 off)).toNat % 2 = 0) (conv : Word → Word) :
    Loads (s.load3 c ix u rn rd off w conv) s s.mode
      ((rd, conv (s.directValue (accessAddress ix u (s.reg rn) (s.offset3 off)) w))
        :: baseAfter ix u rn (s.reg rn) (s.offset3 off)) := by
  rw [← baseWrites_indexedAddress]
  rw [← State.address3_va] at direct even ⊢
  have reached : (w == .half && s.oddHalf (s.address3 ix u rn off).va) = false := by
    cases w with
    | half => rw [oddHalf_of_even (even rfl), Bool.and_false]
    | byte | word => rfl
  have run : s.load3 c ix u rn rd off w conv =
      s.loadSingle (s.address3 ix u rn off) rn rd w s.privileged conv := by
    simp only [State.load3, hc, badMode3_eq_false noPc post base, beq_false_of_ne hd, reached, Bool.or_self, if_true,
      Bool.false_eq_true, if_false]
  rw [run]
  exact Loads.single direct hn hd (indexedAddress_base base u _ _) _ conv

theorem Stores.strh {off : Offset3} (noPc : off.namesPc = false) (post : ix ≠ .postW) (canonical : s.memCanonical = true)
    (direct : s.Direct (accessAddress ix u (s.reg rn) (s.offset3 off)) .half)
    (even : (accessAddress ix u (s.reg rn) (s.offset3 off)).toNat % 2 = 0) :
    Stores (exec (.strh c ix u rn rd off) s) s (accessAddress ix u (s.reg rn) (s.offset3 off)) .half (s.reg rd)
      (baseAfter ix u rn (s.reg rn) (s.offset3 off)) := by
  rw [← baseWrites_indexedAddress]
  rw [← State.address3_va] at direct even ⊢
  have run : exec (.strh c ix u rn rd off) s = s.storeSingle (s.address3 ix u rn off) rn .half s.privileged (s.reg rd) := by
    show execStrh c ix u rn rd off s = _
    simp only [execStrh, hc, badMode3_eq_false noPc post base, beq_false_of_ne hd, oddHalf_of_even even, Bool.or_self, if_true,
      Bool.false_eq_true, if_false]
  rw [run]
  exact Stores.single direct hn canonical (fun h => (indexedAddress_base base u _ _ h).1) _ _

end

/-- Settles O34: each row is a load of mode 2 or 3 with the conversion of its value. -/
theorem armLoads : Obligations.ArmLoads := by
  intro s c ix u rn rd hc hd post base notDbg hn
  refine ⟨fun off noPc => ?mode2, fun off noPc => ?mode3⟩
  case mode2 =>
    have word (p pcAllowed : Bool) (direct : s.Direct (accessAddress ix u (s.reg rn) (s.offset2 off)) .word) :=
      Loads.load2 (u := u) hc hd base hn noPc direct p pcAllowed rotateRead
    have byte (p pcAllowed : Bool) (direct : s.Direct (accessAddress ix u (s.reg rn) (s.offset2 off)) .byte) :=
      Loads.load2 (u := u) hc hd base hn noPc direct p pcAllowed plainRead
    simp only [rotateRead_eq_rotated] at word
    have ldr := exec_ldr notDbg c ix u rn rd off
    unfold loadRows2
    split
    case isTrue indexed =>
      subst indexed
      simp only [List.forall_mem_cons, List.not_mem_nil, false_implies, implies_true, and_true]
      exact ⟨fun direct => ldr ▸ word s.privileged true direct, byte s.privileged false, word false false, byte false false⟩
    case isFalse =>
      simp only [List.forall_mem_cons, List.not_mem_nil, false_implies, implies_true, and_true]
      exact ⟨fun direct => ldr ▸ word s.privileged true direct, byte s.privileged false⟩
  case mode3 =>
    have load {w : Width} (direct : s.Direct (accessAddress ix u (s.reg rn) (s.offset3 off)) w) even :=
      Loads.load3 (u := u) hc hd base hn noPc post direct even
    simp only [loadRows3, List.forall_mem_cons, List.not_mem_nil, false_implies, implies_true, and_true, ← signByte_eq,
      ← signHalf_eq]
    exact ⟨fun direct even => load direct (fun _ => even trivial) id, fun direct _ => load direct nofun signByte,
      fun direct even => load direct (fun _ => even trivial) signHalf⟩

/-- Settles O35: each row is a store of mode 2 or 3. -/
theorem armStores : Obligations.ArmStores := by
  intro s c ix u rn rd hc hd post base hn canonical
  refine ⟨fun off noPc => ?_, fun off noPc => Stores.strh hc hd base hn noPc post canonical⟩
  have store (w : Width) (p pcAllowed : Bool) (direct : s.Direct (accessAddress ix u (s.reg rn) (s.offset2 off)) w) :=
    Stores.store2 (u := u) hc hd base hn noPc canonical direct p pcAllowed
  unfold storeRows2
  split
  case isTrue indexed =>
    subst indexed
    simp only [List.forall_mem_cons, List.not_mem_nil, false_implies, implies_true, and_true]
    exact ⟨store .word s.privileged true, store .byte s.privileged false, store .word false true, store .byte false false⟩
  case isFalse =>
    simp only [List.forall_mem_cons, List.not_mem_nil, false_implies, implies_true, and_true]
    exact ⟨store .word s.privileged true, store .byte s.privileged false⟩

/-! R15 (R494, R495, R497). -/

section

variable {s : State} {c : Cond} {ix : Indexing} {u : Bool} {rn : Reg} {off : Offset2}
variable (hc : s.passed c = true) (noPc : off.namesPc = false) (base : ix = .offset ∨ rn ≠ 15)

include hc noPc base

/-- A store of R15 stores the instruction's address + `storePcOffset`. -/
theorem Stores.store2_pc (hn : s.hasNext) (canonical : s.memCanonical = true)
    (direct : s.Direct (accessAddress ix u (s.reg rn) (s.offset2 off)) .word) (p : Bool) :
    Stores (s.store2 c ix u rn 15 off .word p true) s (accessAddress ix u (s.reg rn) (s.offset2 off)) .word
      (s.core.pc + storePcOffset) (baseAfter ix u rn (s.reg rn) (s.offset2 off)) := by
  have base' : ix = .offset ∨ (rn ≠ 15 ∧ rn ≠ 15) := base.imp_right fun h => ⟨h, h⟩
  have run : s.store2 c ix u rn 15 off .word p true =
      s.storeSingle (s.address2 ix u rn off) rn .word p (s.core.pc + storePcOffset) := by
    simp only [State.store2, hc, noPc, badBase_eq_false base', if_true, Bool.not_true, Bool.and_false, Bool.or_self,
      Bool.false_eq_true, if_false]
    rfl
  rw [run, ← baseWrites_indexedAddress]
  rw [← State.address2_va] at direct ⊢
  exact Stores.single direct hn canonical (fun h => (indexedAddress_base base' u _ _ h).1) p _

/-- LDR of R15, once its operands are allowed. -/
theorem exec_ldr_pc (notDbg : s.mode ≠ .dbg) : exec (.ldr c ix u rn 15 off) s =
    if s.unalignedPc (accessAddress ix u (s.reg rn) (s.offset2 off)) then .refused .unpredictableAlignment
    else s.loadSingle (s.address2 ix u rn off) rn 15 .word s.privileged
      (rotateRead (accessAddress ix u (s.reg rn) (s.offset2 off))) := by
  have base' : ix = .offset ∨ (rn ≠ 15 ∧ rn ≠ 15) := base.imp_right fun h => ⟨h, h⟩
  rw [exec_ldr notDbg, ← State.address2_va]
  simp only [State.load2, hc, noPc, badBase_eq_false base', if_true, Bool.not_true, Bool.and_false, Bool.or_self,
    Bool.false_eq_true, if_false, beq_self_eq_true, Bool.true_and]

end

theorem State.unalignedPc_iff (s : State) (va : Word) :
    s.unalignedPc va = true ↔ va.toNat % 4 ≠ 0 ∧ s.alignChecked = false := by
  rw [State.unalignedPc, Bool.and_eq_true, bne_iff_ne, ne_eq, field_two_eq_zero_iff, Bool.not_eq_true']

/-- Settles O36: one parameter says what is stored, and a load branches as its word says. -/
theorem loadAndStoreOfPc : Obligations.LoadAndStoreOfPc := by
  have choice : storePcOffset = 8 ∨ storePcOffset = 12 := by
    unfold storePcOffset
    split
    · exact .inr rfl
    · exact .inl rfl
  refine ⟨storePcOffset, choice, rfl, ?_⟩
  intro s c ix u rn off hc noPc post base va written direct
  refine ⟨fun hn canonical => ?store, fun notDbg aligned => ?load, fun notDbg unaligned unchecked => ?refused⟩
  case store =>
    have store := Stores.store2_pc (u := u) hc noPc base hn canonical direct
    exact ⟨store s.privileged, fun e => by subst e; exact store false⟩
  case load =>
    have reached : ¬ s.unalignedPc va = true := fun h => ((s.unalignedPc_iff va).mp h).1 aligned
    rw [exec_ldr_pc hc noPc base notDbg, if_neg reached]
    have loaded := Exchanges.loadPc (a := s.address2 ix u rn off) (rn := rn) (by rw [State.address2_va]; exact direct)
      (fun h => base.resolve_left ((indexedAddress_newBase_isSome ix u _ _).mp h)) s.privileged (rotateRead va)
    have list : baseWrites rn (s.address2 ix u rn off).newBase = written := baseWrites_indexedAddress ix u rn _ _
    rwa [State.address2_va, rotateRead_aligned aligned, list] at loaded
  case refused =>
    rw [exec_ldr_pc hc noPc base notDbg, if_pos ((s.unalignedPc_iff va).mpr ⟨unaligned, unchecked⟩)]

end Sys2Proof.Machine
end

section
/-! PROOF. The transfers of two words and the swaps (44_arm_load_store.md R507, R508, R530, R531; 20_memory.md R154, R158). -/

namespace Sys2Proof.Machine

/-! Between two words (70_reset_and_hazards.md R935). -/

/-- No other bus master writes between the words of a transfer. -/
theorem State.busGap_alone {s : State} (h : s.midBus = []) : s.busGap = s := by
  rw [State.busGap, h]

/-- The next word lies elsewhere. -/
theorem State.directLane_next_ne (s : State) (va : Word) : s.directLane (va + 4) .word ≠ s.directLane va .word := by
  intro same
  have bit (a : Word) : (s.directLane a .word).getLsbD 2 = decide (a.toNat / 4 % 2 = 1) := by
    show (s.mva a &&& 0xFFFFFFFC).getLsbD 2 = _
    rw [BitVec.getLsbD_and, show (0xFFFFFFFC : Word).getLsbD 2 = true from rfl, Bool.and_true, s.mva_low a 2 (by decide),
      BitVec.getLsbD, Nat.testBit_eq_decide_div_mod_eq]
  have apart : (va + 4).toNat / 4 % 2 ≠ va.toNat / 4 % 2 := by
    have wrapped : (va + 4).toNat = (va.toNat + 4) % 2 ^ 32 := rfl
    omega
  have bits := congrArg (fun a : Word => a.getLsbD 2) same
  simp only [bit, decide_eq_decide] at bits
  omega

/-! Pairs (R507, R508). -/

theorem unalignedPair_eq_false {va : Word} (h : va.toNat % 8 = 0) : unalignedPair va = false := by
  rw [unalignedPair, bne_eq_false_iff_eq, BitVec.toNat_eq, field_toNat, Nat.pow_zero, Nat.div_one]
  exact h

theorem eq_fourteen_of_next {rd : Reg} (h : rd + 1 = 15) : rd = 14 := by
  revert rd
  decide

theorem ne_pc_of_even {rd : Reg} (h : rd.toNat % 2 = 0) : rd ≠ 15 := by
  rintro rfl
  cases h

theorem reg_ne_next (rd : Reg) : rd ≠ rd + 1 := by
  revert rd
  decide

section

variable {s : State} {c : Cond} {ix : Indexing} {u : Bool} {rn rd : Reg} {off : Offset3}
variable (hc : s.passed c = true) (even : rd.toNat % 2 = 0) (notLast : rd ≠ 14) (post : ix ≠ .postW)
variable (base : ix = .offset ∨ (rn ≠ 15 ∧ rn ≠ rd)) (noPc : off.namesPc = false) (alone : s.midBus = [])
variable (aligned : (s.address3 ix u rn off).va.toNat % 8 = 0)
variable (direct : s.Direct (s.address3 ix u rn off).va .word) (direct' : s.Direct ((s.address3 ix u rn off).va + 4) .word)
variable (hn : s.hasNext)

include hc even notLast post base noPc alone aligned direct direct' hn

/-- LDRD reads both words, writes the base, and then the pair. -/
theorem Loads.ldrd (base' : ix = .offset ∨ rn ≠ rd + 1) (first : off.reg? ≠ some rd) (second : off.reg? ≠ some (rd + 1)) :
    Loads (exec (.ldrd c ix u rn rd off) s) s s.mode
      ([(rd, s.directValue (s.address3 ix u rn off).va .word), (rd + 1, s.directValue ((s.address3 ix u rn off).va + 4) .word)] ++
        baseWrites rn (s.address3 ix u rn off).newBase) := by
  obtain ⟨s1, read1, noted1⟩ := direct.memRead s.privileged
  obtain ⟨s2, read2, noted2⟩ := (noted1.direct direct').memRead s.privileged
  rw [noted1.directValue] at read2
  have noted := noted1.trans noted2
  have gap : s1.busGap = s1 := State.busGap_alone (by rw [noted1.eq]; exact alone)
  have good : badLdrd ix rn rd off = false := by
    have moved : (ix.writesBack && rn == nextReg rd) = false := by
      rw [Bool.eq_false_iff, ne_eq, Bool.and_eq_true, Indexing.writesBack_iff, beq_iff_eq, not_and_or, not_not]
      exact base'
    simp only [badLdrd, moved, beq_false_of_ne notLast, badMode3_eq_false noPc post base, Bool.or_self,
      beq_eq_false_iff_ne.mpr first, beq_eq_false_iff_ne.mpr (show off.reg? ≠ some (nextReg rd) from second)]
  have run : exec (.ldrd c ix u rn rd off) s =
      (((s2.writeBase rn (s.address3 ix u rn off).newBase).setReg rd (s.directValue (s.address3 ix u rn off).va .word)).setReg
        (rd + 1) (s.directValue ((s.address3 ix u rn off).va + 4) .word)).advance := by
    show execLdrd c ix u rn rd off s = _
    simp only [execLdrd, hc, bitAt_zero_of_even even, good, unalignedPair_eq_false aligned, if_true, Bool.false_eq_true,
      if_false, read1, gap, read2]
    rfl
  have mode : s2.mode = s.mode := by rw [State.mode, State.mode, noted.core]
  have written (y) (hy : y ∈ baseWrites rn (s.address3 ix u rn off).newBase) : y.1 ≠ 15 ∧ y.1 ≠ rd ∧ y.1 ≠ rd + 1 := by
    obtain ⟨some, rfl⟩ := eq_of_mem_baseWrites hy
    have moves := (indexedAddress_newBase_isSome ix u _ _).mp some
    exact ⟨(base.resolve_left moves).1, (base.resolve_left moves).2, base'.resolve_left moves⟩
  have based := RegsWritten.writeBase s2 (b := (s.address3 ix u rn off).newBase) fun some =>
    (indexedAddress_base base u _ _ some).1
  have one := based.setReg (ne_pc_of_even even) (s.directValue (s.address3 ix u rn off).va .word) (fun y hy => (written y hy).1)
    fun y hy => (written y hy).2.1
  have two := one.setReg (mt eq_fourteen_of_next notLast) (s.directValue ((s.address3 ix u rn off).va + 4) .word)
    (fun y hy => (List.mem_append.mp hy).elim (fun h => (written y h).1)
      fun h => List.mem_singleton.mp h ▸ ne_pc_of_even even)
    (fun y hy => (List.mem_append.mp hy).elim (fun h => (written y h).2.2) fun h => List.mem_singleton.mp h ▸ reg_ne_next rd)
  rw [mode] at two
  obtain ⟨t, done, loaded⟩ := Loads.of_regs noted two hn
  refine ⟨t, run.trans done, { loaded with regs := loaded.regs.of_mem_iff fun x => ?_ }⟩
  simp only [List.mem_append, List.mem_cons, List.not_mem_nil, or_false]
  tauto

/-- STRD stores both words and writes the base. -/
theorem strd_completes (canonical : s.memCanonical = true) :
    ∃ t v w, exec (.strd c ix u rn rd off) s = .next t ∧
      BytesStored s v (s.directLane (s.address3 ix u rn off).va .word) (s.reg rd) 4 ∧
      BytesStored v w (v.directLane ((s.address3 ix u rn off).va + 4) .word) (s.reg (rd + 1)) 4 ∧
      TransferDone s w t s.mode (baseWrites rn (s.address3 ix u rn off).newBase) := by
  obtain ⟨v, run1, stored1⟩ := direct.write_stores canonical (s.reg rd) s.privileged
  obtain ⟨w, run2, stored2⟩ := (stored1.direct direct').write_stores stored1.canonical (s.reg (rd + 1)) s.privileged
  have gap : v.busGap = v := State.busGap_alone (stored1.midBus.trans alone)
  have core : w.core = s.core := stored2.core.trans stored1.core
  have run : exec (.strd c ix u rn rd off) s = (w.writeBase rn (s.address3 ix u rn off).newBase).advance := by
    show execStrd c ix u rn rd off s = _
    simp only [execStrd, hc, bitAt_zero_of_even even, beq_false_of_ne notLast, badMode3_eq_false noPc post base,
      unalignedPair_eq_false aligned, Bool.or_self, if_true, Bool.false_eq_true, if_false, run1, gap]
    rw [show nextReg rd = rd + 1 from rfl, run2]
  have based := RegsWritten.writeBase w (b := (s.address3 ix u rn off).newBase) fun some =>
    (indexedAddress_base base u _ _ some).1
  rw [show w.mode = s.mode by rw [State.mode, State.mode, core]] at based
  obtain ⟨t, next, done⟩ := based.advance core hn
  exact ⟨t, v, w, run.trans next, stored1, stored2, done⟩

end

/-- Settles O37: the words of the pair, one after the other, and then the registers. -/
theorem doublewordTransfers : Obligations.DoublewordTransfers := by
  intro s c ix u rn rd off va hc even notLast post base noPc alone aligned direct direct' hn
  have address : (s.address3 ix u rn off).va = va := s.address3_va ix u rn off
  have list : baseWrites rn (s.address3 ix u rn off).newBase = baseAfter ix u rn (s.reg rn) (s.offset3 off) :=
    baseWrites_indexedAddress ix u rn _ _
  rw [← address] at aligned direct direct'
  rw [← address, ← list]
  refine ⟨fun base' first second =>
    Loads.ldrd hc even notLast post base noPc alone aligned direct direct' hn base' first second, fun canonical => ?_⟩
  obtain ⟨t, v, w, run, stored1, stored2, done⟩ :=
    strd_completes hc even notLast post base noPc alone aligned direct direct' hn canonical
  have core := done.core
  refine ⟨t, run, done.regs, by rw [core], by rw [core], by rw [core], by rw [core], ?first, ?second, fun pa out1 out2 => ?others,
    done.btb.trans (stored2.btb.trans stored1.btb), (stored1.elsewhere.trans stored2.elsewhere).trans done.elsewhere⟩
  case first =>
    have apart := (v.directLane_next_ne (s.address3 ix u rn off).va).symm
    rw [done.directValue, stored2.directValue_other apart, stored1.directValue_same]
  case second => rw [done.directValue, stored2.directValue_same]
  case others =>
    rw [stored1.directLane] at stored2
    rw [done.memByte, stored2.others pa fun i hi same => out2 ⟨i, hi, same⟩,
      stored1.others pa fun i hi same => out1 ⟨i, hi, same⟩]

/-! Swaps (R530, R531). -/

/-- A store after accesses that only read. -/
theorem BytesStored.of_noted {s u t : State} {pa v : Word} {n : Nat} (noted : OnlyNoted s u) (h : BytesStored u t pa v n) :
    BytesStored s t pa v n where
  toStoredOnly := noted.storedOnly.trans h.toStoredOnly
  canonical := h.canonical
  stored := h.stored
  others a ha := by rw [h.others a ha, State.memByte, State.memByte, noted.mem]

/-- A store that reaches memory puts its bytes. -/
theorem State.Direct.storeAt_stores {s : State} {va : Word} {w : Width} (h : s.Direct va w) (canonical : s.memCanonical = true)
    (v : Word) :
    ∃ t, s.storeAt (flatTarget (s.mva va)) w v = .ok t ∧ BytesStored s t (s.directLane va w) v w.bytes := by
  obtain ⟨t, run, frame, elsewhere⟩ := h.storeAt v
  have put : t.mem = (s.putBytes (s.directLane va w) v w.bytes).mem := by rw [frame]
  have pending : t.pending = s.pending := by rw [frame]
  exact ⟨t, run, .of_put w.bytes_le_four canonical elsewhere put (by rw [put, pending]; exact frame)⟩

/-- The load and the store of a swap: the old value is read before the bytes are put. -/
theorem State.Direct.swap {s : State} {va : Word} {w : Width} (h : s.Direct va w) (canonical : s.memCanonical = true) (v : Word) :
    ∃ n m t, s.prepareSwap va w s.privileged = .ok (flatTarget (s.mva va)) n ∧
      n.loadAt (flatTarget (s.mva va)) w = .ok (s.directValue va w, m) ∧
      m.storeAt (flatTarget (s.mva va)) w v = .ok t ∧ BytesStored s t (s.directLane va w) v w.bytes := by
  have noted := OnlyNoted.noteAccess s w (s.mva va) true
  obtain ⟨n, hn⟩ : ∃ n, n = s.noteAccess w (s.mva va) true := ⟨_, rfl⟩
  rw [← hn] at noted
  obtain ⟨m, load, frame, elsewhere⟩ := (noted.direct h).loadAt
  rw [noted.mva, noted.directValue] at load
  have noted' : OnlyNoted s m := noted.trans ⟨by rw [frame], elsewhere⟩
  obtain ⟨t, store, stored⟩ := (noted'.direct h).storeAt_stores (by rw [State.memCanonical, noted'.mem]; exact canonical) v
  rw [noted'.mva] at store
  have lane : m.directLane va w = s.directLane va w := by rw [noted'.eq]; rfl
  rw [lane] at stored
  exact ⟨n, m, t, by rw [State.prepareSwap_eq, h.prepare, hn], load, store, .of_noted noted' stored⟩

/-- A swap of a register that is not the base. -/
theorem Stores.swap {s : State} {rn rd rm : Reg} {w : Width} (direct : s.Direct (s.reg rn) w) (hn : s.hasNext)
    (canonical : s.memCanonical = true) (hd : rd ≠ 15) (conv : Word → Word → Word) (abort : State → AbortInfo → Result) :
    Stores (s.swap w rn rd rm conv abort) s (s.reg rn) w (s.reg rm)
      [(rd, conv (s.reg rn) (s.directValue (s.reg rn) w))] := by
  obtain ⟨n, m, t, prepared, load, store, stored⟩ := direct.swap canonical (s.reg rm)
  have drained : t.drainWrites = t := by
    have empty : t.writeBuf = [] := by rw [stored.eq]; exact direct.noWrite
    have none : t.fillBuf = [] := by rw [stored.eq]; exact direct.noFill
    rw [← State.drainAll_settled none, State.drainAll_empty none empty]
  have mode : t.mode = s.mode := stored.mode
  have wrote := RegsWritten.setReg (.refl t t.mode) hd (conv (s.reg rn) (s.directValue (s.reg rn) w)) nofun nofun
  rw [mode] at wrote
  have done := Stores.of_regs stored wrote hn
  simp only [State.swap, prepared, load, store, drained, ite_self]
  exact done

theorem badSwap_eq_false {rn rd rm : Reg} (hn : rn ≠ 15) (hd : rd ≠ 15) (hm : rm ≠ 15) (h : rn ≠ rm) (h' : rn ≠ rd) :
    badSwap rn rd rm = false := by
  rw [Bool.eq_false_iff, ne_eq, badSwap_iff]
  simp only [hn, hd, hm, h, h', or_self, not_false_eq_true]

/-- Settles O41: what both swaps do, with the conversion of the value that each loads. -/
theorem swapResult : Obligations.SwapResult := by
  intro s c rn rd rm hc next canonical hn hd hm h h' va
  have good := badSwap_eq_false hn hd hm h h'
  refine ⟨fun notDbg direct => ?swp, fun direct => ?swpb⟩
  case swp =>
    have run : exec (.swp c rn rd rm) s =
        s.swap .word rn rd rm rotateRead (fun t i => t.abortMultiple i t.mode (addReg rd 0)) := by
      show execSwp c rn rd rm s = _
      rw [execSwp, if_pos hc, if_neg (mt beq_iff_eq.mp notDbg), good, if_neg Bool.false_ne_true]
    rw [run, ← rotateRead_eq_rotated]
    exact Stores.swap direct next canonical hd rotateRead _
  case swpb =>
    have run : exec (.swpb c rn rd rm) s =
        s.swap .byte rn rd rm (fun _ v => v) (fun t i => t.abortSingle i false rn none (addReg rd 0)) := by
      show execSwpb c rn rd rm s = _
      rw [execSwpb, if_pos hc, good, if_neg Bool.false_ne_true]
    rw [run]
    exact Stores.swap direct next canonical hd (fun _ v => v) _

end Sys2Proof.Machine
end

section
/-! PROOF. The multiple transfers read and write their words one after the other, in the order of their registers
(44_arm_load_store.md R520-R524). -/

namespace Sys2Proof.Machine

/-! Lists of registers (R520). -/

theorem listRegs_nodup (l : BitVec 16) : (listRegs l).Nodup :=
  List.Nodup.filter _ (by decide)

theorem mem_listRegs {l : BitVec 16} {r : Reg} : r ∈ listRegs l ↔ bitAt l r.toNat = true := by
  have all : ∀ r : Reg, r ∈ ([0, 1, 2, 3, 4, 5, 6, 7] : List Reg) ++ [8, 9, 10, 11, 12, 13, 14, 15] := by decide
  rw [listRegs, List.mem_filter, and_iff_right (all r)]

/-- R15 comes last. -/
theorem listRegs_split (l : BitVec 16) : listRegs l = listRegs (l &&& 0x7FFF) ++ if bitAt l 15 then [15] else [] := by
  have bits {r : Reg} (h : r ∈ ([0, 1, 2, 3, 4, 5, 6, 7] : List Reg) ++ [8, 9, 10, 11, 12, 13, 14]) :
      bitAt (l &&& 0x7FFF) r.toNat = bitAt l r.toNat := by
    have mask : ∀ r ∈ ([0, 1, 2, 3, 4, 5, 6, 7] : List Reg) ++ [8, 9, 10, 11, 12, 13, 14],
        (0x7FFF : BitVec 16).getLsbD r.toNat = true := by decide
    rw [bitAt, BitVec.getLsbD_and, mask r h, Bool.and_true]
  have last (x : BitVec 16) : listRegs x =
      (([0, 1, 2, 3, 4, 5, 6, 7] : List Reg) ++ [8, 9, 10, 11, 12, 13, 14]).filter (fun r => bitAt x r.toNat) ++
        if bitAt x 15 then [15] else [] := by
    have split : ([0, 1, 2, 3, 4, 5, 6, 7] : List Reg) ++ [8, 9, 10, 11, 12, 13, 14, 15] =
        (([0, 1, 2, 3, 4, 5, 6, 7] : List Reg) ++ [8, 9, 10, 11, 12, 13, 14]) ++ [15] := rfl
    rw [listRegs, split, List.filter_append, List.filter_singleton, Bool.cond_eq_ite]
    rfl
  have none : bitAt (l &&& 0x7FFF) 15 = false := by
    rw [bitAt, BitVec.getLsbD_and, show (0x7FFF : BitVec 16).getLsbD 15 = false from rfl, Bool.and_false]
  rw [last l, last (l &&& 0x7FFF), none, if_neg Bool.false_ne_true, List.append_nil]
  congr 1
  exact (List.filter_congr fun r h => bits h).symm

/-- The table of R520. -/
theorem blockAddress_rows (b : Word) (n : Nat) : ∀ r ∈ blockRows b n, blockAddress r.1 b n = r.2 := by
  have size : BitVec.ofNat 32 (4 * n) = 4 * BitVec.ofNat 32 n := BitVec.ofNat_mul 4 n
  simp only [blockRows, List.forall_mem_cons, List.not_mem_nil, false_implies, implies_true, blockAddress, size,
    and_self]

/-! Blocks of words. -/

theorem blockWord_zero (va : Word) : va + BitVec.ofNat 32 (4 * 0) = va := BitVec.add_zero va

theorem blockWord_succ (va : Word) (k : Nat) : va + BitVec.ofNat 32 (4 * (k + 1)) = va + 4 + BitVec.ofNat 32 (4 * k) := by
  rw [Nat.mul_succ, BitVec.ofNat_add, BitVec.add_comm (BitVec.ofNat 32 (4 * k)), ← BitVec.add_assoc]
  rfl

namespace State.DirectBlock

variable {s : State} {va : Word} {n : Nat}

theorem head (h : s.DirectBlock va (n + 1)) : s.Direct va .word := by
  have first := h.words 0 n.succ_pos
  rwa [blockWord_zero] at first

theorem tail (h : s.DirectBlock va (n + 1)) : s.DirectBlock (va + 4) n :=
  ⟨h.alone, fun i hi => blockWord_succ va i ▸ h.words (i + 1) (Nat.succ_lt_succ hi)⟩

/-- Accesses leave a block where it is. -/
theorem of_storedOnly (h : s.DirectBlock va n) {t : State} (k : StoredOnly s t) : t.DirectBlock va n :=
  ⟨k.midBus.trans h.alone, fun i hi => k.direct (h.words i hi)⟩

end State.DirectBlock

theorem State.directBlock_append (s : State) (va : Word) (l l' : List Reg) :
    s.directBlock va (l ++ l') = s.directBlock va l ++ s.directBlock (va + BitVec.ofNat 32 (4 * l.length)) l' := by
  induction l generalizing va with
  | nil => rw [List.length_nil, blockWord_zero]; rfl
  | cons r t ih => rw [List.length_cons, blockWord_succ, List.cons_append, State.directBlock, ih]; rfl

theorem State.directBlock_regs (s : State) (va : Word) (l : List Reg) : (s.directBlock va l).map Prod.fst = l := by
  induction l generalizing va with
  | nil => rfl
  | cons r t ih => rw [State.directBlock, List.map_cons, ih]

theorem OnlyNoted.directBlock {s t : State} (h : OnlyNoted s t) (va : Word) (l : List Reg) :
    t.directBlock va l = s.directBlock va l := by
  induction l generalizing va with
  | nil => rfl
  | cons r l ih => rw [State.directBlock, State.directBlock, ih, h.directValue]

/-! Loading (R521-R523). -/

/-- The words of a block are read in order. -/
theorem State.DirectBlock.readBlock {s : State} {va : Word} {l : List Reg} (h : s.DirectBlock va l.length) (p : Bool) :
    ∃ t, s.readBlock va p l = .ok (s.directBlock va l) t ∧ OnlyNoted s t := by
  induction l generalizing s va with
  | nil => exact ⟨s, rfl, rfl, .refl s⟩
  | cons r l ih =>
    obtain ⟨s1, read, noted⟩ := h.head.memRead p
    have next : (if l.isEmpty then s1 else s1.busGap) = s1 := by
      rw [State.busGap_alone (noted.storedOnly.midBus.trans h.alone), ite_self]
    obtain ⟨t, rest, noted'⟩ := ih (h.tail.of_storedOnly noted.storedOnly)
    refine ⟨t, ?_, noted.trans noted'⟩
    simp only [State.readBlock, read, next, rest, BlockRead.cons, State.directBlock, noted.directBlock]

/-- The registers of a block are written, none of them twice. -/
theorem RegsWritten.setBlockRegs (v : State) (m : Mode) {l : List (Reg × Word)} (own : ∀ x ∈ l, x.1 ≠ 15)
    (once : (l.map Prod.fst).Nodup) : RegsWritten v (v.setBlockRegs m l) m l := by
  induction l generalizing v with
  | nil => exact .refl v m
  | cons x l ih =>
    obtain ⟨fresh, once⟩ := List.nodup_cons.mp once
    obtain ⟨hx, own⟩ := List.forall_mem_cons.mp own
    have rest := (RegsWritten.setBankedReg v m x.1 x.2).append (ih (v.setBankedReg m x.1 x.2) own once)
      (fun y hy => List.mem_singleton.mp hy ▸ hx) own
      (fun y hy z hz same => fresh (by rw [← show y = x from List.mem_singleton.mp hy, same]; exact List.mem_map_of_mem hz))
    rw [State.setBlockRegs, if_neg hx]
    exact rest

theorem State.setBlockRegs_append (v : State) (m : Mode) (l l' : List (Reg × Word)) :
    v.setBlockRegs m (l ++ l') = (v.setBlockRegs m l).setBlockRegs m l' := by
  induction l generalizing v with
  | nil => rfl
  | cons x l ih => exact ih _

theorem pcValue_append {l : List (Reg × Word)} (own : ∀ x ∈ l, x.1 ≠ 15) (l' : List (Reg × Word)) :
    pcValue (l ++ l') = pcValue l' := by
  induction l with
  | nil => rfl
  | cons x l ih =>
    obtain ⟨hx, own⟩ := List.forall_mem_cons.mp own
    rw [List.cons_append, pcValue, if_neg hx, ih own]

/-- The registers below R15 that a load multiple writes, and then the base (R520, R521). -/
def State.blockWrites (s : State) (mode : BlockMode) (w : Bool) (rn : Reg) (list : BitVec 16) : List (Reg × Word) :=
  s.directBlock (blockAddress mode (s.reg rn) (listRegs list).length).1 (listRegs (list &&& 0x7FFF)) ++
    if w then [(rn, (blockAddress mode (s.reg rn) (listRegs list).length).2)] else []

/-- The word that a load multiple reads for R15. -/
def State.blockPc (s : State) (mode : BlockMode) (rn : Reg) (list : BitVec 16) : Word :=
  s.directValue ((blockAddress mode (s.reg rn) (listRegs list).length).1 +
    BitVec.ofNat 32 (4 * (listRegs (list &&& 0x7FFF)).length)) .word

/-- A load multiple from memory reads its words, writes its registers and ends with the word of R15, where there is one. -/
theorem State.loadMultiple_direct {s : State} {mode : BlockMode} {w : Bool} {rn : Reg} {list : BitVec 16} {m : Mode}
    (direct : s.DirectBlock (blockAddress mode (s.reg rn) (listRegs list).length).1 (listRegs list).length)
    (base : w = true → rn ≠ 15 ∧ bitAt list rn.toNat = false ∧ m = s.mode) (finish : State → Option Word → Result) :
    ∃ v u, s.loadMultiple mode w rn list m finish =
        finish u (if bitAt list 15 then some (s.blockPc mode rn list) else none) ∧
      OnlyNoted s v ∧ RegsWritten v u m (s.blockWrites mode w rn list) := by
  obtain ⟨v, read, noted⟩ := direct.readBlock s.privileged
  obtain ⟨start, hs⟩ : ∃ start, start = (blockAddress mode (s.reg rn) (listRegs list).length).1 := ⟨_, rfl⟩
  rw [← hs] at read
  obtain ⟨low, hl⟩ : ∃ low, low = s.directBlock start (listRegs (list &&& 0x7FFF)) := ⟨_, rfl⟩
  have regs : low.map Prod.fst = listRegs (list &&& 0x7FFF) := hl ▸ s.directBlock_regs start _
  have own : ∀ x ∈ low, x.1 ≠ 15 := fun x hx => listRegs_ne_pc list x.1 (regs ▸ List.mem_map_of_mem hx)
  have values : s.directBlock start (listRegs list) =
      low ++ if bitAt list 15 then [(15, s.blockPc mode rn list)] else [] := by
    rw [listRegs_split list, State.directBlock_append, hl]
    cases bitAt list 15
    · rfl
    · rw [if_pos rfl, if_pos rfl, State.blockPc, ← hs]
      rfl
  have written : v.setBlockRegs m (s.directBlock start (listRegs list)) = v.setBlockRegs m low := by
    rw [values, State.setBlockRegs_append]
    cases bitAt list 15 <;> rfl
  have pc : pcValue (s.directBlock start (listRegs list)) =
      if bitAt list 15 then some (s.blockPc mode rn list) else none := by
    rw [values, pcValue_append own]
    cases bitAt list 15 <;> rfl
  have block := RegsWritten.setBlockRegs v m own (regs ▸ listRegs_nodup _)
  refine ⟨v, (v.setBlockRegs m low).writeBase rn
    (if w then some (blockAddress mode (s.reg rn) (listRegs list).length).2 else none), ?run, noted, ?regs⟩
  case run => simp only [State.loadMultiple, read, ← hs, written, pc]
  case regs =>
    rw [State.blockWrites, ← hs, ← hl]
    cases w with
    | false => exact (List.append_nil low).symm ▸ block
    | true =>
      obtain ⟨hn, unlisted, rfl⟩ := base rfl
      have mode : v.mode = s.mode := by rw [State.mode, State.mode, noted.core]
      rw [← mode] at block ⊢
      refine block.setReg hn _ own fun y hy same => ?_
      have listed : bitAt list rn.toNat = true := by
        rw [← mem_listRegs, listRegs_split]
        exact List.mem_append_left _ (same ▸ regs ▸ List.mem_map_of_mem hy)
      exact absurd (listed.symm.trans unlisted) Bool.false_ne_true.symm

/-! Storing (R524). -/

/-- Values are stored in the words of a block, one after the other. -/
structure WordsStored (s t : State) (va : Word) (values : List Word) : Prop extends StoredOnly s t where
  words : ∀ (k : Nat) (x : Word), values[k]? = some x → t.directValue (va + BitVec.ofNat 32 (4 * k)) .word = x
  others : ∀ pa, (∀ k < values.length, ¬ s.storedAt (va + BitVec.ofNat 32 (4 * k)) .word pa) → t.memByte pa = s.memByte pa

/-- No two words of a block lie in the same place. -/
def State.Apart (s : State) (va : Word) (n : Nat) : Prop :=
  ∀ j k, j < k → k < n →
    s.directLane (va + BitVec.ofNat 32 (4 * j)) .word ≠ s.directLane (va + BitVec.ofNat 32 (4 * k)) .word

theorem State.Apart.tail {s t : State} {va : Word} {n : Nat} (h : s.Apart va (n + 1)) (k : StoredOnly s t) :
    t.Apart (va + 4) n := by
  intro i j hij hj
  rw [k.directLane, k.directLane, ← blockWord_succ, ← blockWord_succ]
  exact h (i + 1) (j + 1) (Nat.succ_lt_succ hij) (Nat.succ_lt_succ hj)

theorem StoredOnly.storedAt {s t : State} (h : StoredOnly s t) (va : Word) (w : Width) (pa : Word) :
    t.storedAt va w pa ↔ s.storedAt va w pa := by
  rw [State.storedAt, State.storedAt, h.directLane]

/-- A word in another place than all of them is read as before. -/
theorem WordsStored.directValue_other {s t : State} {va vb : Word} {values : List Word} (h : WordsStored s t va values)
    (apart : ∀ k < values.length, s.directLane vb .word ≠ s.directLane (va + BitVec.ofNat 32 (4 * k)) .word) :
    t.directValue vb .word = s.directValue vb .word := by
  rw [State.directValue, h.directLane]
  refine gather_congr (w := .word) fun i hi => h.others _ ?_
  rintro k hk ⟨j, hj, same⟩
  exact wordBytes_ne (s.directLane_word_mod vb) (s.directLane_word_mod _) (apart k hk) hi hj same

theorem State.DirectBlock.writeBlockRegs {s : State} {va : Word} {l : List (Reg × Word)} (h : s.DirectBlock va l.length)
    (canonical : s.memCanonical = true) (apart : s.Apart va l.length) (p : Bool) :
    ∃ t, s.writeBlockRegs 0xFFFF va p l = .ok t ∧ WordsStored s t va (l.map Prod.snd) := by
  induction l generalizing s va with
  | nil => exact ⟨s, rfl, ⟨rfl, .refl s⟩, nofun, fun _ _ => rfl⟩
  | cons x l ih =>
    obtain ⟨s1, run, stored⟩ := h.head.write_stores canonical x.2 p
    have only := stored.toStoredOnly
    have next : (if l.isEmpty then s1 else s1.busGap) = s1 := by
      rw [State.busGap_alone (only.midBus.trans h.alone), ite_self]
    have kept : ∀ r : Reg, bitAt (0xFFFF : BitVec 16) r.toNat = true := by decide
    obtain ⟨t, rest, done⟩ := ih (h.tail.of_storedOnly only) stored.canonical (apart.tail only)
    refine ⟨t, ?run, only.trans done.toStoredOnly, fun k y hk => ?words, fun pa outside => ?others⟩
    case run =>
      simp only [State.writeBlockRegs, State.writeWord, kept, if_true, run, next, rest, BlockWrite.succ]
    case words =>
      cases k with
      | zero =>
        obtain rfl : x.2 = y := Option.some.inj hk
        rw [blockWord_zero, done.directValue_other fun k hk => ?_, stored.directValue_same]
        rw [only.directLane, only.directLane, ← blockWord_succ]
        have first := apart 0 (k + 1) k.succ_pos (Nat.succ_lt_succ (by simpa using hk))
        rwa [blockWord_zero] at first
      | succ k => rw [blockWord_succ]; exact done.words k y hk
    case others =>
      rw [done.others pa fun k hk => ?_, stored.others pa fun i hi same => ?_]
      · exact outside 0 (by simp) ⟨i, hi, by rw [blockWord_zero]; exact same⟩
      · rw [only.storedAt, ← blockWord_succ]
        exact outside (k + 1) (by simpa using hk)

end Sys2Proof.Machine
end

section
/-! PROOF. LDM and STM on memory complete (44_arm_load_store.md R520-R524). -/

namespace Sys2Proof.Machine

/-! Lists with and without R15 (R522, R523). -/

theorem bitAt_low_append (b : BitVec 1) (low : BitVec 15) {r : Reg} (h : r ≠ 15) :
    bitAt (b ++ low) r.toNat = bitAt low r.toNat := by
  have small : ∀ r : Reg, r ≠ 15 → r.toNat < 15 := by decide
  rw [bitAt, BitVec.getLsbD_append, if_pos (small r h)]

theorem bitAt_append_fifteen (b : BitVec 1) (low : BitVec 15) : bitAt (b ++ low) 15 = b.getLsbD 0 := by
  rw [bitAt, BitVec.getLsbD_append, if_neg (by decide)]

theorem zero_append_ne {low : BitVec 15} (h : low ≠ 0) : (0#1 ++ low : BitVec 16) ≠ 0 := by
  intro zero
  refine h (BitVec.eq_of_getLsbD_eq fun i hi => ?_)
  have bit := congrArg (fun l : BitVec 16 => l.getLsbD i) zero
  simp only [BitVec.getLsbD_append, hi, if_true, BitVec.ofNat_eq_ofNat, BitVec.getLsbD_zero] at bit ⊢
  exact bit

theorem listRegs_low {l : BitVec 16} (h : bitAt l 15 = false) : listRegs (l &&& 0x7FFF) = listRegs l := by
  rw [listRegs_split l, h, if_neg Bool.false_ne_true, List.append_nil]

theorem badBlock_eq_false {rn : Reg} {list : BitVec 16} (hn : rn ≠ 15) (h : list ≠ 0) : badBlock rn list = false := by
  rw [Bool.eq_false_iff, ne_eq, badBlock_iff, not_or]
  exact ⟨h, hn⟩

/-! The return of LDM(3) (R523). -/

theorem SameElsewhere.setSds {s t : State} (h : SameElsewhere s t) (b : Bool) :
    SameElsewhere { s with sds := b } { t with sds := b } :=
  ⟨congrArg (fun z : State => { z with sds := b }) h.rest, h.counters, h.tracing⟩

/-- A return of a state in which only registers and what a read notes differ. -/
theorem RegsWritten.returnTo {s v u : State} {m : Mode} {l : List (Reg × Word)} (noted : OnlyNoted s v) (h : RegsWritten v u m l)
    {x : Word} {m' : Mode} (value : Word) (saved : s.spsrOf s.mode = some x) (legal : Mode.ofBits (field x 0 5) = some m')
    (notDbg : m' ≠ .dbg) :
    ∃ t, u.returnTo value = .next t ∧ WritesBank s t m l ∧
      t.core = { s.core with
        regs := t.core.regs, cpsr := x, pc := value &&& (if bitAt x 5 then 0xFFFFFFFE else 0xFFFFFFFC) } ∧
      SameMemory s t ∧ t.btb = s.btb ∧ SameElsewhere { s with sds := false } t := by
  have core : u.core = { s.core with regs := u.core.regs } := by rw [h.eq, noted.core]
  have same : u.spsrOf u.mode = s.spsrOf s.mode := by rw [State.spsrOf, State.mode, core]; rfl
  obtain ⟨t, run, tcore, -, memory, btb, elsewhere⟩ := State.returnTo_of_spsr value (same.trans saved) legal notDbg
  have regs : t.core.regs = u.core.regs := by rw [tcore]
  have wrote : SameElsewhere v u := by rw [h.eq]; exact .here v _ v.mem v.btb
  have bank := h.regs.of_core noted.core
  refine ⟨t, run, ⟨fun y hy => ?written, fun p hp => ?others⟩, ?core, fun pa => ?memory, ?btb,
    ((noted.elsewhere.trans wrote).setSds false).trans elsewhere⟩
  case written => rw [State.bankedReg, regs]; exact bank.written y hy
  case others => rw [regs]; exact bank.others p hp
  case core => rw [regs, tcore, core]
  case memory => rw [memory pa, State.memByte, State.memByte, h.eq, ← noted.mem]
  case btb => rw [btb, h.eq, noted.btb]

/-- A branch of such a state, with its registers. -/
theorem RegsWritten.jumpExchange {s v u : State} {m : Mode} {l : List (Reg × Word)} (noted : OnlyNoted s v)
    (h : RegsWritten v u m l) (x : Word) :
    if bitAt x 0 = false ∧ bitAt x 1 = true then u.jumpExchange x = .refused .unalignedTarget
    else ∃ t, u.jumpExchange x = .next t ∧ WritesBank s t m l ∧
      t.core = { exchangeCore s.core x with regs := t.core.regs } ∧ SameMemory s t ∧ t.btb = s.btb ∧ SameElsewhere s t := by
  have branch := Exchanges.of_regs noted h (u.jumpExchange_exchanges x)
  have core : u.core = { s.core with regs := u.core.regs } := by rw [h.eq, noted.core]
  unfold Exchanges at branch
  split
  · rwa [if_pos ‹_›] at branch
  · rw [if_neg ‹_›] at branch
    obtain ⟨t, run, tcore, memory, btb, -, -, elsewhere⟩ := branch
    have regs : t.core.regs = u.core.regs := by rw [tcore, exchangeCore]
    have bank := h.regs.of_core noted.core
    refine ⟨t, run, ⟨fun y hy => ?_, fun p hp => ?_⟩, ?_, memory, btb, elsewhere⟩
    · rw [State.bankedReg, regs]; exact bank.written y hy
    · rw [regs]; exact bank.others p hp
    · rw [regs, tcore, core, exchangeCore, exchangeCore]

/-! How the load multiples run once their operands are allowed. -/

section

variable {s : State} {c : Cond} {m : BlockMode} {w : Bool} {rn : Reg} (hc : s.passed c = true) (notDbg : s.mode ≠ .dbg)
variable (hn : rn ≠ 15)

include hc notDbg hn

theorem exec_ldm_good {list : BitVec 16} (some : list ≠ 0) (base : w = true → bitAt list rn.toNat = false) :
    exec (.ldm c m w rn list) s = s.loadMultiple m w rn list s.mode finishLdm := by
  have unlisted : (w && bitAt list rn.toNat) = false := by
    cases w with
    | false => rfl
    | true => exact base rfl
  show execLdm c m w rn list s = _
  rw [execLdm, if_pos hc, if_neg (mt beq_iff_eq.mp notDbg), badBlock_eq_false hn some, unlisted, Bool.or_self,
    if_neg Bool.false_ne_true]

theorem exec_ldmUser_good {low : BitVec 15} (some : low ≠ 0) (usr : s.mode ≠ .usr) (sys : s.mode ≠ .sys) :
    exec (.ldmUser c m false rn low) s = s.loadMultiple m false rn (0#1 ++ low) .usr finishLdm := by
  show execLdmUser c m false rn low s = _
  rw [execLdmUser, if_pos hc, if_neg (mt beq_iff_eq.mp notDbg), badBlock_eq_false hn (zero_append_ne some), State.badUserBlock,
    beq_false_of_ne usr, beq_false_of_ne sys, Bool.or_self, Bool.or_self, Bool.or_self, if_neg Bool.false_ne_true]

theorem exec_ldmRet_good {low : BitVec 15} {x : Word} (saved : s.spsrOf s.mode = some x)
    (base : w = true → bitAt low rn.toNat = false) :
    exec (.ldmRet c m w rn low) s = s.loadMultiple m w rn (1#1 ++ low) s.mode finishLdmRet := by
  have unlisted : (w && bitAt low rn.toNat) = false := by
    cases w with
    | false => rfl
    | true => exact base rfl
  have some : (1#1 ++ low : BitVec 16) ≠ 0 := by
    intro zero
    have last := bitAt_append_fifteen 1#1 low
    rw [zero] at last
    cases last
  show execLdmRet c m w rn low s = _
  rw [execLdmRet, if_pos hc, if_neg (mt beq_iff_eq.mp notDbg), saved, Option.isNone_some, if_neg Bool.false_ne_true,
    badBlock_eq_false hn some, unlisted, Bool.or_self, if_neg Bool.false_ne_true]

end

/-- Settles O39: the words of the block, and then the end of each form. -/
theorem loadMultiple : Obligations.LoadMultiple := by
  intro s c m w rn list low hc notDbg hn
  refine ⟨blockAddress_rows (s.reg rn), ?_⟩
  intro start wrote pcWord
  refine ⟨fun some base direct => ?ldm, fun some usr sys direct next => ?ldmUser,
    fun x m' saved legal notDbg' base direct => ?ldmRet⟩
  case ldm =>
    obtain ⟨v, u, run, noted, written⟩ := State.loadMultiple_direct (m := s.mode) direct
      (fun hw => ⟨hn, base hw, rfl⟩) finishLdm
    rw [exec_ldm_good hc notDbg hn some base, run]
    refine ⟨fun none next => ?sequence, fun pc => ?branch⟩
    case sequence =>
      rw [none, if_neg Bool.false_ne_true]
      exact Loads.of_regs noted written next
    case branch =>
      rw [pc, if_pos rfl]
      exact written.jumpExchange noted _
  case ldmUser =>
    have none : bitAt (0#1 ++ low) 15 = false := bitAt_append_fifteen 0#1 low
    obtain ⟨v, u, run, noted, written⟩ := State.loadMultiple_direct (m := .usr) (w := false) direct nofun finishLdm
    rw [exec_ldmUser_good hc notDbg hn some usr sys, run, none, if_neg Bool.false_ne_true]
    have loaded := Loads.of_regs noted written next
    rwa [State.blockWrites, if_neg Bool.false_ne_true, List.append_nil, listRegs_low none] at loaded
  case ldmRet =>
    have pc : bitAt (1#1 ++ low) 15 = true := bitAt_append_fifteen 1#1 low
    obtain ⟨v, u, run, noted, written⟩ := State.loadMultiple_direct (m := s.mode) (w := w) direct
      (fun hw => ⟨hn, (bitAt_low_append 1#1 low hn).trans (base hw), rfl⟩) finishLdmRet
    rw [exec_ldmRet_good hc notDbg hn saved base, run, pc, if_pos rfl]
    exact written.returnTo noted _ saved legal notDbg'

/-! Store multiples (R524). -/

/-- What is stored for R15, and for a register of the bank that is no written-back base above the lowest register. -/
theorem State.blockValue_eq (s : State) (bank : Mode) (w : Bool) (rn : Reg) (list : BitVec 16) (r : Reg) :
    (r = 15 → s.blockValue bank w rn list r = s.core.pc + storePcOffset) ∧
    (r ≠ 15 → (w = false ∨ r ≠ rn ∨ (listRegs list).head? = some rn) →
      s.blockValue bank w rn list r = s.bankedReg bank r) := by
  refine ⟨?_, fun hr known => ?_⟩
  · rintro rfl
    rfl
  · have own : (w && r == rn && (listRegs list).head? != some rn) = false := by
      rcases known with rfl | other | lowest
      · rfl
      · rw [beq_false_of_ne other, Bool.and_false, Bool.false_and]
      · rw [lowest, bne_self_eq_false, Bool.and_false]
    rw [State.blockValue, if_neg hr, own, if_neg Bool.false_ne_true]

/-- A store multiple to memory stores its registers and writes its base. -/
theorem BlockStored.storeMultiple {s : State} {m : BlockMode} {w : Bool} {rn : Reg} {list : BitVec 16} (bank : Mode)
    (hn : rn ≠ 15) (direct : s.DirectBlock (blockAddress m (s.reg rn) (listRegs list).length).1 (listRegs list).length)
    (canonical : s.memCanonical = true) (next : s.hasNext)
    (apart : s.Apart (blockAddress m (s.reg rn) (listRegs list).length).1 (listRegs list).length) :
    ∃ t, s.storeMultiple m w rn list bank = .next t ∧
      BlockStored s t (blockAddress m (s.reg rn) (listRegs list).length).1 bank w rn list
        (if w then [(rn, (blockAddress m (s.reg rn) (listRegs list).length).2)] else []) := by
  obtain ⟨a, ha⟩ : ∃ a, a = blockAddress m (s.reg rn) (listRegs list).length := ⟨_, rfl⟩
  obtain ⟨l, hl⟩ : ∃ l, l = (listRegs list).map fun r => (r, s.blockValue bank w rn list r) := ⟨_, rfl⟩
  have length : l.length = (listRegs list).length := by rw [hl, List.length_map]
  rw [← ha] at direct apart ⊢
  rw [← length] at direct apart
  have direct' : (s.consume 1).DirectBlock a.1 l.length :=
    ⟨direct.alone, fun i hi => (direct.words i hi).of_same rfl rfl rfl rfl rfl rfl rfl rfl⟩
  obtain ⟨v, run, stored⟩ := direct'.writeBlockRegs canonical apart (s.consume 1).privileged
  have core : v.core = s.core := stored.core
  have mode : v.mode = s.mode := stored.mode
  have based := RegsWritten.writeBase v (rn := rn) (b := if w then some a.2 else none) fun _ => hn
  rw [mode] at based
  obtain ⟨t, ended, done⟩ := based.advance core next
  have list' : baseWrites rn (if w then some a.2 else none) = if w then [(rn, a.2)] else [] := by cases w <;> rfl
  refine ⟨t, ?run, fun k r hk => ?words, fun pa outside => ?others, list' ▸ done.regs, ?pc, ?status, ?saved, ?accumulator,
    done.btb.trans stored.btb, ((SameElsewhere.consume s 1).trans stored.elsewhere).trans done.elsewhere⟩
  case run =>
    simp only [State.storeMultiple, ← ha, ← hl, run]
    exact ended
  case words =>
    have value : (l.map Prod.snd)[k]? = some (s.blockValue bank w rn list r) := by
      rw [hl, List.map_map, List.getElem?_map, hk]
      rfl
    rw [done.directValue, stored.words k _ value]
    exact s.blockValue_eq bank w rn list r
  case others =>
    rw [done.memByte]
    refine (stored.others pa fun k hk => ?_).trans rfl
    rw [List.length_map, length] at hk
    exact outside k hk
  case pc | status | saved | accumulator => rw [done.core]

/-- Settles O40: both forms store the block of their bank. -/
theorem storeMultiple : Obligations.StoreMultiple := by
  intro s c m w rn list n start lane hc hn some direct canonical next apart
  have good : badBlock rn list = false := badBlock_eq_false hn some
  refine ⟨blockAddress_rows (s.reg rn) n, ?stm, fun usr sys => ?stmUser⟩
  case stm =>
    have run : exec (.stm c m w rn list) s = s.storeMultiple m w rn list s.mode := by
      show execStm c m w rn list s = _
      rw [execStm, if_pos hc, good, if_neg Bool.false_ne_true]
    rw [run]
    exact BlockStored.storeMultiple s.mode hn direct canonical next apart
  case stmUser =>
    have run : exec (.stmUser c m false rn list) s = s.storeMultiple m false rn list .usr := by
      show execStmUser c m false rn list s = _
      rw [execStmUser, if_pos hc, good, State.badUserBlock, beq_false_of_ne usr, beq_false_of_ne sys, Bool.or_self, Bool.or_self,
        Bool.or_self, if_neg Bool.false_ne_true]
    rw [run]
    exact BlockStored.storeMultiple (w := false) .usr hn direct canonical next apart

end Sys2Proof.Machine
end

section
/-! PROOF. PLD starts a line fill or does nothing, and the data side sees every byte as before (44_arm_load_store.md R515;
20_memory.md R172, R209, R232, R246, R247). -/

namespace Sys2Proof.Machine

/-! When PLD starts a fill (R515, 20_memory.md R172; log entry 79). -/

/-- An entry of the TLB allows a line fill at an MVA, which is neither resident nor on its way. -/
structure State.Preloads (s : State) (mva : Word) (e : TlbEntry) : Prop where
  mmuOn : s.mmuOn = true
  dcacheOn : s.dcacheOn = true
  held : s.dtlb.lookup mva = some e
  allowed : s.checkAccess e mva s.privileged false = .ok none
  cacheable : e.c = true
  mini : (e.x && !e.b) = true → s.miniPolicy ≠ 3 ∧ s.cp15.dlock = false
  noLine : s.dataHit (lineOf mva) = none
  noFill : s.pendingFill (lineOf mva) = none

/-- What keeps PLD from a fill once its access is allowed. -/
theorem State.preloadBar_eq_false {s : State} {mva : Word} {e : TlbEntry} :
    (!e.c || (e.x && e.c && !e.b && (s.miniPolicy == 3 || s.cp15.dlock)) || (s.dataHit (lineOf mva)).isSome ||
        (s.pendingFill (lineOf mva)).isSome) = false ↔
      e.c = true ∧ ((e.x && !e.b) = true → s.miniPolicy ≠ 3 ∧ s.cp15.dlock = false) ∧ s.dataHit (lineOf mva) = none ∧
        s.pendingFill (lineOf mva) = none := by
  simp only [Bool.or_eq_false_iff, Bool.not_eq_false', Option.isSome_eq_false_iff, Option.isNone_iff_eq_none, and_assoc]
  refine and_congr_right fun cacheable => and_congr_left' ?_
  rw [cacheable, Bool.and_true, Bool.and_eq_false_imp, Bool.or_eq_false_iff, beq_eq_false_iff_ne]

theorem State.preloadTarget_eq_some_iff {s : State} {mva : Word} {t : Target} :
    s.preloadTarget mva = some t ↔ ∃ e, s.Preloads mva e ∧ t = e.target mva := by
  constructor
  · intro h
    unfold State.preloadTarget at h
    split at h
    case isFalse => cases h
    case isTrue on =>
      obtain ⟨mmu, cache⟩ := (Bool.and_eq_true _ _).mp on
      split at h
      case h_1 => cases h
      case h_2 e held =>
        split at h
        case h_1 | h_2 => cases h
        case h_3 allowed =>
          simp only at h
          split at h
          case isTrue => cases h
          case isFalse free =>
            obtain ⟨cacheable, mini, noLine, noFill⟩ := State.preloadBar_eq_false.mp (Bool.not_eq_true _ ▸ free)
            exact ⟨e, ⟨mmu, cache, held, allowed, cacheable, mini, noLine, noFill⟩, (Option.some.inj h).symm⟩
  · rintro ⟨e, h, rfl⟩
    have free := State.preloadBar_eq_false.mpr ⟨h.cacheable, h.mini, h.noLine, h.noFill⟩
    simp only [State.preloadTarget, h.mmuOn, h.dcacheOn, h.held, h.allowed, Bool.and_self, if_true, Target.isMini, free,
      Bool.false_eq_true, if_false]
    rfl

section

variable {s : State} {u : Bool} {rn : Reg} {off : Offset2} (noPc : off.namesPc = false) (b : Bool)

include noPc

theorem exec_pld_fill {e : TlbEntry} (h : s.Preloads (s.mva (addedOffset u (s.reg rn) (s.offset2 off))) e) :
    exec (.pld u rn off b) s =
      (s.startFill (e.target (s.mva (addedOffset u (s.reg rn) (s.offset2 off))))).advance := by
  have target : s.preloadTarget (s.mva (s.address2 .offset u rn off).va) = some _ :=
    State.preloadTarget_eq_some_iff.mpr ⟨e, h, rfl⟩
  show execPld u rn off b s = _
  rw [execPld, noPc, if_neg Bool.false_ne_true, target]
  rfl

theorem exec_pld_nothing (h : ∀ e, ¬ s.Preloads (s.mva (addedOffset u (s.reg rn) (s.offset2 off))) e) :
    exec (.pld u rn off b) s = s.advance := by
  have target : s.preloadTarget (s.mva (s.address2 .offset u rn off).va) = none := by
    rw [Option.eq_none_iff_forall_ne_some]
    intro t found
    obtain ⟨e, allowed, -⟩ := State.preloadTarget_eq_some_iff.mp found
    exact h e allowed
  show execPld u rn off b s = _
  rw [execPld, noPc, if_neg Bool.false_ne_true, target]

end

/-! The fill that is requested (20_memory.md R209). -/

/-- The request of a line, with the bytes that the data side of a state sees. -/
def State.fillOf (s : State) (t : Target) : FillEntry :=
  { alloc := true, line := lineOf t.mva, paLine := lineOf t.pa, mini := t.isMini, data := s.readLine (lineOf t.pa)
    aborts := false }

theorem State.fillOf_congr {s u : State} (t : Target) (seen : ∀ a, u.dataByte a = s.dataByte a) : u.fillOf t = s.fillOf t := by
  simp only [State.fillOf, State.readLine, seen]

/-- A line of memory that answers is requested with the bytes of the data side. -/
theorem State.requestFill_answers {s : State} {t : Target}
    (answers : s.beforeRequest.Answers .read (lineOf t.pa ++ 0#5) 32) :
    (s.requestFill t).2 = s.beforeRequest.addFill (s.beforeRequest.fillOf t) := by
  have read : s.beforeRequest.busRead .read s.beforeRequest.dataByte (lineOf t.pa ++ 0#5) 32 = _ :=
    State.busRead_memory (State.allMemory_of fun i hi => (answers i hi).1) (State.anyError_of fun i hi => (answers i hi).2)
  have data : Vector.ofFn (fun i : Fin 32 => s.beforeRequest.dataByte ((lineOf t.pa ++ 0#5 : BitVec 32) + BitVec.ofNat 32 i.val)) =
      s.beforeRequest.readLine (lineOf t.pa) := by
    simp only [State.readLine, lineBase_add _ (Fin.isLt _)]
  simp only [State.requestFill, read, Bool.false_eq_true, if_false, data, State.fillOf]

theorem State.startFill_core (s : State) (t : Target) : (s.startFill t).core = s.core :=
  ((AccessFrame.fence s t false).trans (.requestFill _ t)).core

/-- A fill of a cacheable page is no fence: with coalescing disabled the outstanding requests return first (R247 (a)). -/
theorem State.fence_cacheable (s : State) {t : Target} (h : t.c = true) :
    s.fence t false = if bitAt s.cp15.aux 0 then s.settleFills else s := by
  have fences : t.fences false = false := by rw [Target.fences, h]; rfl
  rw [State.fence, fences, if_neg Bool.false_ne_true]

/-- Nothing but the request is added where the fill buffer has room and no buffered write must go out first (R232, R247). -/
theorem State.startFill_alone {s : State} {t : Target} (cacheable : t.c = true) (room : s.fillBuf.length < 4)
    (free : (bitAt s.cp15.aux 0 = false ∧ ∀ x ∈ s.writeBuf, x.coalesces = true) ∨ (s.fillBuf = [] ∧ s.writeBuf = []))
    (answers : s.Answers .read (lineOf t.pa ++ 0#5) 32) : s.startFill t = s.addFill (s.fillOf t) := by
  have fence : s.fence t false = s := by
    rw [s.fence_cacheable cacheable]
    rcases free with ⟨coalescing, -⟩ | ⟨empty, -⟩
    · rw [coalescing, if_neg Bool.false_ne_true]
    · rw [State.settleFills_empty empty, ite_self]
  have writes : s.writesBeforeRead = s := by
    unfold State.writesBeforeRead
    rcases free with ⟨coalescing, all⟩ | ⟨empty, empty'⟩
    · have none : s.writeBuf.any (fun e => !e.coalesces) = false := by simpa using all
      rw [coalescing, none, Bool.or_self, if_neg Bool.false_ne_true]
    · rw [← State.drainAll_settled empty, State.drainAll_empty empty empty', ite_self]
  have before : s.beforeRequest = s := by rw [State.beforeRequest, if_neg (Nat.not_le.mpr room), writes]
  rw [State.startFill, fence, State.requestFill_answers (by rw [before]; exact answers), before]

/-! Requests that return to clean caches over plain memory (20_memory.md R209, R232). -/

theorem mem_of_sparseGet {α : Type} {l : List (Nat × α)} {k : Nat} {v : α} (h : sparseGet l k = some v) : (k, v) ∈ l := by
  induction l with
  | nil => cases h
  | cons x l ih =>
    rw [sparseGet] at h
    split at h
    case isTrue same =>
      obtain rfl := Option.some.inj h
      rw [same]
      exact List.mem_cons_self
    case isFalse => exact List.mem_cons_of_mem x (ih h)

/-- A line holds nothing that memory does not. -/
def DLine.isClean (d : DLine) : Prop := d.dirtyLow = false ∧ d.dirtyHigh = false

/-- Plain memory, no pended access, and no line that must be written back. -/
structure State.CleanMemory (s : State) : Prop extends s.PlainMemory where
  noPend : s.pendBuf = []
  main : ∀ d ∈ s.dcache.lines, d.2.isClean
  mini : ∀ d ∈ s.miniDCache.lines, d.2.isClean

/-- A clean line that is replaced is not written back (20_memory.md R209, R217). -/
theorem State.evict_clean {s : State} {mini : Bool} (h : ∀ d ∈ s.dlines mini, d.2.isClean) (detects : Bool) (key : Nat) :
    s.evict detects mini key = s := by
  unfold State.evict
  split
  case h_1 d found =>
    obtain ⟨low, high⟩ : d.isClean := h _ (mem_of_sparseGet found)
    have parity : d.dirtyParity = false := by rw [DLine.dirtyParity, low, high]; rfl
    simp only [State.writeBackLine, parity, Bool.and_false, State.writeBackHalves, low, high, Bool.false_eq_true, if_false,
      ite_self]
  case h_2 => rfl

namespace State.CleanMemory

/-- Caches with one more clean line, beside which only what is no part of memory may differ. -/
theorem finishFill {s : State} (h : s.CleanMemory) (f : FillEntry) :
    (s.finishFill f).CleanMemory ∧ ∀ a, (s.finishFill f).dataByte a = s.dataByte a := by
  have fresh (l pl : BitVec 27) (locked : Bool) (data : LineData) : (DLine.fresh l pl locked data).isClean := ⟨rfl, rfl⟩
  have put {l : List (Nat × DLine)} (all : ∀ d ∈ l, d.2.isClean) (k : Nat) {v : DLine} (hv : v.isClean) :
      ∀ d ∈ sparsePut l k v, d.2.isClean := by
    intro d hd
    rcases mem_sparsePut hd with rfl | old
    · exact hv
    · exact all d old
  unfold State.finishFill
  split
  case isTrue => exact ⟨{ h with }, fun _ => rfl⟩
  case isFalse =>
    split
    case isFalse => exact ⟨h, fun _ => rfl⟩
    case isTrue =>
      unfold State.allocLine State.allocMini State.allocMain
      split
      case isTrue =>
        simp only [State.evict_clean (mini := true) h.mini]
        exact ⟨{ h with mini := put h.mini _ (fresh ..) }, fun _ => rfl⟩
      case isFalse =>
        simp only [State.evict_clean (mini := false) h.main]
        exact ⟨{ h with main := put h.main _ (fresh ..) }, fun _ => rfl⟩

theorem completeFill {s : State} (h : s.CleanMemory) (f : FillEntry) :
    (s.completeFill f).CleanMemory ∧ ∀ a, (s.completeFill f).dataByte a = s.dataByte a := by
  have erased : ({ s with fillBuf := s.fillBuf.erase f } : State).CleanMemory := { h with }
  obtain ⟨clean, seen⟩ := erased.finishFill f
  rw [State.completeFill]
  simp only [clean.noPend, State.releasePended]
  exact ⟨{ clean with noPend := rfl }, seen⟩

/-- The oldest requests return. -/
theorem completeFills {s : State} (h : s.CleanMemory) {l rest : List FillEntry} (hl : s.fillBuf = l ++ rest) :
    (s.completeFills l).CleanMemory ∧ (∀ a, (s.completeFills l).dataByte a = s.dataByte a) ∧
      (s.completeFills l).fillBuf = rest := by
  induction l generalizing s with
  | nil => exact ⟨h, fun _ => rfl, hl⟩
  | cons f l ih =>
    obtain ⟨clean, seen⟩ := h.completeFill f
    have fills : (s.completeFill f).fillBuf = l ++ rest := by
      rw [State.completeFill_fillBuf, hl, List.cons_append, List.erase_cons_head]
    obtain ⟨clean', seen', left⟩ := ih clean fills
    exact ⟨clean', fun a => (seen' a).trans (seen a), left⟩

/-- All of them return. -/
theorem settleFills {s : State} (h : s.CleanMemory) :
    s.settleFills.CleanMemory ∧ (∀ a, s.settleFills.dataByte a = s.dataByte a) ∧ s.settleFills.fillBuf = [] :=
  h.completeFills (List.append_nil _).symm

/-- The writes that must go out before a read of external memory are seen all the time (R247). -/
theorem writesBeforeRead {s : State} (h : s.CleanMemory) :
    s.writesBeforeRead.PlainMemory ∧ ∀ a, s.writesBeforeRead.dataByte a = s.dataByte a := by
  unfold State.writesBeforeRead
  split
  · have frame := AccessFrame.drainWrites s
    refine ⟨⟨by rw [frame.eq]; exact h.noRegion, by rw [frame.eq]; exact h.noErrors, State.drainWrites_wf h.canonical⟩, fun a => ?_⟩
    rw [State.dataByte_empty rfl, State.drainWrites_memByte h.toPlainMemory]
  · exact ⟨h.toPlainMemory, fun _ => rfl⟩

/-- Before a request the oldest one returns where the fill buffer is full (R232). -/
theorem beforeRequest {s : State} (h : s.CleanMemory) :
    s.beforeRequest.PlainMemory ∧ (∀ a, s.beforeRequest.dataByte a = s.dataByte a) ∧
      s.beforeRequest.fillBuf = if s.fillBuf.length < 4 then s.fillBuf else s.fillBuf.drop 1 := by
  unfold State.beforeRequest
  by_cases room : s.fillBuf.length < 4
  · rw [if_neg (Nat.not_le.mpr room), if_pos room]
    exact ⟨h.writesBeforeRead.1, h.writesBeforeRead.2, (StoreKept.writesBeforeRead s).fills⟩
  · obtain ⟨clean, seen, left⟩ := h.completeFills (List.take_append_drop 1 s.fillBuf).symm
    rw [if_pos (Nat.not_lt.mp room), if_neg room]
    exact ⟨clean.writesBeforeRead.1, fun a => (clean.writesBeforeRead.2 a).trans (seen a),
      (StoreKept.writesBeforeRead _).fills.trans left⟩

/-- A fill that is started: what returns first, and the request. -/
theorem startFill {s : State} (h : s.CleanMemory) {t : Target} (cacheable : t.c = true) :
    (∀ a, (s.startFill t).dataByte a = s.dataByte a) ∧
      (s.startFill t).fillBuf =
        (if bitAt s.cp15.aux 0 then [] else if s.fillBuf.length < 4 then s.fillBuf else s.fillBuf.drop 1) ++ [s.fillOf t] := by
  have request {u : State} (clean : u.CleanMemory) (seen : ∀ a, u.dataByte a = s.dataByte a) :
      (∀ a, (u.requestFill t).2.dataByte a = s.dataByte a) ∧
        (u.requestFill t).2.fillBuf =
          (if u.fillBuf.length < 4 then u.fillBuf else u.fillBuf.drop 1) ++ [s.fillOf t] := by
    obtain ⟨plain, seen', left⟩ := clean.beforeRequest
    have same (a : Word) : u.beforeRequest.dataByte a = s.dataByte a := (seen' a).trans (seen a)
    rw [State.requestFill_answers fun i _ => ⟨plain.regionAt _, plain.busError _ _⟩, State.fillOf_congr t same, State.addFill,
      left]
    exact ⟨same, rfl⟩
  rw [State.startFill, s.fence_cacheable cacheable]
  cases bitAt s.cp15.aux 0
  · exact request h fun _ => rfl
  · obtain ⟨clean, seen, none⟩ := h.settleFills
    have started := request clean seen
    rw [none] at started
    exact started

end State.CleanMemory

/-- Settles O38: a fill is started where the hint is allowed, and nothing is done anywhere else. -/
theorem preloadIsAHint : Obligations.PreloadIsAHint := by
  intro s u rn off b noPc hn mva nothing
  have idle (h : ∀ e, ¬ s.Preloads mva e) : nothing := by
    show CompletesAs (exec (.pld u rn off b) s) s s
    rw [exec_pld_nothing noPc b h]
    exact .ofCore hn rfl
  refine ⟨fun h => idle fun e allowed => ?off, fun h => idle fun e allowed => ?resident, fun e mmuOn dcacheOn held => ?held,
    fun t run => ?core⟩
  case off =>
    rcases h with off | off | miss
    · exact Bool.false_ne_true (off.symm.trans allowed.mmuOn)
    · exact Bool.false_ne_true (off.symm.trans allowed.dcacheOn)
    · cases miss.symm.trans allowed.held
  case resident =>
    rw [allowed.noLine, allowed.noFill] at h
    rcases h with hit | hit <;> cases hit
  case held =>
    intro mini fill
    have only {e' : TlbEntry} (allowed : s.Preloads mva e') : e' = e := Option.some.inj (allowed.held.symm.trans held)
    refine ⟨fun h => idle fun e' allowed => ?denied, fun isMini h => idle fun e' allowed => ?reserved,
      fun access cacheable open' noLine noFill => ?fill⟩
    case denied =>
      obtain rfl := only allowed
      rcases h with denied | uncached
      · exact denied allowed.allowed
      · exact Bool.false_ne_true (uncached.symm.trans allowed.cacheable)
    case reserved =>
      obtain rfl := only allowed
      obtain ⟨policy, unlocked⟩ := allowed.mini isMini
      rcases h with reserved | locked
      · exact policy reserved
      · exact Bool.false_ne_true (unlocked.symm.trans locked)
    case fill =>
      have run : exec (.pld u rn off b) s = (s.startFill (e.target mva)).advance := exec_pld_fill noPc b
        ⟨mmuOn, dcacheOn, held, access, cacheable, open', noLine, noFill⟩
      have requested : s.fillOf (e.target mva) = fill := by
        have same : (e.target mva).isMini = mini := by
          show (e.x && e.c && !e.b) = (e.x && !e.b)
          rw [cacheable, Bool.and_true]
        rw [State.fillOf, same]
        rfl
      have core := s.startFill_core (e.target mva)
      rw [run]
      refine ⟨fun room free answers => ?alone, fun noRegion noErrors canonical noPend clean => ?seen⟩
      case alone =>
        have started : s.startFill (e.target mva) = s.addFill (s.fillOf (e.target mva)) :=
          State.startFill_alone cacheable room free answers
        rw [requested] at started
        show CompletesAs (s.startFill (e.target mva)).advance s (s.addFill fill)
        rw [started]
        exact .ofCore hn rfl
      case seen =>
        have memory : s.CleanMemory := ⟨⟨noRegion, noErrors, canonical⟩, noPend, fun d hd => clean d (List.mem_append_left _ hd),
          fun d hd => clean d (List.mem_append_right _ hd)⟩
        obtain ⟨seen, fills⟩ := memory.startFill (t := e.target mva) cacheable
        refine ⟨_, State.advance_at hn (congrArg Core.pc core) (congrArg (fun k : Core => bitAt k.cpsr 5) core), ?only_pc,
          fun pa => ?bytes, ?fills⟩
        case only_pc => rw [State.traceInstr_core, State.setPc, core]
        case bytes =>
          rw [← seen pa]
          simp only [State.dataByte, State.memByte, State.traceInstr_writeBuf, State.setPc_writeBuf, State.traceInstr_mem,
            State.setPc_mem]
        case fills => rw [State.traceInstr_fillBuf, State.setPc_fillBuf, fills, requested]
  case core =>
    have ended {x : State} (core : x.core = s.core) (e : x.advance = .next t) : t.core = { s.core with pc := s.nextPc } := by
      obtain ⟨y, run, ycore, -⟩ := CompletesAs.ofCore hn core
      cases run.symm.trans e
      rw [ycore, core]
    by_cases h : ∃ e, s.Preloads mva e
    · obtain ⟨e, allowed⟩ := h
      exact ended (s.startFill_core _) ((exec_pld_fill noPc b allowed).symm.trans run)
    · exact ended rfl ((exec_pld_nothing noPc b fun e allowed => h ⟨e, allowed⟩).symm.trans run)

end Sys2Proof.Machine
end

section
/-! PROOF. The ARM branches, and the branches that take T from a register, ARM and Thumb (45_arm_branch_status.md R541-R546,
46_thumb.md R649, R650). -/

namespace Sys2Proof.Machine

/-! Branches of a state that differs in what no access changes. -/

/-- The link register, or another one, was written. -/
theorem SameWithoutAccess.setReg (s : State) {n : Reg} (hn : n ≠ 15) (v : Word) : SameWithoutAccess s (s.setReg n v) := by
  rw [State.setReg_of_ne v hn]
  exact .here s _ s.btb

theorem State.setReg_btb (s : State) {n : Reg} (hn : n ≠ 15) (v : Word) : (s.setReg n v).btb = s.btb := by
  rw [State.setReg_of_ne v hn]
  rfl

section
variable {s u : State} {r : Result} {c : Core} (same : SameWithoutAccess s u)
include same

theorem BranchesTo.of_same (h : BranchesTo r u c) : BranchesTo r s c := by
  obtain ⟨t, run, core, rest⟩ := h
  exact ⟨t, run, core, same.trans rest⟩

variable (predictor : u.btb = s.btb)
include predictor

theorem JumpsTo.of_same (h : JumpsTo r u c) : JumpsTo r s c := by
  obtain ⟨t, run, core, memory, btb, stale, storing, elsewhere⟩ := h
  exact ⟨t, run, core, fun pa => (memory pa).trans (same.memory pa), btb.trans predictor, stale.trans same.stale,
    storing.trans same.storing, same.elsewhere.trans elsewhere⟩

theorem Exchanges.of_same {v : Word} (h : Exchanges r u c v) : Exchanges r s c v := by
  unfold Exchanges at h ⊢
  split
  · rwa [if_pos ‹_›] at h
  · rw [if_neg ‹_›] at h
    exact h.of_same same predictor

end

/-! What the taken branches do. -/

/-- The message of a direct branch is no access. -/
theorem SameWithoutAccess.traceDirect (s : State) (v : Word) : SameWithoutAccess s (s.traceDirect v) where
  memory pa := by rw [State.memByte, State.memByte, State.traceDirect_mem]
  elsewhere := .traceDirect s v
  dataBkpt := by
    unfold State.traceDirect State.recordBranch
    repeat' split
    all_goals rfl
  stale := s.traceDirect_stale v
  storing := s.traceDirect_storing v

/-- A taken B or BL (R540). -/
theorem State.branchTo_branches (s : State) (v : Word) : BranchesTo (.next (s.branchTo v)) s { s.core with pc := v } := by
  refine ⟨_, rfl, ?core, (((SameWithoutAccess.resolveBranch s v true).trans (.count _ _)).trans (.traceDirect _ v)).trans
    (.here _ _ _)⟩
  show { (((s.resolveBranch v true).count .pcChanged).traceDirect v).core with pc := v } = _
  rw [State.traceDirect_core]
  exact congrArg (fun k : Core => { k with pc := v }) (s.resolveBranch_core v true)

/-- A taken BLX(1), which the BTB does not learn (R544). -/
theorem State.branchStateTo_jumps (s : State) (thumb : Bool) (v : Word) :
    JumpsTo (.next (s.branchStateTo thumb v)) s { s.core with pc := v, cpsr := setBit 5 thumb s.core.cpsr } := by
  have counted := (SameWithoutAccess.count s .branchExecuted).trans (.count _ .pcChanged)
  refine JumpsTo.of_same (counted.trans (.traceDirect _ v)) (State.traceDirect_btb _ v)
    ⟨_, rfl, ?core, fun _ => rfl, rfl, rfl, rfl, .here _ _ _ _⟩
  show { (((s.count .branchExecuted).count .pcChanged).traceDirect v).core with pc := v, cpsr := setBit 5 thumb s.core.cpsr } = _
  rw [State.traceDirect_core]
  rfl

/-! The ARM branches to an offset (R541-R544). -/

/-- An offset counted in units of 2^k. -/
theorem ofInt_scaled (k : Nat) {n : Nat} (imm : BitVec n) (x : Int) (hx : BitVec.ofInt 32 x = BitVec.twoPow 32 k) :
    BitVec.ofInt 32 (x * imm.toInt) = imm.signExtend 32 <<< k := by
  rw [BitVec.ofInt_mul, hx, BitVec.shiftLeft_eq_mul_twoPow, BitVec.mul_comm]
  rfl

theorem State.armTarget_eq {s : State} (ht : s.thumb = false) (imm24 : BitVec 24) :
    s.armTarget imm24 = s.core.pc + 8 + BitVec.ofInt 32 (4 * imm24.toInt) := by
  rw [ofInt_scaled 2 imm24 4 rfl, State.armTarget, State.pcRead, ht]
  rfl

theorem State.nextPc_arm {s : State} (ht : s.thumb = false) : s.nextPc = s.core.pc + 4 := by
  rw [State.nextPc, State.instrSize, ht]
  rfl

theorem State.nextPc_thumb {s : State} (ht : s.thumb = true) : s.nextPc = s.core.pc + 2 := by
  rw [State.nextPc, State.instrSize, ht]
  rfl

section
variable {s : State} {c : Cond} (hc : s.passed c = true)
include hc

theorem exec_b_passed (imm24 : BitVec 24) : exec (.b c imm24) s = .next (s.branchTo (s.armTarget imm24)) := if_pos hc

theorem exec_bl_passed (imm24 : BitVec 24) :
    exec (.bl c imm24) s = .next ((s.setReg 14 s.nextPc).branchTo (s.armTarget imm24)) := if_pos hc

end

/-- Settles O29: B is the direct branch to its target, BL and BLX are branches of the state with the link. -/
theorem armBranches : Obligations.ArmBranches := by
  intro s c imm24 h ht target linked
  have toTarget : s.armTarget imm24 = target := State.armTarget_eq ht imm24
  have link : (s.setReg 14 s.nextPc).core = linked := by rw [State.nextPc_arm ht]; rfl
  have same := SameWithoutAccess.setReg s (n := 14) (by decide) s.nextPc
  refine ⟨fun hc => ⟨?b, ?bl⟩, ?blx⟩
  case b =>
    rw [exec_b_passed hc, toTarget]
    exact s.branchTo_branches target
  case bl =>
    rw [exec_bl_passed hc, toTarget, ← link]
    exact (State.branchTo_branches _ target).of_same same
  case blx =>
    have jumps := State.branchStateTo_jumps (s.setReg 14 s.nextPc) true (s.armTarget imm24 + if h then 2 else 0)
    rw [toTarget, link, setBit_true 5 _ (by decide)] at jumps
    show JumpsTo (.next ((s.setReg 14 s.nextPc).branchStateTo true (s.armTarget imm24 + if h then 2 else 0))) s _
    rw [toTarget]
    exact jumps.of_same same (s.setReg_btb (by decide) _)

/-! The branches to a register (R545, R546; 46_thumb.md R649, R650). -/

/-- BX counts the branch, and then is the interworking write of the PC. -/
theorem Exchanges.counted (s : State) (v : Word) : Exchanges ((s.count .branchExecuted).jumpExchange v) s s.core v :=
  (State.jumpExchange_exchanges _ v).of_same (.count s _) rfl

/-- BLX(2) writes the link before it. -/
theorem Exchanges.linked (s : State) (link v : Word) :
    Exchanges (((s.count .branchExecuted).setReg 14 link).jumpExchange v) s
      { s.core with regs := s.core.regs.set (physReg s.mode 14).toFin link } v :=
  (State.jumpExchange_exchanges _ v).of_same ((SameWithoutAccess.count s _).trans (.setReg _ (by decide) link))
    (State.setReg_btb _ (by decide) link)

section
variable {s : State} {c : Cond} (hc : s.passed c = true)
include hc

theorem exec_bx_passed (rm : Reg) : exec (.bx c rm) s = (s.count .branchExecuted).jumpExchange (s.reg rm) := if_pos hc

theorem exec_blxReg_passed (rm : Reg) : exec (.blxReg c rm) s = if rm = 15 then .refused .unpredictableOperands
    else ((s.count .branchExecuted).setReg 14 s.nextPc).jumpExchange (s.reg rm) := by
  show execBlxReg c rm s = _
  rw [execBlxReg, if_pos hc]
  simp only [beq_iff_eq]

end

theorem exec_tBlxReg (h2 : Bool) (r3 : LowReg) (s : State) :
    exec (.tBlxReg h2 r3) s = if highReg h2 r3 = 15 then .refused .unpredictableOperands
    else ((s.count .branchExecuted).setReg 14 s.thumbLink).jumpExchange (s.reg (highReg h2 r3)) := rfl

/-- Settles O30: each is the interworking write of the PC, of the state with the branch counted and the link written. -/
theorem exchangeBranches : Obligations.ExchangeBranches := by
  intro s c rm h2 r3 linked
  refine ⟨fun hc => ?bx, fun hc ht hm => ?blx, fun hc hm => ?blxPc, ?tBx, fun ht hm => ?tBlx, fun hm => ?tBlxPc⟩
  case bx =>
    rw [exec_bx_passed hc]
    exact .counted s _
  case blx =>
    rw [exec_blxReg_passed hc, if_neg hm, State.nextPc_arm ht]
    exact .linked s _ _
  case blxPc => rw [exec_blxReg_passed hc, if_pos hm]
  case tBx => exact .counted s _
  case tBlx =>
    rw [exec_tBlxReg, if_neg hm, State.thumbLink, State.nextPc_thumb ht]
    exact .linked s _ _
  case tBlxPc => rw [exec_tBlxReg, if_pos hm]

end Sys2Proof.Machine
end

section
/-! PROOF. The status registers: MRS and MSR (45_arm_branch_status.md R550-R552). -/

namespace Sys2Proof.Machine

/-! MRS (R550). -/

section
variable {s : State} {c : Cond} (hc : s.passed c = true) {rd : Reg}
include hc

theorem exec_mrs_pc (r : Bool) : exec (.mrs c r 15) s = .refused .noSpsr := by
  show execMrs c r 15 s = _
  rw [execMrs, if_pos hc, if_pos (beq_self_eq_true _)]

theorem exec_mrs_cpsr (hd : rd ≠ 15) : exec (.mrs c false rd) s = (s.setReg rd s.core.cpsr).advance := by
  show execMrs c false rd s = _
  rw [execMrs, if_pos hc, if_neg (mt beq_iff_eq.mp hd), if_neg Bool.false_ne_true]

theorem exec_mrs_spsr (hd : rd ≠ 15) {w : Word} (hw : s.spsrOf s.mode = some w) :
    exec (.mrs c true rd) s = (s.setReg rd w).advance := by
  show execMrs c true rd s = _
  rw [execMrs, if_pos hc, if_neg (mt beq_iff_eq.mp hd), if_pos rfl, hw]

theorem exec_mrs_noSpsr (hw : s.spsrOf s.mode = none) : exec (.mrs c true rd) s = .refused .noSpsr := by
  show execMrs c true rd s = _
  rw [execMrs, if_pos hc, if_pos rfl, hw]
  exact ite_self _

end

/-- Only User and System mode have no SPSR (10_state.md R39). -/
theorem State.spsrOf_eq_none {s : State} (h : s.mode = .usr ∨ s.mode = .sys) : s.spsrOf s.mode = none := by
  rcases h with h | h <;> rw [h] <;> rfl

/-- Settles O32: the value of the status register goes to Rd, where there is one and Rd is not the PC. -/
theorem statusRead : Obligations.StatusRead := by
  intro s c rd hc hn
  refine ⟨fun hd => ?cpsr, fun w hd hw => ?spsr, fun h => ?noSpsr, fun hd => ?pc⟩
  case cpsr =>
    rw [exec_mrs_cpsr hc hd]
    exact .setReg hn hd _
  case spsr =>
    rw [exec_mrs_spsr hc hd hw]
    exact .setReg hn hd w
  case noSpsr =>
    rcases h with rfl | h
    · exact exec_mrs_pc hc true
    · exact exec_mrs_noSpsr hc (State.spsrOf_eq_none h)
  case pc =>
    subst hd
    exact exec_mrs_pc hc false

/-! The bits that MSR writes (R551). -/

theorem bitAt_psrMask (mask : BitVec 4) {k : Nat} (hk : k < 32) : bitAt (psrMask mask) k = bitAt mask (k / 8) := by
  have all : ∀ mask : BitVec 4, ∀ k < 32, bitAt (psrMask mask) k = bitAt mask (k / 8) := by decide
  exact all mask k hk

/-- What MSR may write of the CPSR under a field mask: in User mode the highest byte, in a privileged mode all but T. -/
def State.cpsrMask (s : State) (mask : BitVec 4) : Word :=
  psrMask mask &&& (if s.mode = .usr then 0xFF000000 else 0xFFFFFFDF)

theorem State.bitAt_cpsrMask (s : State) (mask : BitVec 4) {k : Nat} (hk : k < 32) :
    bitAt (s.cpsrMask mask) k = true ↔ bitAt mask (k / 8) = true ∧ (s.mode = .usr → 24 ≤ k) ∧ k ≠ 5 := by
  have user : ∀ k < 32, bitAt (0xFF000000 : Word) k = decide (24 ≤ k) := by decide
  have privileged : ∀ k < 32, bitAt (0xFFFFFFDF : Word) k = decide (k ≠ 5) := by decide
  have both (x : Word) : bitAt (psrMask mask &&& x) k = (bitAt mask (k / 8) && bitAt x k) := by
    rw [← bitAt_psrMask mask hk]
    exact BitVec.getLsbD_and
  rw [State.cpsrMask, both, Bool.and_eq_true]
  by_cases hu : s.mode = .usr
  · rw [if_pos hu, user k hk, decide_eq_true_eq]
    exact and_congr_right fun _ => ⟨fun h => ⟨fun _ => h, by omega⟩, fun h => h.1 hu⟩
  · rw [if_neg hu, privileged k hk, decide_eq_true_eq]
    exact and_congr_right fun _ => ⟨fun h => ⟨fun e => absurd e hu, h⟩, fun h => h.2⟩

/-- T is not among them (92 D30). -/
theorem State.bitAt_cpsrMask_thumb (s : State) (mask : BitVec 4) : bitAt (s.cpsrMask mask) 5 = false :=
  Bool.eq_false_iff.mpr fun h => ((s.bitAt_cpsrMask mask (by decide)).mp h).2.2 rfl

/-- A value that MSR may write to the CPSR: under the mask of a privileged mode its mode is legal, DEBUG mode only where it is
the mode already, and User mode only outside Special Debug State (93 U31, U33; log entry 47). -/
def State.MayWriteCpsr (s : State) (mask : BitVec 4) (v : Word) : Prop :=
  s.mode ≠ .usr → bitAt mask 0 = true →
    ∃ m, Mode.ofBits (field v 0 5) = some m ∧ (m = .dbg → s.mode = .dbg) ∧ (m = .usr → s.sds = false)

theorem modeWriteError_eq_none {m m' : Mode} {sds : Bool} {psr : Word} (legal : Mode.ofBits (field psr 0 5) = some m')
    (dbg : m' = .dbg → m = .dbg) (usr : m' = .usr → sds = false) : modeWriteError m sds psr = none := by
  unfold modeWriteError
  rw [legal]
  cases m'
  case dbg => exact if_pos (dbg rfl)
  case usr => rw [usr rfl]; rfl
  all_goals rfl

/-- The mode field of the CPSR that is written under a mask with bit 0. -/
theorem State.field_mode_written {s : State} (privileged : s.mode ≠ .usr) {mask : BitVec 4} (h : bitAt mask 0 = true)
    (v : Word) : field (merge (s.cpsrMask mask) s.core.cpsr v) 0 5 = field v 0 5 := by
  refine field_congr fun i hi => ?_
  have low : (0 + i) / 8 = 0 := by omega
  rw [bitAt_merge, if_pos]
  rw [s.bitAt_cpsrMask mask (by omega), low]
  exact ⟨h, fun e => absurd e privileged, by omega⟩

/-! What MSR leaves. -/

/-- An allowed write of the CPSR goes on in sequence. -/
theorem State.msrCpsr_completes {s : State} {mask : BitVec 4} {v : Word} (hn : s.hasNext) (may : s.MayWriteCpsr mask v) :
    CompletesAs (s.msrCpsr mask v) s (s.setCpsr (merge (s.cpsrMask mask) s.core.cpsr v)) := by
  have thumb : bitAt (merge (s.cpsrMask mask) s.core.cpsr v) 5 = bitAt s.core.cpsr 5 := by
    rw [bitAt_merge, s.bitAt_cpsrMask_thumb mask]
    rfl
  have written : s.msrCpsr mask v = (s.setCpsr (merge (s.cpsrMask mask) s.core.cpsr v)).advance := by
    by_cases hu : s.mode = .usr
    · rw [State.cpsrMask, if_pos hu, State.msrCpsr, hu]
      rfl
    · have allowed : (if bitAt mask 0 then modeWriteError s.mode s.sds (merge (s.cpsrMask mask) s.core.cpsr v) else none) =
          none := by
        split
        case isTrue h =>
          obtain ⟨m, legal, dbg, usr⟩ := may hu h
          exact modeWriteError_eq_none ((congrArg Mode.ofBits (s.field_mode_written hu h v)).trans legal) dbg usr
        case isFalse => rfl
      rw [State.cpsrMask, if_neg hu] at allowed ⊢
      rw [State.msrCpsr, if_pos (show s.mode.privileged = true from bne_iff_ne.mpr hu)]
      simp only [allowed]
  rw [written]
  exact .advance hn rfl thumb

/-- A write of a mode's SPSR is a write of core registers. -/
theorem State.setSpsrOf_eq (s : State) (m : Mode) (v : Word) :
    s.setSpsrOf m v = { s with core := { s.core with spsrs := (s.setSpsrOf m v).core.spsrs } } := by
  unfold State.setSpsrOf
  split <;> rfl

theorem State.msrSpsr_completes {s : State} {w : Word} (hn : s.hasNext) (hw : s.spsrOf s.mode = some w) (mask : BitVec 4)
    (v : Word) : CompletesAs (s.msrSpsr mask v) s (s.setSpsrOf s.mode (merge (psrMask mask) w v)) := by
  have written : s.msrSpsr mask v = (s.setSpsrOf s.mode (merge (psrMask mask) w v)).advance := by
    rw [State.msrSpsr, hw]
  rw [written, State.setSpsrOf_eq]
  exact .advance hn rfl rfl

section
variable {s : State} {c : Cond} (hc : s.passed c = true)
include hc

theorem exec_msrImm_passed (r : Bool) (mask rot : BitVec 4) (imm : Byte) :
    exec (.msrImm c r mask rot imm) s = s.msr r mask ((imm.zeroExtend 32).rotateRight (2 * rot.toNat)) := if_pos hc

theorem exec_msrReg_passed (r : Bool) (mask : BitVec 4) {rm : Reg} (hm : rm ≠ 15) :
    exec (.msrReg c r mask rm) s = s.msr r mask (s.reg rm) := by
  show execMsrReg c r mask rm s = _
  rw [execMsrReg, if_pos hc, if_neg (mt beq_iff_eq.mp hm)]

end

/-- Settles O33: both forms are the write of the status register under its mask. -/
theorem statusWrite : Obligations.StatusWrite := by
  intro s c mask rot imm rm hc hn ends r
  have msr {i : State → Result} {v : Word} (run : i s = s.msr r mask v) : ends i v r := by
    refine ⟨fun hr may => ?cpsr, fun hr w hw => ?spsr, fun hr hw => ?noSpsr⟩
    all_goals subst hr
    case cpsr =>
      obtain ⟨t, done, core, system⟩ := State.msrCpsr_completes (s := s) (mask := mask) (v := v) hn may
      refine ⟨t, run.trans done, by rw [core]; rfl, system, fun k hk => ?_⟩
      rw [core]
      exact (bitAt_merge _ _ _ k).trans (if_congr (s.bitAt_cpsrMask mask hk) rfl rfl)
    case spsr =>
      obtain ⟨t, done, core, system⟩ := State.msrSpsr_completes hn hw mask v
      have hasSpsr : s.mode.spsrIndex.isSome = true := by
        rw [State.spsrOf] at hw
        simpa using congrArg Option.isSome hw
      have saved (m : Mode) : t.spsrOf m = (s.setSpsrOf s.mode (merge (psrMask mask) w v)).spsrOf m := by
        rw [State.spsrOf, core]
        rfl
      rw [State.setSpsrOf_eq] at core system
      refine ⟨t, merge (psrMask mask) w v, run.trans done, by rw [core], system, ?own, fun m hm => ?other, fun k hk => ?bits⟩
      case own => rw [saved, State.spsrOf_setSpsrOf _ hasSpsr]
      case other => rw [saved, State.setSpsrOf_spsrOf_other _ hm]
      case bits => rw [bitAt_merge, bitAt_psrMask mask hk]
    case noSpsr =>
      rw [run, State.msr, if_pos rfl, State.msrSpsr, hw]
  exact ⟨msr (exec_msrImm_passed hc r mask rot imm), fun hm => msr (exec_msrReg_passed hc r mask hm)⟩

end Sys2Proof.Machine
end

section
/-! PROOF. BKPT, and what the entries of a debug exception leave (45_arm_branch_status.md R556, 61_debug_and_jtag.md R766, R772,
R773). -/

namespace Sys2Proof.Machine

/-! The record of the entry in the debug control register (61_debug_and_jtag.md R766). -/

/-- The method of entry is written, and the trace buffer is disabled. -/
theorem State.noteDebugEntry_dcsr (s : State) (c : DebugCause) :
    field (s.noteDebugEntry c).cp14.dcsr 2 3 = c.moe ∧ bitAt (s.noteDebugEntry c).cp14.dcsr 0 = false := by
  have spelled : ∀ moe : BitVec 3,
      field (0#27 ++ moe ++ 0#2 : Word) 2 3 = moe ∧ bitAt (0#27 ++ moe ++ 0#2 : Word) 0 = false := by decide
  have masked : ∀ i < 3, bitAt (0x1D : Word) (2 + i) = true := by decide
  obtain ⟨method, off⟩ := spelled c.moe
  refine ⟨Eq.trans (field_congr fun i hi => ?_) method, ?_⟩
  · exact (bitAt_merge _ _ _ _).trans (if_pos (masked i hi))
  · exact (bitAt_merge _ _ _ _).trans off

/-! Halt mode (61_debug_and_jtag.md R772). -/

/-- The link and a free value for R13 are written, in the bank of DEBUG mode. -/
theorem State.enterHalt_regs (s : State) (c : DebugCause) (link : Word) :
    WritesBank s (s.enterHalt c link) .dbg [(14, link), (13, s.free 0)] := by
  refine (WritesBank.one (t := s.setBankedReg .dbg 14 link) rfl).append (.one rfl) fun x hx y hy => ?_
  rw [List.mem_singleton.mp hx, List.mem_singleton.mp hy]
  exact physReg_ne_of_ne .dbg .dbg (n := 14) (n' := 13) (by decide) (by decide) (by decide)

/-- The CPSR is saved in the SPSR of DEBUG mode. -/
theorem State.enterHalt_spsr (s : State) (c : DebugCause) (link : Word) :
    (s.enterHalt c link).spsrOf .dbg = some s.core.cpsr := State.spsrOf_setSpsrOf (s := s) (m := .dbg) s.core.cpsr rfl

/-- The low byte of the CPSR of a handler that masks FIQ does not depend on the CPSR before. -/
theorem field_handlerCpsr_masked (m : Mode) (cpsr : Word) :
    field (handlerCpsr m true cpsr) 0 8 = field (handlerCpsr m true 0) 0 8 :=
  field_congr fun i hi => by
    rw [handlerCpsr_bits _ _ _ (by omega), handlerCpsr_bits _ _ _ (by omega)]
    have low : 0 + i < 5 ∨ 0 + i = 5 ∨ 0 + i = 6 ∨ 0 + i = 7 := by omega
    rcases low with mode | thumb | fiq | irq
    · rw [if_pos mode, if_pos mode]
    · rw [thumb]; rfl
    · rw [fiq]; rfl
    · rw [irq]; rfl

theorem field_handlerCpsr_flags (m : Mode) (setF : Bool) (cpsr : Word) : field (handlerCpsr m setF cpsr) 8 24 = field cpsr 8 24 :=
  field_congr fun i hi => by
    rw [handlerCpsr_bits _ _ _ (by omega), if_neg (by omega), if_neg (by omega), if_neg (by omega), if_neg (by omega)]

/-! Monitor mode (61_debug_and_jtag.md R773). -/

/-- The records of an entry in Monitor mode: the method, and a fault status with FSR[9]. -/
def State.noteMonitorEntry (s : State) (c : DebugCause) : State :=
  ((s.noteDebugEntry c).setFault (fsrValue true (field (s.free 0) 4 5) (field (s.free 0) 0 4)) (s.free 1)).consume 2

/-- The entry is an abort: the trace buffer, which is off, records no message of it. -/
theorem State.enterMonitor_eq (s : State) (c : DebugCause) (link : Word) :
    s.enterMonitor c link =
      (s.noteMonitorEntry c).takeException .abt false (if c.isPrefetch then 0x0C else 0x10) link := by
  have off : ((s.noteMonitorEntry c).enterMode .abt false link).traceOn = false := by
    rw [State.traceOn, (show bitAt ((s.noteMonitorEntry c).enterMode .abt false link).cp14.dcsr 0 = false from
      (s.noteDebugEntry_dcsr c).2), Bool.and_false]
  rw [State.takeException, State.traceException_off _ off]
  rfl

theorem bitAt_fsrValue_debug (code : BitVec 5) (domain : BitVec 4) : bitAt (fsrValue true code domain) 9 = true := by
  revert code domain
  decide

/-- Coprocessor 15 is no part of what an access could change. -/
theorem SameElsewhere.cp15 {s t : State} (h : SameElsewhere s t) : t.cp15 = s.cp15 := by
  have e := congrArg (fun x : State => x.cp15) h.rest
  exact e

/-- Nor is Special Debug State. -/
theorem SameElsewhere.sds {s t : State} (h : SameElsewhere s t) : t.sds = s.sds := by
  have e := congrArg (fun x : State => x.sds) h.rest
  exact e

/-- What a debug exception of Monitor mode leaves. -/
structure MonitorEntered (s t : State) (c : DebugCause) (link : Word) : Prop where
  exception : ExceptionAfter s t .abt false (if c.isPrefetch then 0x0C else 0x10) link
  debugFault : bitAt t.cp15.fsr 9 = true
  sds : t.sds = s.sds
  method : field t.cp14.dcsr 2 3 = c.moe
  traceOff : bitAt t.cp14.dcsr 0 = false
  cp15 : { t.cp15 with fsr := s.cp15.fsr, far := s.cp15.far } = s.cp15

theorem MonitorEntered.enterMonitor (s : State) (c : DebugCause) (link : Word) :
    MonitorEntered s (s.enterMonitor c link) c link := by
  rw [State.enterMonitor_eq]
  have same := (SameWithoutAccess.takeException (s.noteMonitorEntry c) .abt false (if c.isPrefetch then 0x0C else 0x10)
    link).elsewhere
  obtain ⟨method, off⟩ := s.noteDebugEntry_dcsr c
  refine ⟨(ExceptionAfter.takeException (s.noteMonitorEntry c) (m := .abt) false _ link rfl).of_same rfl rfl rfl rfl,
    ?fault, same.sds, ?method, ?off, ?cp15⟩
  case fault =>
    rw [same.cp15]
    exact bitAt_fsrValue_debug _ _
  case method =>
    rw [same.dcsr]
    exact method
  case off =>
    rw [same.dcsr]
    exact off
  case cp15 => rw [same.cp15]; rfl

/-- An event that is counted before the entry changes nothing of it. -/
theorem MonitorEntered.of_count {s t : State} {e : Event} {c : DebugCause} {link : Word}
    (h : MonitorEntered (s.count e) t c link) : MonitorEntered s t c link :=
  ⟨h.exception.of_count, h.debugFault, h.sds, h.method, h.traceOff, h.cp15⟩

/-! BKPT (45_arm_branch_status.md R556). -/

theorem exec_bkpt {i : Instr} {immHi : BitVec 12} {immLo : BitVec 4} {imm8 : Byte} (h : i = .bkpt immHi immLo ∨ i = .tBkpt imm8)
    (s : State) : exec i s = s.breakpoint := by
  rcases h with rfl | rfl <;> rfl

/-- It does nothing with debug off or in Special Debug State. -/
theorem State.breakpoint_off {s : State} (h : s.debugOn = false ∨ s.sds = true) : s.breakpoint = s.advance := by
  rcases h with h | h <;> simp [State.breakpoint, h]

section
variable {s : State} (on : s.debugOn = true) (outside : s.sds = false)
include on outside

theorem State.breakpoint_halt (halt : s.haltMode = true) : s.breakpoint = .next (s.enterHalt .software (s.core.pc + 4)) := by
  simp [State.breakpoint, State.takeDebug, on, outside, halt]

/-- In Monitor mode it is counted where Abort mode is the mode already (log entry 40). -/
theorem State.breakpoint_monitor (monitor : s.haltMode = false) :
    ∃ t, s.breakpoint = .next t ∧ MonitorEntered s t .software (s.core.pc + 4) := by
  have counted : (s.count .pcChanged).haltMode = false := monitor
  by_cases abt : s.mode = .abt
  · exact ⟨_, by simp [State.breakpoint, State.takeDebug, on, outside, monitor, counted, abt],
      (MonitorEntered.enterMonitor (s.count .pcChanged) .software (s.core.pc + 4)).of_count⟩
  · exact ⟨_, by simp [State.breakpoint, State.takeDebug, on, outside, monitor, abt],
      .enterMonitor s .software (s.core.pc + 4)⟩

end

/-- Settles O28: with debug off the advance, and else the entry of Halt mode or of Monitor mode. -/
theorem breakpointIsTaken : Obligations.BreakpointIsTaken := by
  intro s immHi immLo imm8 i hi base
  rw [exec_bkpt hi]
  refine ⟨fun off hn => ?off, fun on outside halt => ?halt, fun on outside monitor => ?monitor⟩
  case off =>
    rw [State.breakpoint_off off]
    exact .ofCore (c := s.core) rfl hn rfl rfl rfl (.nil rfl) rfl rfl rfl
  case halt =>
    obtain ⟨method, off⟩ := s.noteDebugEntry_dcsr .software
    obtain ⟨written, others⟩ := s.enterHalt_regs .software (s.core.pc + 4)
    refine ⟨_, State.breakpoint_halt on outside halt, rfl, written (14, s.core.pc + 4) List.mem_cons_self, s.enterHalt_spsr _ _,
      (field_handlerCpsr_masked .dbg _).trans (by decide), field_handlerCpsr_flags _ _ _, rfl, method, off, rfl, rfl,
      fun p h13 h14 => others p ?apart, fun _ => rfl⟩
    case apart =>
      simp only [List.forall_mem_cons, List.not_mem_nil, false_implies, implies_true, and_true]
      exact ⟨h14, h13⟩
  case monitor =>
    obtain ⟨t, run, entered⟩ := State.breakpoint_monitor on outside monitor
    exact ⟨t, run, entered.exception, entered.debugFault, entered.sds.trans outside, entered.method, entered.traceOff,
      entered.cp15⟩

end Sys2Proof.Machine
end

section
/-! PROOF. The Thumb branches with an offset, and the two halves of BL and BLX(1) (46_thumb.md R646-R648). -/

namespace Sys2Proof.Machine

theorem State.pcRead_thumb {s : State} (ht : s.thumb = true) : s.pcRead = s.core.pc + 4 := by
  rw [State.pcRead, ht, if_pos rfl]

/-- A forward offset counted in units of 2^k. -/
theorem ofNat_scaled (k : Nat) {n : Nat} (imm : BitVec n) (x : Nat) (hx : BitVec.ofNat 32 x = BitVec.twoPow 32 k) :
    BitVec.ofNat 32 (x * imm.toNat) = imm.zeroExtend 32 <<< k := by
  rw [BitVec.ofNat_mul, hx, BitVec.ofNat_toNat, BitVec.shiftLeft_eq_mul_twoPow, BitVec.mul_comm]

theorem setBit_false (k : Nat) (w : Word) : setBit k false w = w &&& ~~~(1#32 <<< k) := by
  rw [setBit, merge, if_neg Bool.false_ne_true]
  exact (congrArg _ BitVec.zero_and).trans BitVec.or_zero

/-- The target of a Thumb branch: the offset from the address + 4. -/
theorem State.thumbTarget_eq {s : State} (ht : s.thumb = true) (k : Nat) {n : Nat} (imm : BitVec n) (x : Int)
    (hx : BitVec.ofInt 32 x = BitVec.twoPow 32 k) :
    s.pcRead + (imm.signExtend 32 <<< k) = s.core.pc + 4 + BitVec.ofInt 32 (x * imm.toInt) := by
  rw [State.pcRead_thumb ht, ofInt_scaled k imm x hx]

theorem exec_tBCond_passed {s : State} {c : Cond} (hc : s.passed c = true) (imm : Byte) :
    exec (.tBCond c imm) s = .next (s.branchTo (s.pcRead + (imm.signExtend 32 <<< 1))) := if_pos hc

/-- Settles O31: B and the second half of BL are direct branches, the first half is a sum, and the second half of BLX(1) is
a branch to ARM state. -/
theorem thumbBranches : Obligations.ThumbBranches := by
  intro s c imm8 imm11 imm10 ht linked
  have link : (s.setReg 14 s.thumbLink).core = linked := by rw [State.thumbLink, State.nextPc_thumb ht]; rfl
  have same := SameWithoutAccess.setReg s (n := 14) (by decide) s.thumbLink
  refine ⟨fun hc => ?tBCond, ?tB, fun hn => ?head, ?suffix, ?exchange⟩
  case tBCond =>
    rw [exec_tBCond_passed hc, State.thumbTarget_eq ht 1 imm8 2 rfl]
    exact s.branchTo_branches _
  case tB =>
    rw [← State.thumbTarget_eq ht 1 imm11 2 rfl]
    exact s.branchTo_branches _
  case head =>
    rw [← State.thumbTarget_eq ht 12 imm11 4096 rfl]
    exact .setReg hn (by decide) _
  case suffix =>
    rw [← link, ofNat_scaled 1 imm11 2 rfl]
    exact (State.branchTo_branches _ _).of_same same
  case exchange =>
    have jumps := State.branchStateTo_jumps (s.setReg 14 s.thumbLink) false
      ((s.reg 14 + (imm10.zeroExtend 32 <<< 2)) &&& 0xFFFFFFFC)
    rw [link, setBit_false] at jumps
    rw [ofNat_scaled 2 imm10 4 rfl]
    exact jumps.of_same same (s.setReg_btb (by decide) _)

end Sys2Proof.Machine
end

section
/-! PROOF. The Thumb instructions that compute: the result, the flags and nothing else (46_thumb.md R590-R624). -/

namespace Sys2Proof.Machine

theorem lowReg_ne_pc (r : LowReg) : r.reg ≠ 15 := by
  revert r
  decide

/-! The shared ends. -/

section
variable {s : State} (hs : s.hasNext) (rd : LowReg)
include hs

/-- A result with all four flags is that of data processing with S. -/
theorem Completes.thumbArith (o : AluOut) :
    Completes (s.thumbArith rd o) s [(rd.reg, o.value)] (resultFlags o.value o.c o.v) s.flagQ s.core.acc0 := by
  have run : s.thumbArith rd o = s.dataResult true rd.reg o := (if_neg (lowReg_ne_pc rd)).symm
  rw [run]
  exact .dataResult hs true (lowReg_ne_pc rd) o

/-- A result with N and Z is that of MUL with S. -/
theorem Completes.thumbLogic (v : Word) :
    Completes (s.thumbLogic rd v) s [(rd.reg, v)] (resultFlags v s.flagC s.flagV) s.flagQ s.core.acc0 :=
  .mulResult hs true (lowReg_ne_pc rd) v

end

/-! The instructions that write a low register and flags (R590-R599, R604-R606, R608-R612, R615, R621-R624). -/

/-- A sum or a difference ends with the result of its row. -/
theorem exec_thumbSumRows (s : State) (rd ra rb : LowReg) (i3 : BitVec 3) (i8 : Byte) :
    ∀ r ∈ thumbSumRows s rd ra rb i3 i8, exec r.instr s = s.thumbArith rd r.out := by
  simp only [thumbSumRows, List.forall_mem_cons, List.not_mem_nil, false_implies, implies_true, and_true, sumRow_out,
    differenceRow_out, Bool.not_not]
  exact ⟨rfl, rfl, rfl, rfl, rfl, rfl, rfl, rfl, rfl⟩

/-- A move, a logical instruction and MUL write N and Z of their row, a shift its carry-out too. -/
theorem exec_thumbLogicRows (s : State) (rd ra : LowReg) (i5 : BitVec 5) (i8 : Byte) :
    ∀ r ∈ thumbLogicRows s rd ra i5 i8,
      exec r.instr s = s.thumbArith rd r.out ∨
        (exec r.instr s = s.thumbLogic rd r.value ∧ r.c = s.flagC ∧ r.v = s.flagV) := by
  simp only [thumbLogicRows, List.forall_mem_cons, List.not_mem_nil, false_implies, implies_true, and_true]
  refine ⟨?mov, ?mvn, ?and, ?eor, ?orr, ?bic, ?mul, ?lslImm, ?lsrImm, ?asrImm, ?lslReg, ?lsrReg, ?asrReg, ?ror⟩
  case mov | mvn | and | eor | orr | bic | mul => exact .inr rfl
  case lslImm | lsrImm | asrImm | lslReg | lsrReg | asrReg | ror => exact .inl rfl

/-! The compares and TST (R616-R620). -/

/-- A compare writes the flags of its row, TST only N and Z. -/
theorem exec_thumbTestRows (s : State) (ra rb : LowReg) (i8 : Byte) (h1 h2 : Bool) :
    ∀ r ∈ thumbTestRows s ra rb i8 h1 h2,
      exec r.instr s = s.thumbCompare r.out ∨
        (exec r.instr s = (s.setNz r.value.msb (r.value == 0)).advance ∧ r.c = s.flagC ∧ r.v = s.flagV) := by
  simp only [thumbTestRows, List.forall_mem_cons, List.not_mem_nil, false_implies, implies_true, and_true, sumRow_out,
    differenceRow_out]
  exact ⟨.inl rfl, .inl rfl, .inl rfl, .inl rfl, .inr rfl⟩

/-- N and Z are written, and nothing else. -/
theorem Completes.setNz {s : State} (hs : s.hasNext) (v : Word) :
    Completes (s.setNz v.msb (v == 0)).advance s [] (resultFlags v s.flagC s.flagV) s.flagQ s.core.acc0 := by
  have h := Completes.setCpsr hs (field_withNz v.msb (v == 0) s.core.cpsr)
  rwa [← State.setNz, State.setNz_nzcv, State.setNz_flagQ] at h

/-! The instructions without flags (R600-R603, R607, R614). -/

theorem shiftLeft_one (x : Word) : x <<< 1 = x * 2 := BitVec.shiftLeft_eq_mul_twoPow x 1

/-- An addition or a move writes its register, or branches where that is R15. -/
theorem exec_thumbMoveRows {s : State} (ht : s.thumb = true) (rd rm : LowReg) (h1 h2 : Bool) (i7 : BitVec 7) (i8 : Byte) :
    ∀ r ∈ thumbMoveRows s rd rm h1 h2 i7 i8,
      exec r.1 s = if r.2.1 = 15 then s.jumpResult r.2.2 else (s.setReg r.2.1 r.2.2).advance := by
  have low {n : Reg} (hn : n ≠ 15) {i : Instr} {v : Word} (run : exec i s = (s.setReg n v).advance) :
      exec i s = if n = 15 then s.jumpResult v else (s.setReg n v).advance := run.trans (if_neg hn).symm
  simp only [thumbMoveRows, List.forall_mem_cons, List.not_mem_nil, false_implies, implies_true, and_true, ← shiftLeft_two,
    ← State.pcRead_thumb ht]
  exact ⟨rfl, rfl, low (lowReg_ne_pc rd) rfl, low (lowReg_ne_pc rd) rfl, low (by decide) rfl, low (by decide) rfl⟩

/-- A result that goes to the PC in Thumb state stays there. -/
theorem State.jumpResult_thumb {s : State} (ht : s.thumb = true) (v : Word) :
    JumpsTo (s.jumpResult v) s { s.core with pc := v &&& 0xFFFFFFFE } := by
  rw [State.jumpResult, if_pos ht]
  exact s.jumpTo_next false _

/-- Settles O42: each row ends in one of the shared ends. -/
theorem thumbResults : Obligations.ThumbResults := by
  intro s rd ra rb i3 i5 i7 i8 h1 h2 ht hs
  refine ⟨fun r hr => ?sums, fun r hr => ?logic, fun r hr => ?tests, fun r hr => ?moves⟩
  case sums =>
    rw [exec_thumbSumRows s rd ra rb i3 i8 r hr]
    exact .thumbArith hs rd r.out
  case logic =>
    rcases exec_thumbLogicRows s rd ra i5 i8 r hr with shift | ⟨plain, c, v⟩
    · rw [shift]
      exact .thumbArith hs rd r.out
    · rw [plain, c, v]
      exact .thumbLogic hs rd r.value
  case tests =>
    rcases exec_thumbTestRows s ra rb i8 h1 h2 r hr with compare | ⟨test, c, v⟩
    · rw [compare]
      exact .setAluFlags hs r.out
    · rw [test, c, v]
      exact .setNz hs r.value
  case moves =>
    rw [exec_thumbMoveRows ht rd ra h1 h2 i7 i8 r hr]
    split
    case isTrue => exact State.jumpResult_thumb ht r.2.2
    case isFalse other => exact .setReg hs other r.2.2

end Sys2Proof.Machine
end

section
/-! PROOF. The Thumb loads and stores of one register (46_thumb.md R625-R641). -/

namespace Sys2Proof.Machine

/-- Each load reads the address and the width of its row; a halfword at an even address is not refused. -/
theorem exec_thumbLoadRows {s : State} (ht : s.thumb = true) (rd ra rb : LowReg) (i5 : BitVec 5) (i8 : Byte) :
    ∀ r ∈ thumbLoadRows s rd ra rb i5 i8, (r.width = .half → r.va.toNat % 2 = 0) →
      exec r.instr s = s.loadSingle (plainAddress r.va) 0 rd.reg r.width s.privileged r.value := by
  have word {i : Instr} {va : Word} (run : exec i s = s.thumbLdr va rd) :
      exec i s = s.loadSingle (plainAddress va) 0 rd.reg .word s.privileged (rotated va) := by
    rw [run, State.thumbLdr, funext (rotateRead_eq_rotated va)]
  have half {i : Instr} {va : Word} {conv : Word → Word} (run : exec i s = s.thumbLdrh va rd conv)
      (even : va.toNat % 2 = 0) :
      exec i s = s.loadSingle (plainAddress va) 0 rd.reg .half s.privileged conv := by
    rw [run, State.thumbLdrh, oddHalf_of_even even, if_neg Bool.false_ne_true]
  simp only [thumbLoadRows, List.forall_mem_cons, List.not_mem_nil, false_implies, implies_true, and_true, ← shiftLeft_two,
    ← shiftLeft_one, ← State.pcRead_thumb ht, ← signByte_eq, ← signHalf_eq]
  exact ⟨fun _ => word rfl, fun _ => word rfl, fun _ => word rfl, fun _ => word rfl, fun _ => rfl, fun _ => rfl,
    fun even => half rfl (even trivial), fun even => half rfl (even trivial), fun _ => rfl,
    fun even => half rfl (even trivial)⟩

/-- Each store writes at the address and the width of its row; a halfword at an even address is not refused. -/
theorem exec_thumbStoreRows (s : State) (rd ra rb : LowReg) (i5 : BitVec 5) (i8 : Byte) :
    ∀ r ∈ thumbStoreRows s rd ra rb i5 i8, (r.width = .half → r.va.toNat % 2 = 0) →
      exec r.instr s = s.storeSingle (plainAddress r.va) 0 r.width s.privileged (s.reg rd.reg) := by
  have half {i : Instr} {va : Word} (run : exec i s = s.thumbStrh va rd) (even : va.toNat % 2 = 0) :
      exec i s = s.storeSingle (plainAddress va) 0 .half s.privileged (s.reg rd.reg) := by
    rw [run, State.thumbStrh, oddHalf_of_even even, if_neg Bool.false_ne_true]
    rfl
  simp only [thumbStoreRows, List.forall_mem_cons, List.not_mem_nil, false_implies, implies_true, and_true, ← shiftLeft_two,
    ← shiftLeft_one]
  exact ⟨fun _ => rfl, fun _ => rfl, fun _ => rfl, fun _ => rfl, fun _ => rfl,
    fun even => half rfl (even trivial), fun even => half rfl (even trivial)⟩

/-- Settles O43: each row is the shared load or store of one register, without write-back. -/
theorem thumbLoadsAndStores : Obligations.ThumbLoadsAndStores := by
  intro s rd ra rb i5 i8 ht hn
  refine ⟨fun r hr direct even => ?load, fun r hr direct even canonical => ?store⟩
  case load =>
    rw [exec_thumbLoadRows ht rd ra rb i5 i8 r hr even]
    exact Loads.single (a := plainAddress r.va) (rn := 0) direct hn (lowReg_ne_pc rd) nofun s.privileged r.value
  case store =>
    rw [exec_thumbStoreRows s rd ra rb i5 i8 r hr even]
    exact Stores.single (a := plainAddress r.va) (rn := 0) direct hn canonical nofun s.privileged (s.reg rd.reg)

end Sys2Proof.Machine
end

section
/-! PROOF. LDMIA, STMIA, PUSH and POP as the ARM multiples that they expand to (46_thumb.md R582, R642-R645). -/

namespace Sys2Proof.Machine

/-! Lists of low registers, and one more above them. -/

theorem lowReg_toNat (r : LowReg) : r.reg.toNat = r.toNat := BitVec.toNat_setWidth_of_le (by decide)

theorem bitAt_wide_low (high list : Byte) (r : LowReg) :
    bitAt (high ++ list : BitVec 16) r.reg.toNat = bitAt list r.toNat := by
  rw [lowReg_toNat, bitAt, BitVec.getLsbD_append, if_pos r.isLt]

theorem bitAt_wide_high (high list : Byte) {i : Nat} (hi : 8 ≤ i) :
    bitAt (high ++ list : BitVec 16) i = bitAt high (i - 8) := by
  rw [bitAt, BitVec.getLsbD_append, if_neg (Nat.not_lt.mpr hi)]

theorem wide_ne_zero (high : Byte) {list : Byte} (h : list ≠ 0) : (high ++ list : BitVec 16) ≠ 0 := by
  intro zero
  apply h
  have low := congrArg (BitVec.setWidth 8) zero
  rwa [BitVec.setWidth_append_eq_right] at low

theorem wide_beq_zero (list : Byte) : ((0 : Byte) ++ list == (0 : BitVec 16)) = (list == 0) := by
  by_cases h : list = 0
  · subst h; rfl
  · rw [beq_false_of_ne h, beq_false_of_ne (wide_ne_zero 0 h)]

theorem lowList_eq (list : Byte) : lowList list = (0 : Byte) ++ list := by
  rw [lowList, BitVec.zeroExtend_eq_setWidth, BitVec.setWidth_eq_append (by decide)]
  rfl

theorem addReg_lowList (high : Byte) (n : Reg) (hn : 1#16 <<< n.toNat = high ++ (0 : Byte)) (list : Byte) :
    addReg n (lowList list) = high ++ list := by
  rw [addReg, hn, lowList_eq, BitVec.or_append]
  exact congrArg₂ (· ++ ·) BitVec.zero_or BitVec.or_zero

/-- The list of PUSH and POP: the one more register is in the upper byte. -/
theorem lowListWith_eq (high : Byte) (n : Reg) (hn : 1#16 <<< n.toNat = high ++ (0 : Byte)) (r : Bool) (list : Byte) :
    lowListWith r n list = (if r then high else 0) ++ list := by
  cases r
  · exact lowList_eq list
  · exact addReg_lowList high n hn list

/-! The ARM multiples. -/

theorem badBlock_of_ne_pc {rn : Reg} (hn : rn ≠ 15) (list : BitVec 16) : badBlock rn list = (list == 0) := by
  rw [badBlock, beq_false_of_ne hn, Bool.or_false]

/-- A Thumb load multiple, where a base that is written back is not in the list. -/
theorem State.thumbLdm_eq {s : State} {w : Bool} {rn : Reg} {list : BitVec 16} (hn : rn ≠ 15)
    (base : w = true → bitAt list rn.toNat = false) : s.thumbLdm w rn list = exec (.ldm .al .ia w rn list) s := by
  have unlisted : (w && bitAt list rn.toNat) = false := by
    cases w with
    | false => rfl
    | true => exact base rfl
  have arm : exec (.ldm .al .ia w rn list) s = execLdm .al .ia w rn list s := rfl
  have always : s.passed .al = true := rfl
  rw [arm, execLdm, if_pos always, badBlock_of_ne_pc hn, unlisted, Bool.or_false]
  rfl

/-- A store multiple with a base that is not R15 refuses only the empty list. -/
theorem exec_stm_of_ne_pc (s : State) (m : BlockMode) (w : Bool) {rn : Reg} (hn : rn ≠ 15) (list : BitVec 16) :
    exec (.stm .al m w rn list) s =
      if list == 0 then .refused .unpredictableOperands else s.storeMultiple m w rn list s.mode := by
  have arm : exec (.stm .al m w rn list) s = execStm .al m w rn list s := rfl
  have always : s.passed .al = true := rfl
  rw [arm, execStm, if_pos always, badBlock_of_ne_pc hn]

/-! A store multiple completes whatever its words do to each other. -/

theorem State.Direct.write_storedOnly {s : State} {va : Word} {w : Width} (h : s.Direct va w) (v : Word) (p : Bool) :
    ∃ t, s.memWrite va w v p = .ok () t ∧ StoredOnly s t := by
  obtain ⟨t, run, elsewhere, frame⟩ := h.memWrite v p
  have put : t.mem = (s.putBytes (s.directLane va w) v w.bytes).mem := by rw [frame]
  exact ⟨t, run, by rw [put]; exact frame, elsewhere⟩

theorem State.DirectBlock.writeBlockRegs_storedOnly {s : State} {va : Word} {l : List (Reg × Word)}
    (h : s.DirectBlock va l.length) (p : Bool) : ∃ t, s.writeBlockRegs 0xFFFF va p l = .ok t ∧ StoredOnly s t := by
  induction l generalizing s va with
  | nil => exact ⟨s, rfl, rfl, .refl s⟩
  | cons x l ih =>
    obtain ⟨s1, run, only⟩ := h.head.write_storedOnly x.2 p
    have next : (if l.isEmpty then s1 else s1.busGap) = s1 := by
      rw [State.busGap_alone (only.midBus.trans h.alone), ite_self]
    have kept : ∀ r : Reg, bitAt (0xFFFF : BitVec 16) r.toNat = true := by decide
    obtain ⟨t, rest, done⟩ := ih (h.tail.of_storedOnly only)
    refine ⟨t, ?run, only.trans done⟩
    simp only [State.writeBlockRegs, State.writeWord, kept, if_true, run, next, rest, BlockWrite.succ]

theorem State.storeMultiple_writesBase {s : State} {m : BlockMode} {rn : Reg} {list : BitVec 16} (bank : Mode)
    (hn : rn ≠ 15) (direct : s.DirectBlock (blockAddress m (s.reg rn) (listRegs list).length).1 (listRegs list).length)
    (next : s.hasNext) :
    ∃ t, s.storeMultiple m true rn list bank = .next t ∧
      WritesBank s t s.mode [(rn, (blockAddress m (s.reg rn) (listRegs list).length).2)] ∧ t.core.pc = s.nextPc := by
  obtain ⟨a, ha⟩ : ∃ a, a = blockAddress m (s.reg rn) (listRegs list).length := ⟨_, rfl⟩
  obtain ⟨l, hl⟩ : ∃ l, l = (listRegs list).map fun r => (r, s.blockValue bank true rn list r) := ⟨_, rfl⟩
  have length : l.length = (listRegs list).length := by rw [hl, List.length_map]
  rw [← ha, ← length] at direct
  have direct' : (s.consume 1).DirectBlock a.1 l.length :=
    ⟨direct.alone, fun i hi => (direct.words i hi).of_same rfl rfl rfl rfl rfl rfl rfl rfl⟩
  obtain ⟨v, run, stored⟩ := direct'.writeBlockRegs_storedOnly (s.consume 1).privileged
  have core : v.core = s.core := stored.core
  have mode : v.mode = s.mode := stored.mode
  have based := RegsWritten.writeBase v (rn := rn) (b := some a.2) fun _ => hn
  rw [mode] at based
  obtain ⟨t, ended, done⟩ := based.advance core next
  refine ⟨t, ?run, ha ▸ done.regs, by rw [done.core]⟩
  simp only [State.storeMultiple, ← ha, ← hl, run]
  exact ended

/-! The multiples on memory. -/

/-- A store multiple of a list that is not empty goes on with its base written. -/
theorem exec_stm_writesBase {s : State} {m : BlockMode} {rn : Reg} {list : BitVec 16} (some : list ≠ 0) (hn : rn ≠ 15)
    (direct : s.DirectBlock (blockAddress m (s.reg rn) (listRegs list).length).1 (listRegs list).length) (next : s.hasNext) :
    ∃ t, exec (.stm .al m true rn list) s = .next t ∧
      WritesBank s t s.mode [(rn, (blockAddress m (s.reg rn) (listRegs list).length).2)] ∧ t.core.pc = s.nextPc := by
  rw [exec_stm_of_ne_pc s m true hn, beq_false_of_ne some, if_neg Bool.false_ne_true]
  exact State.storeMultiple_writesBase s.mode hn direct next

/-- A load multiple of low registers from its base up, by the rule of LDM(1). -/
theorem Loads.lowRegisters {s : State} (notDbg : s.mode ≠ .dbg) (next : s.hasNext) {rn : Reg} (hn : rn ≠ 15) {w : Bool}
    {list : BitVec 16} (some : list ≠ 0) (noPc : bitAt list 15 = false) (base : w = true → bitAt list rn.toNat = false)
    (direct : s.DirectBlock (s.reg rn) (listRegs list).length) :
    Loads (exec (.ldm .al .ia w rn list) s) s s.mode (s.directBlock (s.reg rn) (listRegs list) ++
      if w then [(rn, s.reg rn + BitVec.ofNat 32 (4 * (listRegs list).length))] else []) := by
  obtain ⟨-, ldm, -⟩ := loadMultiple s .al .ia w rn list 0 rfl notDbg hn
  have loaded := (ldm some base direct).1 noPc next
  dsimp only at loaded
  rw [listRegs_low noPc] at loaded
  exact loaded

/-! The Thumb multiples (R642-R645). -/

/-- LDMIA writes its base back only where the base is not in the list (R642). -/
theorem unlisted_of_writesBack {rn : LowReg} {list : Byte} (back : (!bitAt list rn.toNat) = true) :
    bitAt ((0 : Byte) ++ list : BitVec 16) rn.reg.toNat = false :=
  (bitAt_wide_low 0 list rn).trans ((Bool.not_eq_true' _).mp back)

section
variable (s : State) (list : Byte)

theorem exec_tLdmia (rn : LowReg) : exec (.tLdmia rn list) s =
    exec (.ldm .al .ia (!bitAt list rn.toNat) rn.reg ((0 : Byte) ++ list)) s := by
  have arm : exec (.tLdmia rn list) s = s.thumbLdm (!bitAt list rn.toNat) rn.reg (lowList list) := rfl
  rw [arm, lowList_eq]
  exact State.thumbLdm_eq (lowReg_ne_pc rn) unlisted_of_writesBack

theorem exec_tStmia (rn : LowReg) : exec (.tStmia rn list) s = exec (.stm .al .ia true rn.reg ((0 : Byte) ++ list)) s := by
  have arm : exec (.tStmia rn list) s = execTStmia rn list s := rfl
  rw [arm, execTStmia, exec_stm_of_ne_pc s .ia true (lowReg_ne_pc rn), wide_beq_zero, lowList_eq]

theorem exec_tPush (r : Bool) : exec (.tPush r list) s =
    exec (.stm .al .db true 13 ((if r then 0x40 else 0 : Byte) ++ list)) s := by
  have arm : exec (.tPush r list) s = execTPush r list s := rfl
  rw [arm, execTPush, lowListWith_eq 0x40 14 rfl, exec_stm_of_ne_pc s .db true (by decide)]

theorem exec_tPop (r : Bool) : exec (.tPop r list) s =
    exec (.ldm .al .ia true 13 ((if r then 0x80 else 0 : Byte) ++ list)) s := by
  have arm : exec (.tPop r list) s = s.thumbLdm true 13 (lowListWith r 15 list) := rfl
  have unlisted : bitAt ((if r then 0x80 else 0 : Byte) ++ list : BitVec 16) 13 = false := by
    rw [bitAt_wide_high _ list (by decide)]
    cases r <;> rfl
  rw [arm, lowListWith_eq 0x80 15 rfl]
  exact State.thumbLdm_eq (by decide) fun _ => unlisted

end

/-- Settles O44: the equations, and then the rules of LDM and STM on memory. -/
theorem thumbMultiples : Obligations.ThumbMultiples := by
  intro s rn list r ht wide regs size
  refine ⟨fun out => ?ldmiaBack, fun listed => ?ldmia, exec_tStmia s list rn, exec_tPush s list r, exec_tPop s list r,
    fun some next => ⟨fun notDbg direct => ?loads, fun notDbg direct => ?pops, fun direct => ?stores, fun direct => ?pushes⟩⟩
  case ldmiaBack => rw [exec_tLdmia, out]; rfl
  case ldmia => rw [exec_tLdmia, listed]; rfl
  case loads =>
    have loaded := Loads.lowRegisters (w := !bitAt list rn.toNat) notDbg next (lowReg_ne_pc rn) (wide_ne_zero 0 some)
      (bitAt_wide_high 0 list (by decide)) unlisted_of_writesBack direct
    rw [exec_tLdmia]
    cases listed : bitAt list rn.toNat <;> rwa [listed] at loaded
  case pops =>
    rw [exec_tPop]
    exact Loads.lowRegisters (w := true) notDbg next (by decide) (wide_ne_zero 0 some) (bitAt_wide_high 0 list (by decide))
      (fun _ => bitAt_wide_high 0 list (by decide)) direct
  case stores =>
    rw [exec_tStmia]
    exact exec_stm_writesBase (wide_ne_zero 0 some) (lowReg_ne_pc rn) direct next
  case pushes =>
    rw [exec_tPush]
    exact exec_stm_writesBase (m := .db) (wide_ne_zero 0 some) (by decide) direct next

end Sys2Proof.Machine
end

section
/-! PROOF. The event counters of the performance monitor (60_exceptions.md R731-R733). -/

namespace Sys2Proof.Machine

/-- How many of `n` occurrences of an event the counter counts whose event number stands at bit `lo` of PMNC. -/
def occurrences (k : Cp14) (lo : Nat) (e : Event) (n : Nat) : Nat :=
  if pmuOn k && field k.pmnc lo 8 == e.number then n else 0

theorem countCp14_eq (e : Event) (n : Nat) (k : Cp14) : countCp14 e n k =
    { k with
      pmn0 := k.pmn0 + BitVec.ofNat 32 (occurrences k 12 e n)
      pmn1 := k.pmn1 + BitVec.ofNat 32 (occurrences k 20 e n)
      pmnc := raiseFlag 9 (overflows k.pmn1 (occurrences k 20 e n))
        (raiseFlag 8 (overflows k.pmn0 (occurrences k 12 e n)) k.pmnc) } := rfl

theorem occurrences_of_set {k : Cp14} {lo : Nat} {e : Event} (n : Nat) (on : bitAt k.pmnc 0 = true)
    (set : field k.pmnc lo 8 = e.number) : occurrences k lo e n = n := by
  rw [occurrences, pmuOn, on, set, beq_self_eq_true]
  rfl

theorem occurrences_of_other {k : Cp14} {lo : Nat} {e : Event} (n : Nat) (other : field k.pmnc lo 8 ≠ e.number) :
    occurrences k lo e n = 0 := by
  rw [occurrences, beq_eq_false_iff_ne.mpr other, Bool.and_false, if_neg Bool.false_ne_true]

theorem bitAt_raiseFlag {i j : Nat} (b : Bool) (w : Word) (hi : i < 32) (hj : j < 32) :
    bitAt (raiseFlag i b w) j = (bitAt w j || (decide (j = i) && b)) := by
  cases b
  · simp [raiseFlag]
  · rw [raiseFlag, if_pos rfl, bitAt_setBit true w hi hj]
    by_cases e : j = i <;> simp [e]

/-- PMNC after counting: its two flags are raised where their counters pass their maximum. -/
theorem bitAt_countCp14_pmnc (e : Event) (n : Nat) (k : Cp14) {i : Nat} (hi : i < 32) :
    bitAt (countCp14 e n k).pmnc i =
      (bitAt k.pmnc i || (decide (i = 8) && overflows k.pmn0 (occurrences k 12 e n)) ||
        (decide (i = 9) && overflows k.pmn1 (occurrences k 20 e n))) := by
  rw [countCp14_eq, bitAt_raiseFlag _ _ (by decide) hi, bitAt_raiseFlag _ _ (by decide) hi]

theorem overflows_zero (w : Word) : overflows w 0 = false := decide_eq_false (Nat.not_le.mpr w.isLt)

theorem toNat_add_count (w : Word) (n : Nat) : (w + BitVec.ofNat 32 n).toNat = (w.toNat + n) % 2 ^ 32 := by
  rw [BitVec.toNat_add, BitVec.toNat_ofNat, Nat.add_mod_mod]

/-- Settles O59: each counter adds the occurrences of its event, and raises its own flag only. -/
theorem eventCounters : Obligations.EventCounters := by
  intro e n k s _ t
  have flag0 : bitAt t.pmnc 8 = (bitAt k.pmnc 8 || overflows k.pmn0 (occurrences k 12 e n)) :=
    (bitAt_countCp14_pmnc e n k (by decide)).trans (by simp)
  have flag1 : bitAt t.pmnc 9 = (bitAt k.pmnc 9 || overflows k.pmn1 (occurrences k 20 e n)) :=
    (bitAt_countCp14_pmnc e n k (by decide)).trans (by simp)
  have count0 : t.pmn0 = k.pmn0 + BitVec.ofNat 32 (occurrences k 12 e n) := rfl
  have count1 : t.pmn1 = k.pmn1 + BitVec.ofNat 32 (occurrences k 20 e n) := rfl
  refine ⟨fun off => countCp14_off off, fun on set => ?counts0, fun other => ?stays0, fun on set => ?counts1,
    fun other => ?stays1, rfl, fun i hi h8 h9 => ?others, rfl⟩
  case counts0 =>
    rw [occurrences_of_set n on set] at count0 flag0
    exact ⟨by rw [count0, toNat_add_count], flag0⟩
  case counts1 =>
    rw [occurrences_of_set n on set] at count1 flag1
    exact ⟨by rw [count1, toNat_add_count], flag1⟩
  case stays0 =>
    rw [occurrences_of_other n other] at count0 flag0
    exact ⟨count0.trans (BitVec.add_zero _), by rw [flag0, overflows_zero, Bool.or_false]⟩
  case stays1 =>
    rw [occurrences_of_other n other] at count1 flag1
    exact ⟨count1.trans (BitVec.add_zero _), by rw [flag1, overflows_zero, Bool.or_false]⟩
  case others =>
    refine (bitAt_countCp14_pmnc e n k hi).trans ?_
    rw [decide_eq_false h8, decide_eq_false h9, Bool.false_and, Bool.false_and, Bool.or_false, Bool.or_false]

end Sys2Proof.Machine
end

section
/-! PROOF. The undefined encodings and SWI take their exceptions (60_exceptions.md R672, R673). -/

namespace Sys2Proof.Machine

/-- Undefined Instruction is taken, or in Special Debug State refused (93 U32). -/
theorem State.undefined_takes (s : State) :
    if s.sds then s.undefined = .refused .exceptionInSds else TakesException s.undefined s .und 0x04 s.nextPc := by
  split
  next sds => exact if_pos sds
  next sds => exact .undefined (Bool.eq_false_of_not_eq_true sds) rfl

/-- So is Software Interrupt. -/
theorem State.softwareInterrupt_takes (s : State) :
    if s.sds then s.softwareInterrupt = .refused .exceptionInSds
    else TakesException s.softwareInterrupt s .svc 0x08 s.nextPc := by
  split
  next sds => exact if_pos sds
  next sds =>
    rw [State.softwareInterrupt, if_neg sds]
    exact .takeByInstruction s 0x08 rfl

/-- Settles O26: what each of them runs is the Undefined Instruction exception or the Software Interrupt. -/
theorem undefinedAndSwiAreTaken : Obligations.UndefinedAndSwiAreTaken := by
  intro s c low28 low20 low16 low12 low10 imm24 b x4 y4 z4 w4 v4 a3 b3 l k takes undefined
  have undef {i : Instr} (h : exec i s = s.undefined) : undefined i := by
    show if s.sds then exec i s = _ else TakesException (exec i s) s .und 0x04 s.nextPc
    rw [h]
    exact s.undefined_takes
  have swi {i : Instr} (h : exec i s = s.softwareInterrupt) : takes i .svc 0x08 := by
    show if s.sds then exec i s = _ else TakesException (exec i s) s .svc 0x08 s.nextPc
    rw [h]
    exact s.softwareInterrupt_takes
  refine ⟨undef rfl, undef rfl, undef rfl, undef rfl, undef rfl, swi rfl, fun passed => ?conditional⟩
  have conditional {i : Instr} {r : Result} (h : exec i s = if s.passed c then r else s.advance) : exec i s = r :=
    h.trans (if_pos passed)
  exact ⟨undef (conditional rfl), undef (conditional rfl), undef (conditional rfl), undef (conditional rfl),
    undef (conditional rfl), undef (conditional rfl), undef (conditional rfl), undef (conditional rfl),
    undef (conditional rfl), undef (conditional rfl), swi (conditional rfl)⟩

end Sys2Proof.Machine
end

section
/-! PROOF. The return instructions undo the entry to IRQ, FIQ and SWI (60_exceptions.md R690). -/

namespace Sys2Proof.Machine

/-! What a handler sees after the entry (60_exceptions.md R670). -/

theorem ExceptionAfter.current_mode {s t : State} {m : Mode} {setF : Bool} {vector link : Word}
    (h : ExceptionAfter s t m setF vector link) : t.mode = m := by
  rw [State.mode, modeOf, h.mode, Mode.ofBits_bits]
  rfl

/-- R14 of the handler is the link. -/
theorem ExceptionAfter.reg_link {s t : State} {m : Mode} {setF : Bool} {vector link : Word}
    (h : ExceptionAfter s t m setF vector link) : t.reg 14 = link := by
  rw [State.reg_of_ne (by decide), h.current_mode]
  exact h.regs.written (14, link) List.mem_cons_self

/-- A return leaves memory alone. -/
theorem State.returnTo_mem {s t : State} {v : Word} (h : s.returnTo v = .next t) : t.mem = s.mem := by
  unfold State.returnTo at h
  split at h
  · cases h
  next s1 restored =>
    obtain ⟨w, m, -, -, -, rfl⟩ := State.restoreCpsr_ok restored
    cases h
    rw [State.setPc_mem, State.traceIndirect_mem]
    split <;> rfl

/-- An aligned address goes to the PC as it is (10_state.md R35 (e)). -/
theorem alignForState_of_mod {thumb : Bool} {v : Word} (h : v.toNat % (if thumb then 2 else 4) = 0) :
    alignForState thumb v = v := by
  cases thumb
  · have aligned : v.toNat % 4 = 0 := h
    refine BitVec.eq_of_toNat_eq ((wordAddr_toNat v).trans ?_)
    omega
  · refine bitAt_zero_and_even v ?_
    rw [bitAt, BitVec.getLsbD, Nat.testBit_zero]
    exact decide_eq_false (by rw [show v.toNat % 2 = 0 from h]; decide)

/-- A return from a handler to an aligned address of the interrupted program: the CPSR is the one saved. -/
theorem ExceptionAfter.returnTo {s t : State} {m : Mode} {setF : Bool} {vector link v : Word}
    (h : ExceptionAfter s t m setF vector link) (legal : s.legalMode = true) (notDbg : s.mode ≠ .dbg)
    (aligned : v.toNat % (if s.thumb then 2 else 4) = 0) :
    ∃ u, t.returnTo v = .next u ∧ u.core.pc = v ∧ u.core.cpsr = s.core.cpsr ∧ u.mem = t.mem := by
  obtain ⟨m', names⟩ := Option.isSome_iff_exists.mp legal
  have mode : s.mode = m' := by rw [State.mode, modeOf, names]; rfl
  obtain ⟨u, run, core, -⟩ := State.returnTo_of_spsr v (h.current_mode.symm ▸ h.saved) names (mode ▸ notDbg)
  refine ⟨u, run, ?_, by rw [core], State.returnTo_mem run⟩
  rw [core]
  exact (alignForState_eq _ v).symm.trans (alignForState_of_mod aligned)

/-! The return instructions (60_exceptions.md R690). -/

theorem exec_subs_pc_link (t : State) : exec (.sub .al true 14 15 (.imm 0 4)) t = t.returnTo (t.reg 14 - 4) := by
  have row := exec_dataRows (s := t) (c := .al) (rn := 14) (rd := 15) (op2 := .imm 0 4) rfl rfl true
    (differenceRow (.sub .al true 14 15 (.imm 0 4)) (t.reg 14) (t.shifter (.imm 0 4)).1 false) (by simp [dataRows])
  have four : (t.shifter (.imm 0 4)).1 = 4 := rfl
  refine row.trans (congrArg t.returnTo ?_)
  show t.reg 14 - (t.shifter (.imm 0 4)).1 - 0 = _
  rw [four]
  exact BitVec.sub_zero _

theorem exec_movs_pc_link (t : State) : exec (.mov .al true 0 15 (.shiftImm 0 .lsl 14)) t = t.returnTo (t.reg 14) := rfl

/-- SUBS PC, R14, #4 after an entry whose link is the PC + 4. -/
theorem ExceptionAfter.subs_pc_link {s t : State} {m : Mode} {setF : Bool} {vector : Word}
    (h : ExceptionAfter s t m setF vector (s.core.pc + 4)) (legal : s.legalMode = true) (notDbg : s.mode ≠ .dbg)
    (aligned : s.pcAligned = true) : ∃ u, exec (.sub .al true 14 15 (.imm 0 4)) t = .next u ∧ u.core.pc = s.core.pc ∧
      u.core.cpsr = s.core.cpsr ∧ u.mem = t.mem := by
  rw [exec_subs_pc_link, h.reg_link, BitVec.add_sub_cancel]
  exact h.returnTo legal notDbg (s.pcAligned_iff.mp aligned)

/-- Settles O54: the link and the saved CPSR of each entry are what the return needs. -/
theorem returnUndoesEntry : Obligations.ReturnUndoesEntry := by
  intro s imm24 legal notDbg aligned sds
  have undone {m : Mode} {setF : Bool} {vector : Word} (hm : m.spsrIndex.isSome = true) :=
    (ExceptionAfter.takeException s (m := m) setF vector (s.core.pc + 4) hm).subs_pc_link legal notDbg aligned
  have memory (m : Mode) (setF : Bool) (vector : Word) : (s.takeException m setF vector (s.core.pc + 4)).mem = s.mem :=
    congrArg Prod.fst (s.takeException_memorySide m setF vector (s.core.pc + 4))
  refine ⟨?irq, ?fiq, ?swi⟩
  case irq =>
    obtain ⟨t, run, pc, cpsr, mem⟩ := undone (m := .irq) (setF := false) (vector := 0x18) rfl
    exact ⟨t, run, pc, cpsr, mem.trans (memory ..)⟩
  case fiq =>
    obtain ⟨t, run, pc, cpsr, mem⟩ := undone (m := .fiq) (setF := true) (vector := 0x1C) rfl
    exact ⟨t, run, pc, cpsr, mem.trans (memory ..)⟩
  case swi =>
    have run : exec (.swi .al imm24) s = .next (s.takeByInstruction .svc 0x08) := if_neg (by rw [sds]; decide)
    obtain ⟨t, taken, after, -⟩ := TakesException.takeByInstruction s (m := .svc) 0x08 rfl
    cases taken
    obtain ⟨u, returned, pc, cpsr, mem⟩ := after.returnTo legal notDbg (State.nextPc_mod aligned)
    refine ⟨_, u, run, ?_, pc, cpsr, mem.trans (congrArg Prod.fst (s.takeByInstruction_memorySide .svc 0x08))⟩
    rw [exec_movs_pc_link, after.reg_link, returned]

end Sys2Proof.Machine
end

section
/-! PROOF. What a step takes instead of an instruction: interrupts, imprecise and prefetch aborts, breakpoints
(60_exceptions.md R663, R674-R677, R680, R686, R700, 61_debug_and_jtag.md R772-R777). -/

namespace Sys2Proof.Machine

/-! The end of a step that takes an exception. -/

/-- The clock and the end of the step change counts of the monitor only. -/
theorem State.tick_endStep (s : State) : s.tick.endStep =
    { s with
      cp14 := { s.cp14 with
        pmnc := s.tick.cp14.pmnc, ccnt := s.tick.cp14.ccnt, ccntPhase := s.tick.cp14.ccntPhase, pmn0 := s.tick.cp14.pmn0
        pmn1 := s.tick.cp14.pmn1 }
      freeCtr := s.tick.freeCtr
      storing := [] } := by
  cases on : pmuOn s.cp14
  · simp [State.tick, on, State.endStep]
  · simp [State.tick, tickCp14, on, State.endStep, State.consume, State.countN, countCp14]

theorem ExceptionAfter.endStep {s t : State} {m : Mode} {setF : Bool} {vector link : Word}
    (h : ExceptionAfter s t m setF vector link) : ExceptionAfter s t.tick.endStep m setF vector link := by
  rw [State.tick_endStep]
  exact ⟨h.pc, ⟨h.regs.written, h.regs.others⟩, h.saved, h.otherSaved, h.mode, h.thumb, h.fiqMask, h.irqMask, h.flags,
    h.accumulator, h.memory, h.predictor⟩

theorem DebugEntry.endStep {s t : State} {moe : BitVec 3} {vector : Word} (h : DebugEntry s t moe vector) :
    DebugEntry s t.tick.endStep moe vector := by
  have monitor := fun off => (h.monitor off).imp_left ExceptionAfter.endStep
  rw [State.tick_endStep] at monitor ⊢
  exact ⟨h.method, h.traceOff, h.halt, monitor⟩

/-- A step without inputs, of a core that executes, is its boundary. -/
theorem step_of_executes {s : State} (inputs : s.inputs = []) (bus : s.midBus = []) (running : s.executes = true)
    (legal : s.legalMode = true) : step s = mapNext State.endStep s.runBoundary := by
  have rest : s.busRest = s := by rw [State.busRest, bus]
  have popped : s.popInputs = .ok s := by simp only [State.popInputs, rest, inputs]
  rw [step, popped]
  exact State.proceed_of_executes running legal

/-! Debug exceptions (61_debug_and_jtag.md R766, R772, R773). -/

/-- The entry of Halt mode or of Monitor mode. -/
theorem DebugEntry.takeDebug {s : State} (outside : s.sds = false) (c : DebugCause) :
    DebugEntry s (s.takeDebug c) c.moe (if c.isPrefetch then 0x0C else 0x10) := by
  cases mode : s.haltMode with
  | true =>
    obtain ⟨method, off⟩ := s.noteDebugEntry_dcsr c
    obtain ⟨written, -⟩ := s.enterHalt_regs c (s.core.pc + 4)
    rw [State.takeDebug, mode, if_pos rfl]
    refine ⟨method, off, fun _ => ⟨rfl, written (14, s.core.pc + 4) List.mem_cons_self, s.enterHalt_spsr _ _,
      (field_handlerCpsr_masked .dbg _).trans (by decide), rfl, fun _ => rfl⟩, fun monitor => ?_⟩
    exact absurd (mode.symm.trans monitor) Bool.noConfusion
  | false =>
    have entered := MonitorEntered.enterMonitor s c (s.core.pc + 4)
    rw [State.takeDebug, mode, if_neg Bool.false_ne_true]
    refine ⟨entered.method, entered.traceOff, fun halt => absurd (mode.symm.trans halt) Bool.noConfusion, fun _ => ?_⟩
    exact ⟨entered.exception, entered.debugFault, entered.sds.trans outside⟩

/-! Fault status (60_exceptions.md R680, R686). -/

/-- The fault status of an abort outside debug: the code, in its two places. -/
theorem fsrValue_code (code : BitVec 5) (domain : BitVec 4) :
    bitAt (fsrValue false code domain) 9 = false ∧ bitAt (fsrValue false code domain) 10 = bitAt code 4 ∧
      field (fsrValue false code domain) 0 4 = field code 0 4 ∧ field (fsrValue false code domain) 4 4 = domain := by
  revert code domain
  decide

/-- An abort writes the fault status that was recorded before the exception. -/
theorem State.takeException_cp15 (s : State) (m : Mode) (setF : Bool) (offset link : Word) :
    (s.takeException m setF offset link).cp15 = s.cp15 := (SameWithoutAccess.takeException s m setF offset link).elsewhere.cp15

theorem State.takeException_imprecise (s : State) (m : Mode) (setF : Bool) (offset link : Word) :
    (s.takeException m setF offset link).pending.imprecise = s.pending.imprecise := by
  have rest := congrArg (fun x : State => x.pending.imprecise)
    (SameWithoutAccess.takeException s m setF offset link).elsewhere.rest
  exact rest

/-- What an imprecise data abort leaves. -/
theorem State.takeImprecise_after {s : State} (outside : s.sds = false) (parity : Bool) :
    ExceptionAfter s (s.takeImprecise parity) .abt false 0x10 (s.core.pc + 4) ∧
      (s.takeImprecise parity).pending.imprecise = none ∧
      bitAt (s.takeImprecise parity).cp15.fsr 9 = false ∧ bitAt (s.takeImprecise parity).cp15.fsr 10 = true ∧
      field (s.takeImprecise parity).cp15.fsr 0 4 = (if parity then 0b1000 else 0b0110) := by
  have taken : s.takeImprecise parity = _ := if_neg (Bool.eq_false_iff.mp outside)
  rw [taken, State.takeException_imprecise, State.takeException_cp15]
  obtain ⟨debug, external, status, -⟩ := fsrValue_code (if parity then 0b11000 else 0b10110) (field (s.free 0) 0 4)
  refine ⟨(ExceptionAfter.takeException _ (m := .abt) false 0x10 (s.core.pc + 4) rfl).of_same rfl rfl rfl rfl, rfl, debug,
    external.trans ?_, status.trans ?_⟩
  · cases parity <;> rfl
  · cases parity <;> rfl

/-- What a prefetch abort leaves. -/
theorem State.takePrefetchAbort_after (s : State) (c : PrefetchCause) :
    ExceptionAfter s (s.takePrefetchAbort c) .abt false 0x0C (s.core.pc + 4) ∧
      bitAt (s.takePrefetchAbort c).cp15.fsr 9 = false ∧ bitAt (s.takePrefetchAbort c).cp15.fsr 10 = true ∧
      field (s.takePrefetchAbort c).cp15.fsr 0 4 =
        (match c with | .mmu => 0b0000 | .external => 0b0110 | .parity => 0b1000) := by
  rw [State.takePrefetchAbort, State.takeException_cp15]
  obtain ⟨debug, external, status, -⟩ := fsrValue_code c.code (field (s.free 0) 0 4)
  refine ⟨(ExceptionAfter.takeException _ (m := .abt) false 0x0C (s.core.pc + 4) rfl).of_same rfl rfl rfl rfl, debug,
    external.trans ?_, status.trans ?_⟩
  · cases c <;> rfl
  · cases c <;> rfl

theorem State.endStep_cp15 (s : State) : s.tick.endStep.cp15 = s.cp15 := by rw [State.tick_endStep]

theorem State.endStep_pending (s : State) : s.tick.endStep.pending = s.pending := by rw [State.tick_endStep]

/-! What the boundary takes (60_exceptions.md R663). -/

section
variable {s t : State} (inputs : s.inputs = []) (bus : s.midBus = []) (running : s.executes = true) (legal : s.legalMode = true)
include inputs bus running legal

theorem step_of_taken (taken : s.boundary = .taken t) : step s = .next t.tick.endStep := by
  rw [step_of_executes inputs bus running legal, State.runBoundary, taken]
  rfl

end

section
variable {s : State} (trap : s.vectorTrap = false)
include trap

theorem State.boundary_dataBkpt (due : s.dataBkptDue = true) : s.boundary = .taken (s.takeDebug .dataBkpt) := by
  rw [State.boundary, trap, if_neg Bool.false_ne_true, if_pos due]

variable (bkpt : s.dataBkptDue = false)
include bkpt

/-- An imprecise abort that must be taken (60_exceptions.md R686). -/
theorem State.boundary_imprecise {a : ImpreciseAbort} (pending : s.pending.imprecise = some a) (now : a.boundaries = some 0) :
    s.boundary = .taken ((s.consume 1).takeImprecise a.parity) := by
  have due : s.impreciseDue = some a := by simp only [State.impreciseDue, pending, if_pos now]
  simp only [State.boundary, trap, bkpt, due, Bool.false_eq_true, if_false]

theorem State.boundary_lower {t : State} (imprecise : s.pending.imprecise = none) (lower : s.lowerEvent = some t) :
    s.boundary = .taken t := by
  have due : s.impreciseDue = none := by rw [State.impreciseDue, imprecise]
  have deferred : s.deferImprecise = s := by rw [State.deferImprecise, imprecise]
  simp only [State.boundary, trap, bkpt, due, deferred, lower, Bool.false_eq_true, if_false]

end

section
variable {s : State} (breaks : (s.breaksTaken && (s.pending.extBreak || s.pending.traceFull)) = false)
include breaks

/-- Without a break, the interrupts and the instruction breakpoint, in the order of their priority. -/
theorem State.lowerEvent_of_breaks : s.lowerEvent =
    if s.fiqDue then some s.takeFiq else if s.irqDue then some s.takeIrq
    else if s.instrBkptDue then some (s.takeDebug .instrBkpt) else none := by
  obtain ⟨ext, full⟩ : (s.breaksTaken && s.pending.extBreak) = false ∧ (s.breaksTaken && s.pending.traceFull) = false := by
    rwa [Bool.and_or_distrib_left, Bool.or_eq_false_iff] at breaks
  simp only [State.lowerEvent, ext, full, Bool.false_eq_true, if_false]

variable (outside : s.sds = false)
include outside

theorem State.lowerEvent_fiq (line : s.pending.fiqLine = true) (unmasked : bitAt s.core.cpsr 6 = false) :
    s.lowerEvent = some s.takeFiq := by
  rw [State.lowerEvent_of_breaks breaks, if_pos]
  simp only [State.fiqDue, line, unmasked, outside, Bool.not_false, Bool.and_self]

theorem State.lowerEvent_irq (line : s.pending.irqLine = true) (unmasked : bitAt s.core.cpsr 7 = false)
    (noFiq : s.pending.fiqLine = false ∨ bitAt s.core.cpsr 6 = true) : s.lowerEvent = some s.takeIrq := by
  have fiq : s.fiqDue = false := by rcases noFiq with h | h <;> simp [State.fiqDue, h]
  have irq : s.irqDue = true := by simp only [State.irqDue, line, unmasked, outside, Bool.not_false, Bool.and_self]
  rw [State.lowerEvent_of_breaks breaks, fiq, irq, if_neg Bool.false_ne_true, if_pos rfl]

/-- An instruction breakpoint that matches (61_debug_and_jtag.md R775). -/
theorem State.lowerEvent_instrBkpt (fiq : s.fiqDue = false) (irq : s.irqDue = false) (on : s.debugOn = true) {r : Word}
    (either : r = s.cp15.ibcr0 ∨ r = s.cp15.ibcr1) (matched : ibcrMatch s.thumb (s.mva s.core.pc) r = true) :
    s.lowerEvent = some (s.takeDebug .instrBkpt) := by
  have due : s.instrBkptDue = true := by
    rcases either with rfl | rfl <;> simp [State.instrBkptDue, on, outside, matched]
  rw [State.lowerEvent_of_breaks breaks, fiq, irq, due]
  rfl

end

/-- An enabled breakpoint register matches the instruction that its address lies in. -/
theorem ibcrMatch_of_div {thumb : Bool} {mva r : Word} (enabled : bitAt r 0 = true)
    (same : mva.toNat / (if thumb then 2 else 4) = r.toNat / (if thumb then 2 else 4)) : ibcrMatch thumb mva r = true := by
  rw [ibcrMatch, enabled, Bool.true_and]
  cases thumb
  · exact (field_high_beq (n := 2) (k := 30) rfl mva r).trans (decide_eq_true same.symm)
  · exact (field_high_beq (n := 1) (k := 31) rfl mva r).trans (decide_eq_true same.symm)

/-! A fetch that aborts (60_exceptions.md R674, R680). -/

/-- A fetch leaves memory and its buffers alone. -/
theorem State.fetchWord_memorySide {s t : State} (h : s.fetchWord.after? = some t) : t.memorySide = s.memorySide := by
  unfold State.fetchWord at h
  dsimp only at h
  split at h
  · split at h <;> rename_i e
    · cases h
    · cases h
      exact State.translateChecked_memorySide (by rw [e]; rfl)
    · exact (State.fetchAt_memorySide h).trans (State.translateChecked_memorySide (by rw [e]; rfl))
  · exact State.fetchAt_memorySide h

/-- The prefetch abort of a fetch, from the state before the fetch. -/
theorem State.fetchWord_abort {s u : State} {c : PrefetchCause} (fetch : s.fetchWord = .abort c u) :
    u.sds = s.sds ∧ ExceptionAfter s (u.takePrefetchAbort c) .abt false 0x0C (s.core.pc + 4) := by
  have ended : s.fetchWord.after? = some u := by rw [fetch]; rfl
  have frame := AccessFrame.fetchWord ended
  have abort := (u.takePrefetchAbort_after c).1
  rw [frame.core] at abort
  exact ⟨frame.sds, abort.of_same frame.core (by rw [frame.cp15])
    (congrArg Prod.fst (State.fetchWord_memorySide ended)) (by rw [frame.eq])⟩

/-- Which faults of a translation a prefetch abort reports as external (92 D24). -/
theorem AbortCause.ofFetch_eq (cause : AbortCause) : cause.ofFetch =
    if cause = .walkFirst ∨ cause = .walkSecond (cause.domain?.getD 0) then .external else .mmu := by
  cases cause <;> simp [AbortCause.ofFetch, AbortCause.domain?]

theorem State.privileged_eq (s : State) : s.privileged = (s.mode != .usr) := rfl

/-! A data breakpoint at a load (61_debug_and_jtag.md R777). -/

/-- The four bytes of an aligned word hold an address. -/
theorem anyByte_word {a r : Word} (aligned : a.toNat % 4 = 0) :
    anyByte (fun b => b == r) a 4 = decide (r.toNat / 4 = a.toNat / 4) := by
  have ha := a.isLt
  simp only [anyByte, Bool.or_false, beq_eq_decide, ← Bool.decide_or, decide_eq_decide, BitVec.toNat_eq, BitVec.toNat_add,
    BitVec.toNat_ofNat]
  omega

/-- A load of an aligned word, compared with the two breakpoint registers. -/
theorem Cp15.bkptMatch_word {c : Cp15} {a : Word} (aligned : a.toNat % 4 = 0) (pair : bitAt c.dbcon 8 = false)
    (selects : BitVec 2 → Bool) : c.bkptMatch .word a selects =
      ((selects (field c.dbcon 0 2) && decide (c.dbr0.toNat / 4 = a.toNat / 4)) ||
        (selects (field c.dbcon 2 2) && decide (c.dbr1.toNat / 4 = a.toNat / 4))) := by
  have bytes : bkptBytes .word a = (a, 4) := if_neg (Bool.eq_false_iff.mp ((misaligned_word_iff a).mpr aligned))
  simp only [Cp15.bkptMatch, bytes, pair, Bool.false_eq_true, if_false, anyByte_word aligned]

theorem bkptType_load (e : BitVec 2) : bkptType e false = decide (e = 2 ∨ e = 3) := by
  revert e
  decide

theorem not_bkptType_load {e : BitVec 2} (h : e = 0 ∨ e = 1) : bkptType e false = false := by
  revert e
  decide

/-- The low bits of the address of a word are those of its MVA. -/
theorem State.mva_word_aligned (s : State) {va : Word} (h : va.toNat % 4 = 0) : (s.mva va).toNat % 4 = 0 := by
  rw [← misaligned_word_iff, s.misaligned_mva, misaligned_word_iff]
  exact h

/-- The request of a data breakpoint is that of the comparison, and of no later step of the read. -/
theorem State.Direct.memRead_pending {s : State} {va : Word} {w : Width} (h : s.Direct va w) (p : Bool) :
    ∃ s1, s.memRead va w p = .ok (s.directValue va w) s1 ∧ s1.core = s.core ∧
      s1.pending = (s.noteAccess w (s.mva va) false).pending := by
  have noted := OnlyNoted.noteAccess s w (s.mva va) false
  obtain ⟨s1, load, only, -⟩ := (noted.direct h).loadAt
  rw [noted.mva, noted.directValue] at load
  refine ⟨s1, by simp only [State.memRead, h.prepare, load], ?_, ?_⟩
  · rw [only, noted.core]
  · rw [only]

/-- A load of a word that memory answers notes the comparison with the breakpoint registers. -/
theorem exec_ldr_dataBkpt {s : State} {c : Cond} {u : Bool} {rn rd : Reg} {off : BitVec 12} (hc : s.passed c = true)
    (hd : rd ≠ 15) (notDbg : s.mode ≠ .dbg) (next : s.hasNext)
    (direct : s.Direct (addedOffset u (s.reg rn) (off.zeroExtend 32)) .word) :
    ∃ t, exec (.ldr c .offset u rn rd (.imm off)) s = .next t ∧ t.pending.dataBkpt =
      (s.noteAccess .word (s.mva (addedOffset u (s.reg rn) (off.zeroExtend 32))) false).pending.dataBkpt := by
  obtain ⟨s1, read, core, pending⟩ := direct.memRead_pending s.privileged
  have done (v : Word) := State.advance_at (u := s1.setReg rd v) next (by rw [State.setReg_pc, core])
    (by rw [State.thumb, State.thumb, State.setReg_cpsr, core])
  obtain ⟨v, run⟩ : ∃ v, exec (.ldr c .offset u rn rd (.imm off)) s = (s1.setReg rd v).advance := by
    rw [exec_ldr notDbg, State.load2_good _ _ _ _ hc hd rfl (badBase_eq_false (.inl rfl)), State.address2_va]
    simp only [State.loadSingle, State.address2_va, accessAddress, State.offset2, read, if_neg hd]
    exact ⟨_, rfl⟩
  refine ⟨_, run.trans (done v), ?_⟩
  rw [(SameWithoutAccess.traceInstr _).dataBkpt, State.setReg_of_ne _ hd, ← pending]
  rfl

theorem State.noteAccess_dataBkpt {s : State} (on : s.debugOn = true) (outside : s.sds = false) (w : Width) (mva : Word)
    (store : Bool) : (s.noteAccess w mva store).pending.dataBkpt =
      (s.cp15.bkptMatch w mva (bkptType · store) || s.pending.dataBkpt) := by
  rw [State.noteAccess, State.noteMatch, on, outside]
  cases s.cp15.bkptMatch w mva (bkptType · store) <;> rfl

/-- Settles O53: the boundary takes what is pending by its priority, a fetch that aborts is a prefetch abort, and a load
asks for a data breakpoint where its word holds the address of an enabled register. -/
theorem interruptsAreTaken : Obligations.InterruptsAreTaken := by
  refine ⟨fun s inputs bus running legal trap => ?boundary, fun s s1 c quiet outside fetch => ?fetch,
    fun s s1 cause mmu outside fault => ?translation, ?load⟩
  case boundary =>
    have taken {t : State} (h : s.boundary = .taken t) := step_of_taken inputs bus running legal h
    refine ⟨fun due => ?dataBkpt, fun bkpt outside a pending now => ?imprecise, fun bkpt imprecise breaks outside => ?lower⟩
    case dataBkpt =>
      have outside : s.sds = false := (Bool.not_eq_true' _).mp (Bool.and_eq_true_iff.mp due).2
      exact ⟨_, taken (State.boundary_dataBkpt trap due), (DebugEntry.takeDebug outside .dataBkpt).endStep⟩
    case imprecise =>
      obtain ⟨exception, none, debug, external, status⟩ := State.takeImprecise_after (s := s.consume 1) outside a.parity
      refine ⟨_, taken (State.boundary_imprecise trap bkpt pending now),
        (exception.of_same (s := s) rfl rfl rfl rfl).endStep, ?_⟩
      rw [State.endStep_pending, State.endStep_cp15]
      exact ⟨none, debug, external, status⟩
    case lower =>
      have lower {t : State} (h : s.lowerEvent = some t) := taken (State.boundary_lower trap bkpt imprecise h)
      refine ⟨fun line unmasked => ?fiq, fun line unmasked noFiq => ?irq,
        fun fiq irq on r either enabled same => ?instrBkpt⟩
      case fiq =>
        exact ⟨_, lower (State.lowerEvent_fiq breaks outside line unmasked),
          (ExceptionAfter.takeException s true _ _ rfl).endStep⟩
      case irq =>
        exact ⟨_, lower (State.lowerEvent_irq breaks outside line unmasked noFiq),
          (ExceptionAfter.takeException s false _ _ rfl).endStep⟩
      case instrBkpt =>
        exact ⟨_, lower (State.lowerEvent_instrBkpt breaks outside fiq irq on either (ibcrMatch_of_div enabled same)),
          (DebugEntry.takeDebug outside .instrBkpt).endStep⟩
  case fetch =>
    obtain ⟨sds, exception⟩ := State.fetchWord_abort fetch
    obtain ⟨-, status⟩ := s1.takePrefetchAbort_after c
    have run : s.runNext = .next (s1.takePrefetchAbort c).tick := by
      simp only [State.runNext, fetch, outside, Bool.false_eq_true, if_false]
    refine ⟨(s1.takePrefetchAbort c).tick.endStep, by rw [step_of_quiet quiet, run]; rfl, exception.endStep, ?_⟩
    rw [State.endStep_cp15]
    exact status
  case translation =>
    have mva : s.fetchMva = s.mva s.core.pc := by
      simp only [State.fetchMva, State.mvaToFetch, outside, Bool.false_eq_true, if_false]
    rw [← AbortCause.ofFetch_eq]
    simp only [State.fetchWord, mva, mmu, outside, Bool.not_false, Bool.and_self, if_true, s.privileged_eq, fault]
  case load =>
    intro s c u rn rd off va near hc hd notDbg next aligned direct on outside pair
    obtain ⟨t, run, noted⟩ := exec_ldr_dataBkpt hc hd notDbg next direct
    rw [State.noteAccess_dataBkpt on outside, Cp15.bkptMatch_word (s.mva_word_aligned aligned) pair] at noted
    refine ⟨fun hit load => ⟨t, run, ?hit⟩, fun first second => ⟨t, run, ?miss⟩⟩
    case hit =>
      have same : decide (s.cp15.dbr0.toNat / 4 = (s.mva va).toNat / 4) = true := decide_eq_true hit
      rw [noted, bkptType_load, decide_eq_true load, same]
      rfl
    case miss =>
      have misses {e : BitVec 2} {r : Word} (h : ¬ near r ∨ e = 0 ∨ e = 1) :
          (bkptType e false && decide (r.toNat / 4 = (s.mva va).toNat / 4)) = false := by
        rcases h with far | other
        · rw [decide_eq_false far, Bool.and_false]
        · rw [not_bkptType_load other, Bool.false_and]
      rw [noted, misses first, misses second]
      rfl

end Sys2Proof.Machine
end

section
/-! PROOF. How a precise data abort ends an instruction, and the single accesses, the pairs, the swaps and the coprocessor
accesses that take one (60_exceptions.md R675, R681, R682, 44_arm_load_store.md R491, R493, R507, R508, R530, R531,
41_coprocessor_access.md R368, R369). -/

namespace Sys2Proof.Machine

/-! The abort of an access (60_exceptions.md R675, R681). -/

/-- A cause of an abort is reported by this status, in this domain where the table calls it valid, with a valid FAR. -/
structure AbortCause.Reports (c : AbortCause) (code : BitVec 4) (domain : Option (BitVec 4)) : Prop where
  spelled : c.code = 0#1 ++ code
  domain : c.domain? = domain
  farValid : c.farValid = true

theorem AbortCause.alignment_reports : AbortCause.alignment.Reports 0b0001 none := ⟨rfl, rfl, rfl⟩

theorem AbortCause.reports_of_mem {c : AbortCause} {code d : BitVec 4} {domain : Option (BitVec 4)}
    (h : (c, code, domain) ∈ faultRows d) : c.Reports code domain := by
  have rows : ∀ r ∈ faultRows d, r.1.Reports r.2.1 r.2.2 := by
    simp only [faultRows, List.forall_mem_cons, List.not_mem_nil, false_implies, implies_true, and_true]
    exact ⟨⟨rfl, rfl, rfl⟩, ⟨rfl, rfl, rfl⟩, ⟨rfl, rfl, rfl⟩, ⟨rfl, rfl, rfl⟩, ⟨rfl, rfl, rfl⟩, ⟨rfl, rfl, rfl⟩,
      ⟨rfl, rfl, rfl⟩, ⟨rfl, rfl, rfl⟩⟩
  exact rows _ h

/-- The status of a precise abort is an internal one. -/
theorem AbortCause.Reports.status {c : AbortCause} {code : BitVec 4} {domain : Option (BitVec 4)} (h : c.Reports code domain) :
    bitAt c.code 4 = false ∧ field c.code 0 4 = code := by
  have spelled : ∀ code : BitVec 4, bitAt (0#1 ++ code) 4 = false ∧ field (0#1 ++ code) 0 4 = code := by decide
  rw [h.spelled]
  exact spelled code

/-- What an abort depends on is as before an access that was denied. -/
structure DeniedFrame (s u : State) : Prop where
  core : u.core = s.core
  cp15 : u.cp15 = s.cp15
  sds : u.sds = s.sds
  mem : u.mem = s.mem
  btb : u.btb = s.btb

theorem DeniedFrame.refl (s : State) : DeniedFrame s s := ⟨rfl, rfl, rfl, rfl, rfl⟩

theorem OnlyNoted.deniedFrame {s u : State} (h : OnlyNoted s u) : DeniedFrame s u :=
  ⟨h.core, by rw [h.eq], by rw [h.eq], h.mem, h.btb⟩

/-- A translation that faults leaves what an abort depends on. -/
theorem DeniedFrame.translateChecked {s u : State} {side : Side} {mva : Word} {p write : Bool}
    (h : (s.translateChecked side mva p write).after? = some u) : DeniedFrame s u := by
  have frame := AccessFrame.translateChecked h
  exact ⟨frame.core, frame.cp15, frame.sds, State.translateChecked_mem h, by rw [frame.eq]⟩

theorem DeniedFrame.trans {s u v : State} (h : DeniedFrame s u) (k : DeniedFrame u v) : DeniedFrame s v :=
  ⟨k.core.trans h.core, k.cp15.trans h.cp15, k.sds.trans h.sds, k.mem.trans h.mem, k.btb.trans h.btb⟩

theorem State.takeDataAbort_cp15 (s : State) (a : AbortInfo) (counted : Bool) :
    (s.takeDataAbort a counted).cp15 = (s.recordDataAbort a).cp15 := by
  cases counted
  · exact State.takeException_cp15 _ _ _ _ _
  · exact (State.takeException_cp15 _ _ _ _ _).trans (State.traceInstr_cp15 _)

/-- The exception with its fault status and fault address. -/
theorem TakesDataAbort.takeDataAbort {s u : State} {a : AbortInfo} {code : BitVec 4} {domain : Option (BitVec 4)}
    (frame : DeniedFrame s u) (reports : a.cause.Reports code domain) (counted : Bool) :
    TakesDataAbort (.next (u.takeDataAbort a counted)) s code domain a.mva := by
  have exception := ExceptionAfter.takeDataAbort u a counted
  rw [frame.core] at exception
  obtain ⟨-, external, status, valid⟩ := fsrValue_code a.cause.code (a.cause.domain?.getD (field (u.free 0) 0 4))
  refine ⟨_, rfl, exception.of_same frame.core (by rw [frame.cp15]) frame.mem frame.btb, ?_⟩
  rw [State.takeDataAbort_cp15]
  refine ⟨status.trans reports.status.2, external.trans reports.status.1, fun d same => valid.trans ?domain, ?far⟩
  case domain => rw [reports.domain, same, Option.getD_some]
  case far => exact if_pos reports.farValid

section
variable {s u : State} {a : AbortInfo} {code : BitVec 4} {domain : Option (BitVec 4)}
variable (frame : DeniedFrame s u) (outside : s.sds = false) (reports : a.cause.Reports code domain)
include frame outside reports

/-- An access that is denied, of an instruction outside Special Debug State: no register is changed. -/
theorem TakesDataAbort.abortSingle (counted : Bool) (rn : Reg) (newBase : Option Word) (regs : BitVec 16) :
    TakesDataAbort (u.abortSingle a counted rn newBase regs) s code domain a.mva := by
  rw [State.abortSingle, frame.sds, outside, if_neg Bool.false_ne_true]
  exact .takeDataAbort frame reports counted

theorem TakesDataAbort.abortMultiple (m : Mode) (regs : BitVec 16) :
    TakesDataAbort (u.abortMultiple a m regs) s code domain a.mva := by
  rw [State.abortMultiple, frame.sds, outside, if_neg Bool.false_ne_true]
  exact .takeDataAbort frame reports false

end

/-! Accesses that are denied (20_memory.md R150, R156). -/

/-- An access is denied before it reads or stores. -/
def State.Denied (s : State) (va : Word) (w : Width) (p write : Bool) (code : BitVec 4) (domain : Option (BitVec 4)) : Prop :=
  ∃ i u, s.prepare va w p write = .abort i u ∧ DeniedFrame s u ∧ i.mva = s.mva va ∧ i.cause.Reports code domain

theorem misaligned_iff (w : Width) (a : Word) : misaligned w a = true ↔ a.toNat % w.bytes ≠ 0 := by
  cases w with
  | byte => simp [misaligned, Width.bytes, Nat.mod_one]
  | half =>
    rw [misaligned, bitAt, BitVec.getLsbD, Nat.testBit_zero, decide_eq_true_iff, Width.bytes]
    omega
  | word => rw [← Bool.not_eq_false, misaligned_word_iff]; rfl

/-- An address that is no multiple of the size, where alignment is checked (20_memory.md R156, 92 D31). -/
theorem State.prepare_misaligned {s : State} {va : Word} {w : Width} (checked : s.alignChecked = true)
    (off : va.toNat % w.bytes ≠ 0) (p write : Bool) :
    s.prepare va w p write = .abort { cause := .alignment, mva := s.mva va } (s.noteAccess w (s.mva va) write) := by
  have noted := OnlyNoted.noteAccess s w (s.mva va) write
  have fails : ((s.noteAccess w (s.mva va) write).alignChecked && misaligned w (s.mva va)) = true := by
    rw [State.alignChecked, noted.deniedFrame.cp15, s.misaligned_mva, (misaligned_iff w va).mpr off, Bool.and_true]
    exact checked
  exact if_pos fails

theorem State.Denied.misaligned {s : State} {va : Word} {w : Width} (checked : s.alignChecked = true)
    (off : va.toNat % w.bytes ≠ 0) (p write : Bool) : s.Denied va w p write 0b0001 none :=
  ⟨_, _, State.prepare_misaligned checked off p write, (OnlyNoted.noteAccess s w (s.mva va) write).deniedFrame, rfl,
    AbortCause.alignment_reports⟩

/-- A translation that faults, of an access that passes the alignment check. -/
theorem State.Denied.fault {s s1 : State} {va : Word} {w : Width} {p write : Bool} {cause : AbortCause} {d code : BitVec 4}
    {domain : Option (BitVec 4)} (row : (cause, code, domain) ∈ faultRows d) (on : s.mmuOn = true)
    (passes : va.toNat % w.bytes = 0 ∨ s.alignChecked = false)
    (fault : (s.noteAccess w (s.mva va) write).translateChecked .data (s.mva va) p write = .fault cause s1) :
    s.Denied va w p write code domain := by
  have noted := (OnlyNoted.noteAccess s w (s.mva va) write).deniedFrame
  have aligned : ((s.noteAccess w (s.mva va) write).alignChecked && Machine.misaligned w (s.mva va)) = false := by
    rw [State.alignChecked, noted.cp15, s.misaligned_mva, Bool.and_eq_false_iff]
    refine passes.symm.imp_right fun even => ?_
    rwa [Bool.eq_false_iff, ne_eq, misaligned_iff, not_not]
  have mmu : (s.noteAccess w (s.mva va) write).mmuOn = true := by rw [State.mmuOn, noted.cp15]; exact on
  refine ⟨{ cause := cause, mva := s.mva va }, s1, ?_, noted.trans (.translateChecked (by rw [fault]; rfl)), rfl,
    AbortCause.reports_of_mem row⟩
  rw [State.prepare, State.translateData, aligned, if_neg Bool.false_ne_true, if_pos mmu, fault]

/-- What a row claims follows from what its instruction does with an access that is denied. -/
theorem AbortsPrecisely.of_denied {s : State} {unaligned : Bool} {r : AccessRow}
    (h : ∀ code domain, s.Denied r.va r.width r.privileged r.write code domain →
      r.va.toNat % r.width.bytes = 0 ∨ s.alignChecked = true ∨ (r.width = .word ∧ unaligned = true) →
      TakesDataAbort (exec r.instr s) s code domain (s.mva r.va)) : AbortsPrecisely s unaligned r := by
  refine ⟨fun checked off => h _ _ (.misaligned checked off _ _) (.inr (.inl checked)),
    fun d cause code domain s1 row on passes fault => ?_⟩
  refine h _ _ (.fault row on (passes.imp_right fun ⟨unchecked, _⟩ => unchecked) fault) ?_
  exact passes.imp_right fun ⟨_, word, allowed⟩ => .inr ⟨word, allowed⟩

/-! Single transfers (44_arm_load_store.md R491, R493). -/

section
variable {s : State} {code : BitVec 4} {domain : Option (BitVec 4)} (outside : s.sds = false)
include outside

theorem TakesDataAbort.loadSingle {a : Address} {w : Width} {p : Bool} (denied : s.Denied a.va w p false code domain)
    (rn rd : Reg) (conv : Word → Word) : TakesDataAbort (s.loadSingle a rn rd w p conv) s code domain (s.mva a.va) := by
  obtain ⟨i, u, run, frame, far, reports⟩ := denied
  simp only [State.loadSingle, State.memRead, run]
  exact far ▸ .abortSingle frame outside reports _ rn _ _

theorem TakesDataAbort.storeSingle {a : Address} {w : Width} {p : Bool} (denied : s.Denied a.va w p true code domain)
    (rn : Reg) (v : Word) : TakesDataAbort (s.storeSingle a rn w p v) s code domain (s.mva a.va) := by
  obtain ⟨i, u, run, frame, far, reports⟩ := denied
  simp only [State.storeSingle, State.memWrite, run]
  exact far ▸ .abortSingle frame outside reports _ rn _ _

end

section
variable {s : State} {c : Cond} {ix : Indexing} {u : Bool} {rn rd : Reg} {code : BitVec 4} {domain : Option (BitVec 4)}
variable (hc : s.passed c = true) (outside : s.sds = false) (base : ix = .offset ∨ (rn ≠ 15 ∧ rn ≠ rd))
include hc outside base

/-- A load of mode 2; one of the PC from an unaligned address that is not checked is refused before it. -/
theorem TakesDataAbort.load2 {off : Offset2} (noPc : off.namesPc = false) {w : Width} {p pcAllowed : Bool}
    (allowed : rd ≠ 15 ∨ (pcAllowed = true ∧ s.unalignedPc (accessAddress ix u (s.reg rn) (s.offset2 off)) = false))
    (denied : s.Denied (accessAddress ix u (s.reg rn) (s.offset2 off)) w p false code domain) (conv : Word → Word → Word) :
    TakesDataAbort (s.load2 c ix u rn rd off w p pcAllowed conv) s code domain
      (s.mva (accessAddress ix u (s.reg rn) (s.offset2 off))) := by
  rw [← State.address2_va] at allowed denied ⊢
  have reached : (rd == 15 && !pcAllowed) = false ∧ (rd == 15 && s.unalignedPc (s.address2 ix u rn off).va) = false := by
    rcases allowed with notPc | ⟨pc, aligned⟩
    · simp only [beq_false_of_ne notPc, Bool.false_and, and_self]
    · simp only [pc, aligned, Bool.not_true, Bool.and_false, and_self]
  simp only [State.load2, hc, noPc, badBase_eq_false base, reached, Bool.or_self, Bool.false_eq_true, if_true, if_false]
  exact .loadSingle outside denied rn rd _

theorem TakesDataAbort.store2 {off : Offset2} (noPc : off.namesPc = false) {w : Width} {p pcAllowed : Bool}
    (allowed : rd ≠ 15 ∨ pcAllowed = true)
    (denied : s.Denied (accessAddress ix u (s.reg rn) (s.offset2 off)) w p true code domain) :
    TakesDataAbort (s.store2 c ix u rn rd off w p pcAllowed) s code domain
      (s.mva (accessAddress ix u (s.reg rn) (s.offset2 off))) := by
  rw [← State.address2_va] at denied ⊢
  have reached : (rd == 15 && !pcAllowed) = false := by
    rcases allowed with notPc | pc
    · rw [beq_false_of_ne notPc, Bool.false_and]
    · rw [pc, Bool.not_true, Bool.and_false]
  simp only [State.store2, hc, noPc, badBase_eq_false base, reached, Bool.or_self, Bool.false_eq_true, if_true, if_false]
  exact .storeSingle outside denied rn _

variable {off : Offset3} (noPc : off.namesPc = false) (post : ix ≠ .postW)
include noPc post

/-- A load of mode 3; a halfword at an odd address that is not checked is refused before it. -/
theorem TakesDataAbort.load3 (hd : rd ≠ 15) {w : Width}
    (reached : w = .half → s.oddHalf (accessAddress ix u (s.reg rn) (s.offset3 off)) = false)
    (denied : s.Denied (accessAddress ix u (s.reg rn) (s.offset3 off)) w s.privileged false code domain) (conv : Word → Word) :
    TakesDataAbort (s.load3 c ix u rn rd off w conv) s code domain (s.mva (accessAddress ix u (s.reg rn) (s.offset3 off))) := by
  rw [← State.address3_va] at reached denied ⊢
  have even : (w == .half && s.oddHalf (s.address3 ix u rn off).va) = false := by
    rw [Bool.and_eq_false_imp, beq_iff_eq]
    exact reached
  simp only [State.load3, hc, badMode3_eq_false noPc post base, beq_false_of_ne hd, even, Bool.or_self, Bool.false_eq_true,
    if_true, if_false]
  exact .loadSingle outside denied rn rd _

theorem TakesDataAbort.strh (hd : rd ≠ 15)
    (reached : s.oddHalf (accessAddress ix u (s.reg rn) (s.offset3 off)) = false)
    (denied : s.Denied (accessAddress ix u (s.reg rn) (s.offset3 off)) .half s.privileged true code domain) :
    TakesDataAbort (exec (.strh c ix u rn rd off) s) s code domain
      (s.mva (accessAddress ix u (s.reg rn) (s.offset3 off))) := by
  rw [← State.address3_va] at reached denied ⊢
  show TakesDataAbort (execStrh c ix u rn rd off s) _ _ _ _
  simp only [execStrh, hc, badMode3_eq_false noPc post base, beq_false_of_ne hd, reached, Bool.or_self, Bool.false_eq_true,
    if_true, if_false]
  exact .storeSingle outside denied rn _

end

/-- A halfword that is even, or whose alignment is checked, is not refused. -/
theorem State.oddHalf_eq_false {s : State} {va : Word} (h : va.toNat % 2 = 0 ∨ s.alignChecked = true) :
    s.oddHalf va = false := by
  rcases h with even | checked
  · exact oddHalf_of_even even
  · rw [State.oddHalf, checked, Bool.not_true, Bool.and_false]

/-- The loads and stores of one register. -/
theorem AbortsPrecisely.accessRows {s : State} {c : Cond} {ix : Indexing} {rn rd : Reg} {off : Offset2} {off3 : Offset3}
    (hc : s.passed c = true) (outside : s.sds = false) (notDbg : s.mode ≠ .dbg) (post : ix ≠ .postW)
    (base : ix = .offset ∨ (rn ≠ 15 ∧ rn ≠ rd)) (noPc : off.namesPc = false) (noPc3 : off3.namesPc = false) (u : Bool) :
    ∀ r ∈ accessRows s c ix u rn rd off off3, AbortsPrecisely s (rd != 15) r := by
  refine List.forall_mem_append.mpr ⟨List.forall_mem_append.mpr ⟨?words, ?narrow⟩, ?user⟩
  case words =>
    simp only [List.forall_mem_cons, List.not_mem_nil, false_implies, implies_true, and_true]
    refine ⟨.of_denied fun code domain denied reach => ?ldr, .of_denied fun code domain denied _ => ?str⟩
    case ldr =>
      have reached : rd ≠ 15 ∨ (true = true ∧ s.unalignedPc (accessAddress ix u (s.reg rn) (s.offset2 off)) = false) := by
        refine or_iff_not_imp_left.mpr fun pc => ⟨rfl, ?_⟩
        rw [Bool.eq_false_iff, ne_eq, State.unalignedPc_iff]
        rintro ⟨unaligned, unchecked⟩
        rcases reach with aligned | checked | ⟨-, notPc⟩
        · exact unaligned aligned
        · exact absurd (checked.symm.trans unchecked) Bool.noConfusion
        · exact pc (bne_iff_ne.mp notPc)
      rw [exec_ldr notDbg]
      exact .load2 hc outside base noPc reached denied rotateRead
    case str => exact .store2 hc outside base noPc (.inr rfl) denied
  case narrow =>
    split
    case isTrue => exact fun _ none => absurd none List.not_mem_nil
    case isFalse hd =>
      simp only [List.forall_mem_cons, List.not_mem_nil, false_implies, implies_true, and_true]
      have even {r : AccessRow}
          (reach : r.va.toNat % r.width.bytes = 0 ∨ s.alignChecked = true ∨ (r.width = .word ∧ (rd != 15) = true))
          (half : r.width = .half) : s.oddHalf r.va = false := by
        rw [half] at reach
        exact State.oddHalf_eq_false (reach.imp_right fun h => h.resolve_right nofun)
      exact ⟨.of_denied fun _ _ denied _ => .load2 hc outside base noPc (.inl hd) denied plainRead,
        .of_denied fun _ _ denied _ => .store2 hc outside base noPc (.inl hd) denied,
        .of_denied fun _ _ denied reach => .load3 hc outside base noPc3 post hd (fun _ => even reach rfl) denied id,
        .of_denied fun _ _ denied reach => .load3 hc outside base noPc3 post hd (fun _ => even reach rfl) denied signHalf,
        .of_denied fun _ _ denied _ =>
          .load3 hc outside base noPc3 post hd (fun half => Width.noConfusion half) denied signByte,
        .of_denied fun _ _ denied reach => .strh hc outside base noPc3 post hd (even reach rfl) denied⟩
  case user =>
    split
    case isTrue => exact fun _ none => absurd none List.not_mem_nil
    case isFalse plain =>
      obtain ⟨hd, rfl⟩ : rd ≠ 15 ∧ ix = .postIndexed := by simpa only [not_or, not_not] using plain
      simp only [List.forall_mem_cons, List.not_mem_nil, false_implies, implies_true, and_true]
      exact ⟨.of_denied fun _ _ denied _ => .load2 hc outside base noPc (.inl hd) denied rotateRead,
        .of_denied fun _ _ denied _ => .load2 hc outside base noPc (.inl hd) denied plainRead,
        .of_denied fun _ _ denied _ => .store2 hc outside base noPc (.inl hd) denied,
        .of_denied fun _ _ denied _ => .store2 hc outside base noPc (.inl hd) denied⟩

/-! Pairs (44_arm_load_store.md R507, R508). -/

theorem unalignedPair_eq_true {va : Word} (h : va.toNat % 8 ≠ 0) : unalignedPair va = true := by
  rw [unalignedPair, bne_iff_ne, ne_eq, BitVec.toNat_eq, field_toNat, Nat.pow_zero, Nat.div_one]
  exact h

theorem badLdrd_eq_false {ix : Indexing} {rn rd : Reg} {off : Offset3} (notLast : rd ≠ 14)
    (good : badMode3 ix rn rd off = false) (base : ix = .offset ∨ rn ≠ rd + 1) (first : off.reg? ≠ some rd)
    (second : off.reg? ≠ some (rd + 1)) : badLdrd ix rn rd off = false := by
  have moved : (ix.writesBack && rn == nextReg rd) = false := by
    rw [Bool.eq_false_iff, ne_eq, Bool.and_eq_true, Indexing.writesBack_iff, beq_iff_eq, not_and_or, not_not]
    exact base
  simp only [badLdrd, moved, beq_false_of_ne notLast, good, Bool.or_self, beq_eq_false_iff_ne.mpr first,
    beq_eq_false_iff_ne.mpr (show off.reg? ≠ some (nextReg rd) from second)]

/-- The abort of a pair is that of its alignment, or of its first word. -/
def State.PairDenied (s : State) (va : Word) (write : Bool) (code : BitVec 4) (domain : Option (BitVec 4)) : Prop :=
  (va.toNat % 8 ≠ 0 ∧ code = 0b0001 ∧ domain = none) ∨
    (va.toNat % 8 = 0 ∧ s.Denied va .word s.privileged write code domain)

section
variable {s : State} {c : Cond} {ix : Indexing} {u : Bool} {rn rd : Reg} {off : Offset3} {code : BitVec 4}
variable {domain : Option (BitVec 4)}
variable (hc : s.passed c = true) (outside : s.sds = false) (even : rd.toNat % 2 = 0)
include hc outside even

theorem TakesDataAbort.ldrd (good : badLdrd ix rn rd off = false)
    (denied : s.PairDenied (s.address3 ix u rn off).va false code domain) :
    TakesDataAbort (exec (.ldrd c ix u rn rd off) s) s code domain (s.mva (s.address3 ix u rn off).va) := by
  show TakesDataAbort (execLdrd c ix u rn rd off s) _ _ _ _
  rcases denied with ⟨unaligned, rfl, rfl⟩ | ⟨aligned, i, v, run, frame, far, reports⟩
  · simp only [execLdrd, hc, bitAt_zero_of_even even, good, unalignedPair_eq_true unaligned, if_true, Bool.false_eq_true,
      if_false]
    exact .abortSingle (.refl s) outside AbortCause.alignment_reports true rn _ _
  · simp only [execLdrd, hc, bitAt_zero_of_even even, good, unalignedPair_eq_false aligned, if_true, Bool.false_eq_true,
      if_false, State.memRead, run]
    exact far ▸ .abortSingle frame outside reports true rn _ _

theorem TakesDataAbort.strd (notLast : rd ≠ 14) (good : badMode3 ix rn rd off = false)
    (denied : s.PairDenied (s.address3 ix u rn off).va true code domain) :
    TakesDataAbort (exec (.strd c ix u rn rd off) s) s code domain (s.mva (s.address3 ix u rn off).va) := by
  show TakesDataAbort (execStrd c ix u rn rd off s) _ _ _ _
  rcases denied with ⟨unaligned, rfl, rfl⟩ | ⟨aligned, i, v, run, frame, far, reports⟩
  · simp only [execStrd, hc, bitAt_zero_of_even even, beq_false_of_ne notLast, good, Bool.or_self,
      unalignedPair_eq_true unaligned, if_true, Bool.false_eq_true, if_false]
    exact .abortMultiple (.refl s) outside AbortCause.alignment_reports _ _
  · simp only [execStrd, hc, bitAt_zero_of_even even, beq_false_of_ne notLast, good, Bool.or_self,
      unalignedPair_eq_false aligned, if_true, Bool.false_eq_true, if_false, State.memWrite, run]
    exact far ▸ .abortMultiple frame outside reports _ _

end

/-! Swaps, LDC and STC (44_arm_load_store.md R530, R531, 41_coprocessor_access.md R368, R369). -/

theorem AbortsPrecisely.swapRows {s : State} {c : Cond} {rn rd rm : Reg} (hc : s.passed c = true) (outside : s.sds = false)
    (notDbg : s.mode ≠ .dbg) (good : badSwap rn rd rm = false) : ∀ r ∈ swapRows s c rn rd rm, AbortsPrecisely s true r := by
  simp only [Machine.swapRows, List.forall_mem_cons, List.not_mem_nil, false_implies, implies_true, and_true]
  refine ⟨.of_denied ?swp, .of_denied ?swpb⟩
  case swp =>
    rintro code domain ⟨i, u, run, frame, far, reports⟩ -
    show TakesDataAbort (execSwp c rn rd rm s) _ _ _ _
    simp only [execSwp, hc, beq_false_of_ne notDbg, good, Bool.false_eq_true, if_true, if_false, State.swap, s.prepareSwap_eq]
    rw [show s.prepare (s.reg rn) .word s.privileged true = .abort i u from run]
    exact far ▸ .abortMultiple frame outside reports _ _
  case swpb =>
    rintro code domain ⟨i, u, run, frame, far, reports⟩ -
    show TakesDataAbort (execSwpb c rn rd rm s) _ _ _ _
    simp only [execSwpb, hc, good, Bool.false_eq_true, if_true, if_false, State.swap, s.prepareSwap_eq]
    rw [show s.prepare (s.reg rn) .byte s.privileged true = .abort i u from run]
    exact far ▸ .abortSingle frame outside reports false rn none _

theorem AbortsPrecisely.coprocessorRows {s : State} {c : Cond} {w : Bool} {rn : Reg} (hc : s.passed c = true)
    (outside : s.sds = false) (hp : s.mode ≠ .usr) (notDbg : s.mode ≠ .dbg) (base : w = true → rn ≠ 15) (p u : Bool)
    (crd : BitVec 4) (off : Byte) : ∀ r ∈ coprocessorRows s c p u w rn crd off, AbortsPrecisely s true r := by
  have address : (s.address5 p u w rn off).va = if p then addedOffset u (s.reg rn) (off.zeroExtend 32 * 4) else s.reg rn :=
    congrArg Address.va (s.address5_eq p u w rn off)
  simp only [Machine.coprocessorRows, ← address, List.forall_mem_cons, List.not_mem_nil, false_implies, implies_true, and_true]
  refine ⟨.of_denied ?ldc, .of_denied ?stc⟩
  case ldc =>
    rintro code domain ⟨i, v, run, frame, far, reports⟩ -
    have read : s.memRead (s.address5 p u w rn off).va .word true = .abort i v := by
      rw [State.memRead, show s.prepare (s.address5 p u w rn off).va .word true false = .abort i v from run]
    have ended : exec (.ldc c p u false w rn crd 14 off) s = v.abortLdc crd i rn (s.address5 p u w rn off).newBase := by
      simp only [exec, execLdc, hc, State.privileged_of_ne hp, State.ldcError_none notDbg base, if_true, read]
      rfl
    rw [ended, State.abortLdc, frame.sds, outside, if_neg Bool.false_ne_true]
    exact far ▸ .abortMultiple frame outside reports _ _
  case stc =>
    rintro code domain ⟨i, v, run, frame, far, reports⟩ -
    have ended : exec (.stc c p u false w rn crd 14 off) s =
        v.abortSingle i false rn (s.address5 p u w rn off).newBase 0 := by
      simp only [exec, execStc, hc, State.privileged_of_ne hp, State.ldcError_none notDbg base, if_true]
      rw [show s.prepare (s.address5 p u w rn off).va .word true true = .abort i v from run]
      rfl
    rw [ended]
    exact far ▸ .abortSingle frame outside reports false rn _ _

end Sys2Proof.Machine
end

section
/-! PROOF. The multiple transfers that abort: the base is kept, and what was loaded or stored below the word that aborted
(60_exceptions.md R675, 44_arm_load_store.md R525). -/

namespace Sys2Proof.Machine

/-! What the words of a block leave of what the next one depends on. -/

/-- Accesses of words that memory answers change memory, what they note and the free values used. -/
structure BlockFrame (s t : State) : Prop where
  eq : t = { s with
    mem := t.mem, cp14 := t.cp14, pending := t.pending, stale := t.stale, storing := t.storing, freeCtr := t.freeCtr }

namespace BlockFrame

theorem refl (s : State) : BlockFrame s s := ⟨rfl⟩

theorem consume (s : State) (n : Nat) : BlockFrame s (s.consume n) := ⟨rfl⟩

theorem noted {s t : State} (h : OnlyNoted s t) : BlockFrame s t := ⟨by rw [h.eq]⟩

variable {s t : State} (h : BlockFrame s t)
include h

theorem trans {u : State} (k : BlockFrame t u) : BlockFrame s u := by
  have e := k.eq
  rw [h.eq] at e
  exact ⟨e⟩

theorem core : t.core = s.core := by rw [h.eq]

theorem midBus : t.midBus = s.midBus := by rw [h.eq]

theorem mva (va : Word) : t.mva va = s.mva va := by rw [h.eq]; rfl

theorem privileged : t.privileged = s.privileged := by rw [h.eq]; rfl

theorem paged {va : Word} {e : TlbEntry} {write : Bool} (k : s.Paged va e write) : t.Paged va e write := by
  rw [h.eq]
  exact ⟨k.mmuOn, k.held, k.allowed, k.plain, k.aligned, k.noFill, k.noWrite, k.noPend, k.noLine, k.answers⟩

/-- Of what an abort depends on, only memory differs. -/
theorem denied : DeniedFrame { s with mem := t.mem } t := by
  rw [h.eq]
  exact ⟨rfl, rfl, rfl, rfl, rfl⟩

end BlockFrame

/-- A word is denied by its alignment, or by the entry that the TLB holds for it. -/
def State.DeniesWord (s : State) (va : Word) (write : Bool) (cause : AbortCause) : Prop :=
  (s.alignChecked = true ∧ va.toNat % 4 ≠ 0 ∧ cause = .alignment) ∨
    ∃ e, s.mmuOn = true ∧ va.toNat % 4 = 0 ∧ s.dtlb.lookup (s.mva va) = some e ∧
      s.checkAccess e (s.mva va) s.privileged write = .ok (some cause)

theorem State.DeniesWord.frame {s t : State} {va : Word} {write : Bool} {cause : AbortCause}
    (h : s.DeniesWord va write cause) (k : BlockFrame s t) : t.DeniesWord va write cause := by
  rw [k.eq]
  exact h

/-- The abort of such a word. -/
theorem State.DeniesWord.prepare {s : State} {va : Word} {write : Bool} {cause : AbortCause} (h : s.DeniesWord va write cause) :
    ∃ u, s.prepare va .word s.privileged write = .abort { cause := cause, mva := s.mva va } u ∧ OnlyNoted s u := by
  refine ⟨s.noteAccess .word (s.mva va) write, ?_, .noteAccess s .word (s.mva va) write⟩
  rcases h with ⟨checked, off, rfl⟩ | ⟨e, on, aligned, held, fails⟩
  · exact State.prepare_misaligned (w := .word) checked off _ write
  · exact (State.prepare_held on (.inr ((misaligned_word_iff va).mpr aligned)) held).2 cause fails

/-! Loading (R525). -/

/-- The word of memory that an entry leads to. -/
def State.entryWord (s : State) (e : TlbEntry) (va : Word) : Word :=
  gather .word fun i => s.memByte (e.pa (s.mva va) + BitVec.ofNat 32 i)

theorem BlockFrame.entryWord {s t : State} (h : BlockFrame s t) (mem : t.mem = s.mem) (e : TlbEntry) (va : Word) :
    t.entryWord e va = s.entryWord e va := by
  simp only [State.entryWord, h.mva, State.memByte, mem]

/-- The words before the one that aborts are read. -/
theorem State.readBlock_paged {s : State} {va : Word} {l : List Reg} {k : Nat} {e : Nat → TlbEntry} (alone : s.midBus = [])
    (hk : k < l.length) (paged : ∀ j < k, s.Paged (va + BitVec.ofNat 32 (4 * j)) (e j) false) :
    ∃ values u, BlockFrame s u ∧ u.mem = s.mem ∧
      (∀ x ∈ values, ∃ j < k, l[j]? = some x.1 ∧ x.2 = s.entryWord (e j) (va + BitVec.ofNat 32 (4 * j))) ∧
      ∀ i v, u.prepare (va + BitVec.ofNat 32 (4 * k)) .word s.privileged false = .abort i v →
        s.readBlock va s.privileged l = .abort values i v := by
  induction k generalizing s va l e with
  | zero =>
    obtain ⟨r, l, rfl⟩ := List.exists_cons_of_length_pos hk
    refine ⟨[], s, .refl s, rfl, fun x hx => absurd hx List.not_mem_nil, fun i v denied => ?_⟩
    rw [blockWord_zero] at denied
    simp only [State.readBlock, State.memRead, denied]
  | succ k ih =>
    obtain ⟨r, l, rfl⟩ := List.exists_cons_of_length_pos (Nat.zero_lt_of_lt hk)
    have first := paged 0 k.succ_pos
    rw [blockWord_zero] at first
    obtain ⟨s1, read, only⟩ := first.memRead
    have frame := BlockFrame.noted only
    have next : (if l.isEmpty then s1 else s1.busGap) = s1 := by rw [State.busGap_alone (frame.midBus.trans alone), ite_self]
    have rest (j : Nat) (hj : j < k) : s1.Paged (va + 4 + BitVec.ofNat 32 (4 * j)) (e (j + 1)) false :=
      frame.paged (blockWord_succ va j ▸ paged (j + 1) (Nat.succ_lt_succ hj))
    obtain ⟨values, u, frame', mem, words, stops⟩ :=
      ih (l := l) (e := fun j => e (j + 1)) (frame.midBus.trans alone) (Nat.lt_of_succ_lt_succ hk) rest
    refine ⟨(r, s.entryWord (e 0) va) :: values, u, frame.trans frame', mem.trans only.mem, fun x hx => ?words,
      fun i v denied => ?stops⟩
    case words =>
      rcases List.mem_cons.mp hx with rfl | later
      · refine ⟨0, k.succ_pos, rfl, ?_⟩
        rw [blockWord_zero]
      · obtain ⟨j, hj, listed, word⟩ := words x later
        refine ⟨j + 1, Nat.succ_lt_succ hj, listed, ?_⟩
        rw [word, frame.entryWord only.mem, blockWord_succ]
    case stops =>
      rw [blockWord_succ, ← frame.privileged] at denied
      have ended := stops i v denied
      rw [frame.privileged] at ended
      simp only [State.readBlock, read, next, ended, BlockRead.cons]
      rfl

theorem State.setBankedReg_getElem (s : State) (m : Mode) (r : Reg) (x : Word) (p : Fin 32) :
    (s.setBankedReg m r x).core.regs[p] = if p = (physReg m r).toFin then x else s.core.regs[p] := by
  rw [State.setBankedReg_regs, Fin.getElem_fin, Vector.getElem_set]
  exact if_congr (by rw [eq_comm, Fin.ext_iff]) rfl rfl

/-- Of the registers loaded before an abort, each holds its old value or the word loaded; the base holds its old value. -/
theorem State.setSomeRegs_regs (v : State) (m : Mode) (rn : Reg) (pick : Word) (l : List (Reg × Word)) :
    ∃ regs : Vector Word 32, v.setSomeRegs m rn pick l = { v with core := { v.core with regs := regs } } ∧
      ∀ p : Fin 32, regs[p] = v.core.regs[p] ∨
        ∃ x ∈ l, x.1 ≠ 15 ∧ p = (physReg m x.1).toFin ∧ p ≠ (physReg v.mode rn).toFin ∧ regs[p] = x.2 := by
  induction l generalizing v with
  | nil => exact ⟨v.core.regs, rfl, fun _ => .inl rfl⟩
  | cons x l ih =>
    obtain ⟨r, value⟩ := x
    by_cases kept : r = 15 ∨ physReg m r = physReg v.mode rn
    case pos =>
      obtain ⟨regs, run, each⟩ := ih v
      refine ⟨regs, by rw [State.setSomeRegs, if_pos kept, run], fun p => (each p).imp_right ?_⟩
      exact fun ⟨x, hx, own⟩ => ⟨x, List.mem_cons_of_mem _ hx, own⟩
    case neg =>
      obtain ⟨notPc, notBase⟩ := not_or.mp kept
      obtain ⟨regs, run, each⟩ := ih (v.setBankedReg m r (if bitAt pick r.toNat then value else v.bankedReg m r))
      refine ⟨regs, by rw [State.setSomeRegs, if_neg kept, run]; rfl, fun p => ?_⟩
      rcases each p with same | ⟨x, hx, own⟩
      case inr => exact .inr ⟨x, List.mem_cons_of_mem _ hx, own⟩
      case inl =>
        rw [State.setBankedReg_getElem] at same
        by_cases loaded : p = (physReg m r).toFin ∧ bitAt pick r.toNat = true
        case pos =>
          obtain ⟨place, new⟩ := loaded
          refine .inr ⟨(r, value), List.mem_cons_self, notPc, place, fun base => notBase ?_, ?_⟩
          · exact BitVec.toFin_inj.mp (place.symm.trans base)
          · rw [same, if_pos place, if_pos new]
        case neg =>
          refine .inl (same.trans ?_)
          split
          case isFalse => rfl
          case isTrue place =>
            rw [if_neg fun new => loaded ⟨place, new⟩, place]
            rfl

/-- A load multiple that aborts. -/
theorem TakesDataAbort.loadMultiple {s : State} {bank : Mode} {m : BlockMode} {w : Bool} {rn : Reg} {list : BitVec 16}
    {k : Nat} {e : Nat → TlbEntry} {cause : AbortCause} {code : BitVec 4} {domain : Option (BitVec 4)} (outside : s.sds = false)
    (alone : s.midBus = []) (reports : cause.Reports code domain) (start : Word)
    (first : (blockAddress m (s.reg rn) (listRegs list).length).1 = start) (hk : k < (listRegs list).length)
    (paged : ∀ j < k, s.Paged (start + BitVec.ofNat 32 (4 * j)) (e j) false)
    (denied : s.DeniesWord (start + BitVec.ofNat 32 (4 * k)) false cause) (finish : State → Option Word → Result) :
    ∃ regs : Vector Word 32,
      (∀ p : Fin 32, regs[p] = s.core.regs[p] ∨
        ∃ j < k, ∃ r, (listRegs list)[j]? = some r ∧ r ≠ 15 ∧ p = (physReg bank r).toFin ∧ p ≠ (physReg s.mode rn).toFin ∧
          regs[p] = s.entryWord (e j) (start + BitVec.ofNat 32 (4 * j))) ∧
      TakesDataAbort (s.loadMultiple m w rn list bank finish) { s with core := { s.core with regs := regs } } code domain
        (s.mva (start + BitVec.ofNat 32 (4 * k))) := by
  obtain ⟨values, u, frame, mem, words, stops⟩ := State.readBlock_paged alone hk paged
  obtain ⟨v, fails, noted⟩ := (denied.frame frame).prepare
  rw [frame.mva, frame.privileged] at fails
  have after := frame.trans (.noted noted)
  have core : v.core = s.core := after.core
  obtain ⟨regs, chosen, each⟩ := (v.consume 1).setSomeRegs_regs bank rn (v.free 0) values
  have run : s.loadMultiple m w rn list bank finish =
      ((v.consume 1).setSomeRegs bank rn (v.free 0) values).abortMultiple
        { cause := cause, mva := s.mva (start + BitVec.ofNat 32 (4 * k)) } bank 0 := by
    simp only [State.loadMultiple, first, stops _ _ fails]
    rw [State.abortLdm, show v.sds = false by rw [after.eq]; exact outside, if_neg Bool.false_ne_true]
  refine ⟨regs, fun p => ?regs, ?abort⟩
  case regs =>
    have mode : (v.consume 1).mode = s.mode := congrArg (fun c : Core => modeOf c.cpsr) core
    rcases each p with same | ⟨x, hx, notPc, place, notBase, word⟩
    · exact .inl (same.trans (congrArg (fun c : Core => c.regs[p]) core))
    · obtain ⟨j, hj, listed, value⟩ := words x hx
      exact .inr ⟨j, hj, x.1, listed, notPc, place, mode ▸ notBase, word.trans value⟩
  case abort =>
    rw [run, chosen]
    have rest := after.denied
    have kept : DeniedFrame { s with core := { s.core with regs := regs } }
        { v.consume 1 with core := { (v.consume 1).core with regs := regs } } :=
      ⟨congrArg (fun c : Core => { c with regs := regs }) core, rest.cp15, rest.sds, noted.mem.trans mem, rest.btb⟩
    exact .abortMultiple (a := { cause := cause, mva := s.mva (start + BitVec.ofNat 32 (4 * k)) }) kept outside reports bank 0

/-! Storing (R525). -/

/-- A word that an entry allows is stored, or tried only; no other byte of memory changes. -/
theorem State.Paged.writeWord {s : State} {va : Word} {e : TlbEntry} (h : s.Paged va e true) (keep : Bool) (v : Word) :
    ∃ u, s.writeWord keep va v s.privileged = .ok () u ∧ BlockFrame s u ∧
      ∀ a, (∀ i < 4, a ≠ e.pa (s.mva va) + BitVec.ofNat 32 i) → u.memByte a = s.memByte a := by
  cases keep with
  | true =>
    obtain ⟨u, run, -, frame⟩ := h.memWrite v
    refine ⟨u, run, ⟨by rw [frame]⟩, fun a outside => ?_⟩
    rw [State.memByte, frame]
    exact State.putBytes_other s _ v 4 outside
  | false =>
    have prepared := (State.prepare_held h.mmuOn (.inr h.word_aligned) h.held).1 h.allowed
    have noted := OnlyNoted.noteAccess s .word (s.mva va) true
    refine ⟨_, ?_, .noted noted, fun a _ => congrArg (memGet · a) noted.mem⟩
    simp only [State.writeWord, Bool.false_eq_true, if_false, prepared]

/-- A word that is denied ends the stores. -/
theorem State.writeWord_abort {s u : State} {va : Word} {i : AbortInfo} (h : s.prepare va .word s.privileged true = .abort i u)
    (keep : Bool) (v : Word) : s.writeWord keep va v s.privileged = .abort i u := by
  cases keep <;> simp [State.writeWord, State.memWrite, h]

/-- The words of a block that entries allow are stored, or tried only; the next one is denied, or there is none. -/
theorem State.writeBlockRegs_paged {s : State} {va : Word} {l : List (Reg × Word)} {k : Nat} {e : Nat → TlbEntry}
    (keep : BitVec 16) (alone : s.midBus = []) (hk : k ≤ l.length)
    (paged : ∀ j < k, s.Paged (va + BitVec.ofNat 32 (4 * j)) (e j) true) :
    ∃ u, BlockFrame s u ∧
      (∀ a, (∀ j < k, ∀ i < 4, a ≠ (e j).pa (s.mva (va + BitVec.ofNat 32 (4 * j))) + BitVec.ofNat 32 i) →
        u.memByte a = s.memByte a) ∧
      (k = l.length → s.writeBlockRegs keep va s.privileged l = .ok u) ∧
      (k < l.length → ∀ i v, u.prepare (va + BitVec.ofNat 32 (4 * k)) .word s.privileged true = .abort i v →
        s.writeBlockRegs keep va s.privileged l = .abort k i v) := by
  induction k generalizing s va l e with
  | zero =>
    refine ⟨s, .refl s, fun _ _ => rfl, fun none => ?_, fun some i v denied => ?_⟩
    · rw [List.eq_nil_of_length_eq_zero none.symm, State.writeBlockRegs]
    · obtain ⟨⟨r, x⟩, l, rfl⟩ := List.exists_cons_of_length_pos some
      rw [blockWord_zero] at denied
      rw [State.writeBlockRegs, State.writeWord_abort denied]
  | succ k ih =>
    obtain ⟨⟨r, x⟩, l, rfl⟩ := List.exists_cons_of_length_pos (Nat.lt_of_lt_of_le k.succ_pos hk)
    have first := paged 0 k.succ_pos
    rw [blockWord_zero] at first
    obtain ⟨s1, write, frame, others⟩ := first.writeWord (bitAt keep r.toNat) x
    have next : (if l.isEmpty then s1 else s1.busGap) = s1 := by rw [State.busGap_alone (frame.midBus.trans alone), ite_self]
    have rest (j : Nat) (hj : j < k) : s1.Paged (va + 4 + BitVec.ofNat 32 (4 * j)) (e (j + 1)) true :=
      frame.paged (blockWord_succ va j ▸ paged (j + 1) (Nat.succ_lt_succ hj))
    obtain ⟨u, frame', others', all, stops⟩ :=
      ih (l := l) (e := fun j => e (j + 1)) (frame.midBus.trans alone) (Nat.le_of_succ_le_succ hk) rest
    have run : s.writeBlockRegs keep va s.privileged ((r, x) :: l) =
        (s1.writeBlockRegs keep (va + 4) s1.privileged l).succ := by
      simp only [State.writeBlockRegs, write, next, frame.privileged]
    refine ⟨u, frame.trans frame', fun a apart => ?others, fun done => ?all, fun more i v denied => ?stops⟩
    case others =>
      rw [others' a fun j hj i hi => ?_, others a fun i hi => ?_]
      · have first := apart 0 k.succ_pos i hi
        rwa [blockWord_zero] at first
      · rw [frame.mva, ← blockWord_succ]
        exact apart (j + 1) (Nat.succ_lt_succ hj) i hi
    case all => rw [run, all (Nat.succ.inj done), BlockWrite.succ]
    case stops =>
      rw [blockWord_succ, ← frame.privileged] at denied
      rw [run, stops (Nat.lt_of_succ_lt_succ more) i v denied, BlockWrite.succ]

/-- A store multiple that aborts. -/
theorem TakesDataAbort.storeMultiple {s : State} {bank : Mode} {m : BlockMode} {w : Bool} {rn : Reg} {list : BitVec 16}
    {k : Nat} {e : Nat → TlbEntry} {cause : AbortCause} {code : BitVec 4} {domain : Option (BitVec 4)} (outside : s.sds = false)
    (alone : s.midBus = []) (reports : cause.Reports code domain) (start : Word)
    (first : (blockAddress m (s.reg rn) (listRegs list).length).1 = start) (hk : k < (listRegs list).length)
    (paged : ∀ j < k, s.Paged (start + BitVec.ofNat 32 (4 * j)) (e j) true)
    (denied : s.DeniesWord (start + BitVec.ofNat 32 (4 * k)) true cause) :
    ∃ mem : List Host.Cell,
      (∀ a : Word, (∀ j < k, ∀ i < 4, a ≠ (e j).pa (s.mva (start + BitVec.ofNat 32 (4 * j))) + BitVec.ofNat 32 i) →
        memGet mem a = s.memByte a) ∧
      TakesDataAbort (s.storeMultiple m w rn list bank) { s with mem := mem } code domain
        (s.mva (start + BitVec.ofNat 32 (4 * k))) := by
  obtain ⟨l, hl⟩ : ∃ l, l = (listRegs list).map fun r => (r, s.blockValue bank w rn list r) := ⟨_, rfl⟩
  have length : l.length = (listRegs list).length := by rw [hl, List.length_map]
  have drawn := BlockFrame.consume s 1
  have drawn' := drawn.trans (.consume (s.consume 1) 1)
  obtain ⟨u, frame, -, -, stops⟩ := State.writeBlockRegs_paged (l := l) (k := k) 0xFFFF (drawn.midBus.trans alone)
    (length ▸ hk.le) fun j hj => drawn.paged (paged j hj)
  obtain ⟨v, fails, -⟩ := (denied.frame (drawn.trans frame)).prepare
  rw [frame.mva, frame.privileged] at fails
  have aborts := stops (length ▸ hk) _ _ fails
  have short : k = (l.take k).length := by rw [List.length_take, length, Nat.min_eq_left hk.le]
  obtain ⟨u', frame', others, all, -⟩ := State.writeBlockRegs_paged (l := l.take k) (k := k)
    (field ((s.consume 1).free 0) 0 16) (drawn'.midBus.trans alone) short.le fun j hj => drawn'.paged (paged j hj)
  have redone : ((s.consume 1).consume 1).writeBlockRegs (field ((s.consume 1).free 0) 0 16) start (s.consume 1).privileged
      (l.take k) = .ok u' := all short
  obtain ⟨v', fails', noted⟩ := (denied.frame (drawn'.trans frame')).prepare
  have after := (drawn'.trans frame').trans (.noted noted)
  have tried : u'.tried (start + BitVec.ofNat 32 (4 * k)) (s.consume 1).privileged = v' := by
    rw [frame'.privileged] at fails'
    rw [State.tried, show u'.prepare _ .word (s.consume 1).privileged true = _ from fails']
  have run : s.storeMultiple m w rn list bank = v'.abortMultiple
      { cause := cause, mva := s.mva (start + BitVec.ofNat 32 (4 * k)) } (s.consume 1).mode
      (if w then addReg rn 0 else 0) := by
    simp only [State.storeMultiple, first, ← hl, aborts, State.abortStm, redone, tried]
    rfl
  refine ⟨v'.mem, fun a apart => ?memory, ?abort⟩
  case memory => exact (congrArg (memGet · a) noted.mem).trans (others a apart)
  case abort =>
    rw [run]
    exact .abortMultiple (a := { cause := cause, mva := s.mva (start + BitVec.ofNat 32 (4 * k)) }) after.denied outside reports
      _ _

/-! The abort of any word of a block (R525). -/

theorem listRegs_pos {l : BitVec 16} (h : l ≠ 0) : 0 < (listRegs l).length := by
  refine List.length_pos_iff.mpr fun none => h (BitVec.eq_of_getLsbD_eq fun i hi => ?_)
  have unlisted : ¬ bitAt l (BitVec.ofNat 4 i).toNat = true := by
    rw [← mem_listRegs, none]
    exact List.not_mem_nil
  rw [BitVec.toNat_ofNat, Nat.mod_eq_of_lt (show i < 2 ^ 4 from hi)] at unlisted
  exact (Bool.eq_false_iff.mpr unlisted).trans BitVec.getLsbD_zero.symm

theorem one_append_ne (low : BitVec 15) : (1#1 ++ low : BitVec 16) ≠ 0 := by
  intro zero
  have last := bitAt_append_fifteen 1#1 low
  rw [zero] at last
  cases last

/-- The words of a block are aligned as its first one is. -/
theorem blockWord_aligned {start : Word} (h : start.toNat % 4 = 0) (k : Nat) :
    (start + BitVec.ofNat 32 (4 * k)).toNat % 4 = 0 := by
  rw [BitVec.toNat_add, BitVec.toNat_ofNat]
  omega

/-- The denial of an unaligned first word. -/
theorem State.DeniesWord.misaligned {s : State} {va : Word} (checked : s.alignChecked = true) (off : va.toNat % 4 ≠ 0)
    (write : Bool) : s.DeniesWord va write .alignment := .inl ⟨checked, off, rfl⟩

/-! How the store multiples run once their operands are allowed (R524). -/

section
variable {s : State} {c : Cond} {m : BlockMode} {w : Bool} {rn : Reg} {list : BitVec 16} (hc : s.passed c = true) (hn : rn ≠ 15)
variable (some : list ≠ 0)
include hc hn some

theorem exec_stm_good : exec (.stm c m w rn list) s = s.storeMultiple m w rn list s.mode := by
  show execStm c m w rn list s = _
  rw [execStm, if_pos hc, badBlock_eq_false hn some, if_neg Bool.false_ne_true]

theorem exec_stmUser_good (usr : s.mode ≠ .usr) (sys : s.mode ≠ .sys) :
    exec (.stmUser c m false rn list) s = s.storeMultiple m false rn list .usr := by
  show execStmUser c m false rn list s = _
  rw [execStmUser, if_pos hc, badBlock_eq_false hn some, State.badUserBlock, beq_false_of_ne usr, beq_false_of_ne sys,
    Bool.or_self, Bool.or_self, Bool.or_self, if_neg Bool.false_ne_true]

end

/-- An abort before which memory is the same in every byte. -/
theorem TakesDataAbort.of_memory {r : Result} {s : State} {mem : List Host.Cell} {code : BitVec 4} {domain : Option (BitVec 4)}
    {far : Word} (h : TakesDataAbort r { s with mem := mem } code domain far) (same : ∀ a, memGet mem a = s.memByte a) :
    TakesDataAbort r s code domain far := by
  obtain ⟨t, run, exception, status⟩ := h
  exact ⟨t, run, { exception with
    regs := ⟨exception.regs.written, exception.regs.others⟩
    memory := fun a => (exception.memory a).trans (same a) }, status⟩

/-- Settles O52: a single access ends where it is denied, a block at its first word that is denied. -/
theorem preciseDataAbort : Obligations.PreciseDataAbort := by
  refine ⟨fun s c ix u rn rd off off3 => ?single, fun s c rn rd rm hc outside notDbg hn hd hm other own => ?swap,
    fun s c p u w rn crd off hc outside hp notDbg base => ?coprocessor,
    fun s c m w rn list low k e d code cause domain => ?block⟩
  case single =>
    intro pair hc outside notDbg post base noPc noPc3
    refine ⟨.accessRows hc outside notDbg post base noPc noPc3 u, fun even notLast => ?_⟩
    intro aborts loads
    have address : (s.address3 ix u rn off3).va = pair := s.address3_va ix u rn off3
    have good : badMode3 ix rn rd off3 = false := badMode3_eq_false noPc3 post base
    have ldrd {code : BitVec 4} {domain : Option (BitVec 4)} (denied : s.PairDenied pair false code domain) (may : loads) :
        aborts code domain (.ldrd c ix u rn rd off3) := by
      obtain ⟨moved, first, second⟩ := may
      rw [← address] at denied
      have taken := TakesDataAbort.ldrd hc outside even (badLdrd_eq_false notLast good moved first second) denied
      rwa [address] at taken
    have strd {code : BitVec 4} {domain : Option (BitVec 4)} (denied : s.PairDenied pair true code domain) :
        aborts code domain (.strd c ix u rn rd off3) := by
      rw [← address] at denied
      have taken := TakesDataAbort.strd hc outside even notLast good denied
      rwa [address] at taken
    refine ⟨fun unaligned => ⟨ldrd (.inl ⟨unaligned, rfl, rfl⟩), strd (.inl ⟨unaligned, rfl, rfl⟩)⟩,
      fun d cause code domain s1 write row on aligned fault => ?_⟩
    have word : pair.toNat % Width.word.bytes = 0 := by rw [Width.bytes]; omega
    have denied : s.PairDenied pair write code domain := .inr ⟨aligned, .fault row on (.inl word) fault⟩
    cases write with
    | true => exact strd denied
    | false => exact ldrd denied
  case swap => exact .swapRows hc outside notDbg (badSwap_eq_false hn hd hm other own)
  case coprocessor => exact .coprocessorRows hc outside hp notDbg base p u crd off
  case block =>
    intro word pa stops misaligned loads stores hc outside notDbg hn alone
    have first (l : BitVec 16) : word l 0 = (blockAddress m (s.reg rn) (listRegs l).length).1 := blockWord_zero _
    have denied {l : BitVec 16} {write : Bool} (h : stops l write) : s.DeniesWord (word l k) write cause := by
      obtain ⟨on, -, aligned, -, held, fails, -⟩ := h
      exact .inr ⟨e k, on, blockWord_aligned (by rwa [← first]) k, held, fails⟩
    have loaded {i : Instr} {bank : Mode} {l : BitVec 16} {w : Bool} {finish : State → Option Word → Result} (some : l ≠ 0)
        (run : exec i s = s.loadMultiple m w rn l bank finish) : loads i bank l := by
      refine ⟨fun checked off => ?misaligned, fun h => ?stops⟩
      case misaligned =>
        obtain ⟨regs, each, taken⟩ := TakesDataAbort.loadMultiple (k := 0) (e := e) (bank := bank) outside alone
          AbortCause.alignment_reports _ rfl (listRegs_pos some) nofun (.misaligned checked off false) finish
        have same : regs = s.core.regs := by
          refine Vector.ext fun p hp => (each ⟨p, hp⟩).resolve_right ?_
          rintro ⟨j, hj, -⟩
          exact absurd hj (Nat.not_lt_zero j)
        rw [run]
        rwa [same] at taken
      case stops =>
        have stop := denied h
        obtain ⟨-, short, -, paged, -, -, row⟩ := h
        rw [run]
        exact TakesDataAbort.loadMultiple outside alone (AbortCause.reports_of_mem row) _ rfl short paged stop finish
    have stored {i : Instr} {bank : Mode} {l : BitVec 16} {w : Bool} (some : l ≠ 0)
        (run : exec i s = s.storeMultiple m w rn l bank) : stores i l := by
      refine ⟨fun checked off => ?misaligned, fun h => ?stops⟩
      case misaligned =>
        obtain ⟨mem, others, taken⟩ := TakesDataAbort.storeMultiple (k := 0) (e := e) (bank := bank) outside alone
          AbortCause.alignment_reports _ rfl (listRegs_pos some) nofun (.misaligned checked off true)
        rw [run]
        exact taken.of_memory fun a => others a nofun
      case stops =>
        have stop := denied h
        obtain ⟨-, short, -, paged, -, -, row⟩ := h
        rw [run]
        exact TakesDataAbort.storeMultiple outside alone (AbortCause.reports_of_mem row) _ rfl short paged stop
    refine ⟨fun some base => loaded some (exec_ldm_good hc notDbg hn some base),
      fun some usr sys => loaded (zero_append_ne some) (exec_ldmUser_good hc notDbg hn some usr sys), fun saved base => ?ldmRet,
      fun some => stored some (exec_stm_good hc hn some),
      fun some usr sys => stored some (exec_stmUser_good hc hn some usr sys)⟩
    obtain ⟨x, saved⟩ := Option.isSome_iff_exists.mp saved
    exact loaded (one_append_ne low) (exec_ldmRet_good hc notDbg hn saved base)

end Sys2Proof.Machine
end

section
/-! PROOF. The debugger's side, TCK by TCK: what the TAP controller captures, shifts and updates
(61_debug_and_jtag.md R831-R848). -/

namespace Sys2Proof.Machine

/-! The fields of the debug scan register (61_debug_and_jtag.md R842, R845, R846). -/

/-- A word and two bits between two single bits, as SELDCSR and DBGTX capture them. -/
theorem field_scan (a c : BitVec 1) (w : Word) (b : BitVec 2) :
    field (a ++ w ++ b ++ c : BitVec 36) 3 32 = w ∧ field (a ++ w ++ b ++ c : BitVec 36) 1 2 = b ∧
      bitAt (a ++ w ++ b ++ c : BitVec 36) 0 = c.getLsbD 0 := by
  refine ⟨BitVec.eq_of_getLsbD_eq fun i hi => ?_, BitVec.eq_of_getLsbD_eq fun i hi => ?_, ?_⟩
  · simp only [field, BitVec.getLsbD_extractLsb', BitVec.getLsbD_append, hi, decide_true, Bool.true_and]
    rw [if_neg (by omega), if_neg (by omega), if_pos (by omega)]
    congr 1
    omega
  · simp only [field, BitVec.getLsbD_extractLsb', BitVec.getLsbD_append, hi, decide_true, Bool.true_and]
    rw [if_neg (by omega), if_pos (by omega)]
    congr 1
    omega
  · rw [bitAt, BitVec.getLsbD_append, if_pos Nat.zero_lt_one]

theorem getLsbD_ofBool (b : Bool) : (BitVec.ofBool b).getLsbD 0 = b := by cases b <;> rfl

/-- One shift towards bit 0. -/
theorem bitAt_shiftIn (tdi : Bool) (w : BitVec 36) {k : Nat} (h : k < 36) :
    bitAt (shiftIn tdi w) k = if k = 35 then tdi else bitAt w (k + 1) := by
  rw [bitAt, shiftIn, BitVec.getLsbD_or, BitVec.getLsbD_ushiftRight, BitVec.getLsbD_shiftLeft]
  split
  case isTrue last =>
    subst last
    have out : w.getLsbD (1 + 35) = false := BitVec.getLsbD_of_ge w _ (by decide)
    rw [out]
    cases tdi <;> rfl
  case isFalse inner =>
    have low : k < 35 := by omega
    simp [low, bitAt, Nat.add_comm]

/-! One TCK (61_debug_and_jtag.md R832). -/

section
variable (s : State)

@[simp] theorem State.setJtag_core (j : Jtag) : (s.setJtag j).core = s.core := rfl

@[simp] theorem State.setJtag_cp14 (j : Jtag) : (s.setJtag j).cp14 = s.cp14 := rfl

@[simp] theorem State.setJtag_jtag (j : Jtag) : (s.setJtag j).jtag = j := rfl

@[simp] theorem State.countTck_core : s.countTck.core = s.core := rfl

@[simp] theorem State.countTck_cp14 : s.countTck.cp14 = s.cp14 := rfl

@[simp] theorem State.moveTap_core (tms : Bool) : (s.moveTap tms).core = s.core := rfl

@[simp] theorem State.moveTap_cp14 (tms : Bool) : (s.moveTap tms).cp14 = s.cp14 := rfl

/-- What is clocked is the debug scan register that was there. -/
@[simp] theorem State.clocked_dbgSr (tms : Bool) : (s.countTck.moveTap tms).jtag.dbgSr = s.jtag.dbgSr := rfl

theorem State.driveTdo_core : s.driveTdo.core = s.core := by unfold State.driveTdo; dsimp only; split <;> rfl

theorem State.driveTdo_cp14 : s.driveTdo.cp14 = s.cp14 := by unfold State.driveTdo; dsimp only; split <;> rfl

theorem State.driveTdo_pending : s.driveTdo.pending = s.pending := by unfold State.driveTdo; dsimp only; split <;> rfl

theorem State.driveTdo_jtag : s.driveTdo.jtag = { s.jtag with tdo := s.tdoValue } := by
  unfold State.driveTdo; dsimp only; split <;> rfl

end

/-- JTAG does nothing while TRST is asserted or in sleep (R831). -/
theorem State.tck_dead {s : State} (h : s.jtag.trst = true ∨ s.power = .sleep) (tms tdi : Bool) : s.tck tms tdi = .ok s := by
  have dead : s.jtagLive = false := by rcases h with h | h <;> simp [State.jtagLive, h]
  rw [State.tck, dead, if_neg Bool.false_ne_true]

/-- What a data register captures keeps the core and the state of the TAP controller. -/
theorem State.captureDr_kept (s : State) : s.captureDr.core = s.core ∧ s.captureDr.jtag.tap = s.jtag.tap := by
  unfold State.captureDr
  cases s.dataReg <;> exact ⟨rfl, rfl⟩

/-! What is captured (R834, R842, R845, R846). -/

section
variable {s : State}

/-- SELDCSR: the readable bits of DCSR, and 0b01 (R842). -/
theorem State.captureDr_dcsr (ir : s.jtag.ir = 0b01001) :
    field s.captureDr.jtag.dbgSr 3 32 &&& 0xC0DF003F = s.cp14.dcsr &&& 0xC0DF003F ∧ field s.captureDr.jtag.dbgSr 1 2 = 1 ∧
      s.captureDr.cp14 = s.cp14 := by
  have run : s.captureDr = s.captureDcsr := by rw [State.captureDr, State.dataReg, ir]; rfl
  obtain ⟨word, bits, -⟩ := field_scan (field (s.free 1) 0 1) (field (s.free 1) 1 1)
    (s.readMasked 0xC0DF003F s.cp14.dcsr).1 0b01
  rw [run]
  exact ⟨(congrArg (· &&& 0xC0DF003F) word).trans (merge_and_mask _ _ _), bits, rfl⟩

/-- DBGTX: TX and TR, which is cleared (R845, 92 D33). -/
theorem State.captureDr_dbgtx (ir : s.jtag.ir = 0b10000) :
    field s.captureDr.jtag.dbgSr 3 32 = s.cp14.tx ∧ bitAt s.captureDr.jtag.dbgSr 0 = bitAt s.cp14.txrxctrl 28 ∧
      s.captureDr.cp14 = { s.cp14 with txrxctrl := s.cp14.txrxctrl &&& 0xEFFFFFFF } := by
  have run : s.captureDr = s.captureTx := by rw [State.captureDr, State.dataReg, ir]; rfl
  obtain ⟨word, -, ready⟩ := field_scan (field (s.free 0) 0 1) (BitVec.ofBool (bitAt s.cp14.txrxctrl 28)) s.cp14.tx
    (field (s.free 0) 1 2)
  rw [run]
  refine ⟨word, ready.trans (getLsbD_ofBool _), ?_⟩
  rw [← show setBit 28 false s.cp14.txrxctrl = s.cp14.txrxctrl &&& 0xEFFFFFFF from setBit_false 28 _]
  rfl

/-- DBGRX: RR (R846). -/
theorem State.captureDr_dbgrx (ir : s.jtag.ir = 0b00010) :
    bitAt s.captureDr.jtag.dbgSr 0 = bitAt s.cp14.txrxctrl 31 ∧ s.captureDr.cp14 = s.cp14 := by
  have run : s.captureDr = s.captureRx := by rw [State.captureDr, State.dataReg, ir]; rfl
  rw [run]
  refine ⟨?_, rfl⟩
  show bitAt (field (s.free 0) 0 3 ++ s.free 1 ++ BitVec.ofBool (bitAt s.cp14.txrxctrl 31) : BitVec 36) 0 = _
  rw [bitAt, BitVec.getLsbD_append, if_pos Nat.zero_lt_one]
  exact getLsbD_ofBool _

/-- Bypass: 0. -/
theorem State.captureDr_bypass (ir : s.jtag.ir = 0b11111) : s.captureDr.jtag.bypass = 0 := by
  have run : s.captureDr = s.setJtag { s.jtag with bypass := 0 } := by rw [State.captureDr, State.dataReg, ir]; rfl
  rw [run]
  rfl

/-- The three instructions whose data register is the debug scan register shift it. -/
theorem State.shiftDr_dbgSr (ir : s.jtag.ir = 0b01001 ∨ s.jtag.ir = 0b10000 ∨ s.jtag.ir = 0b00010) (tdi : Bool) :
    s.shiftDr tdi = s.setJtag { s.jtag with dbgSr := shiftIn tdi s.jtag.dbgSr } ∧ s.dataOut = bitAt s.jtag.dbgSr 0 := by
  rcases ir with ir | ir | ir <;> rw [State.shiftDr, State.dataOut, State.dataReg, ir] <;> exact ⟨rfl, rfl⟩

end

/-! A TCK from each state (R832). -/

section
variable {s : State} (trst : s.jtag.trst = false) (awake : s.power ≠ .sleep)
include trst awake

theorem State.tck_live (tms tdi : Bool) : s.tck tms tdi =
    match ((s.countTck.tapAction tdi).moveTap tms).tapEnter with
    | .error r => .error r
    | .ok s' => .ok s'.driveTdo := by
  have live : s.jtagLive = true := by rw [State.jtagLive, trst, Bool.not_false, Bool.true_and, bne_iff_ne]; exact awake
  exact if_pos live

theorem State.tck_captureDr (tap : s.jtag.tap = .captureDr) (tms tdi : Bool) :
    s.tck tms tdi = .ok (s.countTck.captureDr.moveTap tms).driveTdo := by
  have act : s.countTck.tapAction tdi = s.countTck.captureDr := by
    rw [State.tapAction, show s.countTck.jtag.tap = .captureDr from tap]
  have moved : (s.countTck.captureDr.moveTap tms).jtag.tap = TapState.next tms .captureDr :=
    congrArg (TapState.next tms) (s.countTck.captureDr_kept.2.trans tap)
  have enter : (s.countTck.captureDr.moveTap tms).tapEnter = .ok (s.countTck.captureDr.moveTap tms) := by
    rw [State.tapEnter, moved]
    cases tms <;> rfl
  rw [State.tck_live trst awake, act, enter]

theorem State.tck_shiftDr (tap : s.jtag.tap = .shiftDr)
    (ir : s.jtag.ir = 0b01001 ∨ s.jtag.ir = 0b10000 ∨ s.jtag.ir = 0b00010) (tms tdi : Bool) :
    s.tck tms tdi = .ok ((s.countTck.shiftDr tdi).moveTap tms).driveTdo := by
  have act : s.countTck.tapAction tdi = s.countTck.shiftDr tdi := by
    rw [State.tapAction, show s.countTck.jtag.tap = .shiftDr from tap]
  have moved : ((s.countTck.shiftDr tdi).moveTap tms).jtag.tap = TapState.next tms .shiftDr := by
    rw [(State.shiftDr_dbgSr (s := s.countTck) ir tdi).1, ← tap]
    rfl
  have enter : ((s.countTck.shiftDr tdi).moveTap tms).tapEnter = .ok ((s.countTck.shiftDr tdi).moveTap tms) := by
    rw [State.tapEnter, moved]
    cases tms <;> rfl
  rw [State.tck_live trst awake, act, enter]

/-- The TCK that enters Update-DR, Update-IR or Test-Logic-Reset. -/
theorem State.tck_enter {tap : TapState} (state : s.jtag.tap = tap) (quiet : tap = .exit1Dr ∨ tap = .exit1Ir ∨ tap = .selectIr)
    (tdi : Bool) : s.tck true tdi =
      match (s.countTck.moveTap true).tapEnter with
      | .error r => .error r
      | .ok s' => .ok s'.driveTdo := by
  have act : s.countTck.tapAction tdi = s.countTck := by
    rw [State.tapAction, show s.countTck.jtag.tap = tap from state]
    rcases quiet with rfl | rfl | rfl <;> rfl
  rw [State.tck_live trst awake, act]

/-- In Update-DR the selected register reaches its parallel output. -/
theorem State.tck_updateDr (tap : s.jtag.tap = .exit1Dr) (tdi : Bool) : s.tck true tdi =
    match (s.countTck.moveTap true).updateDr with
    | .error r => .error r
    | .ok s' => .ok s'.driveTdo := by
  have enter : (s.countTck.moveTap true).tapEnter = (s.countTck.moveTap true).updateDr := by
    rw [State.tapEnter, show (s.countTck.moveTap true).jtag.tap = .updateDr from congrArg (TapState.next true) tap]
  rw [State.tck_enter trst awake tap (.inl rfl), enter]

end

/-! The instruction register (R833, R835). -/

/-- An instruction is latched, but for one that leaves LDIC. -/
theorem State.latchIr_ok {s : State} (notLdic : s.jtag.ir ≠ 0b00111) (ir : BitVec 5) :
    s.latchIr ir = .ok (s.setJtag { s.jtag with ir := ir }) := by
  have other : (s.jtag.ir == ldicInstr) = false := beq_eq_false_iff_ne.mpr notLdic
  rw [State.latchIr, other, Bool.false_and, Bool.false_and, if_neg Bool.false_ne_true]

/-! What is updated (R842-R847). -/

section
variable {s : State}

theorem updateDr_dcsr (ir : s.jtag.ir = 0b01001) : s.updateDr = s.updateDcsr := by
  rw [State.updateDr, State.dataReg, ir]; rfl

theorem updateDr_dbgtx (ir : s.jtag.ir = 0b10000) : s.updateDr = .ok s.updateTx := by
  rw [State.updateDr, State.dataReg, ir]; rfl

theorem updateDr_dbgrx (ir : s.jtag.ir = 0b00010) : s.updateDr = .ok s.updateRx := by
  rw [State.updateDr, State.dataReg, ir]; rfl

end

/-- SELDCSR, where the hold of reset is no error (R842-R844). -/
theorem State.updateDcsr_ok {s : State}
    (may : bitAt s.jtag.dbgSr 1 = false ∨ s.jtag.resetPin = true ∨ s.jtag.holdRst = true) : ∃ u, s.updateDcsr = .ok u ∧
      u.core = s.core ∧ u.jtag.holdRst = bitAt s.jtag.dbgSr 1 ∧
      u.pending = { s.pending with extBreak := s.pending.extBreak || bitAt s.jtag.dbgSr 2 } ∧
      u.cp14 = { s.cp14 with dcsr := (s.cp14.dcsr &&& 0xBF20FFFF) ||| (field s.jtag.dbgSr 3 32 &&& 0x40DF0000) } := by
  have allowed : (bitAt s.jtag.dbgSr 1 && !s.jtag.resetPin && !s.jtag.holdRst) = false := by
    rcases may with clear | pin | held
    · rw [clear, Bool.false_and, Bool.false_and]
    · rw [pin, Bool.not_true, Bool.and_false, Bool.false_and]
    · rw [held, Bool.not_true, Bool.and_false]
  exact ⟨_, if_neg (Bool.eq_false_iff.mp allowed), rfl, rfl, rfl, rfl⟩

/-- The hold of reset without the reset pin is refused (93 U48). -/
theorem State.updateDcsr_error {s : State} (hold : bitAt s.jtag.dbgSr 1 = true) (pin : s.jtag.resetPin = false)
    (free : s.jtag.holdRst = false) : s.updateDcsr = .error .holdWithoutReset := by
  refine if_pos ?_
  rw [hold, pin, free]
  rfl

theorem bitAt_setBit_same {k : Nat} (b : Bool) (w : Word) (hk : k < 32) : bitAt (setBit k b w) k = b := by
  rw [bitAt_setBit b w hk hk, if_pos rfl]

theorem bitAt_setBit_other {k i : Nat} (b : Bool) (w : Word) (hk : k < 32) (hi : i < 32) (h : i ≠ k) :
    bitAt (setBit k b w) i = bitAt w i := by
  rw [bitAt_setBit b w hk hi, if_neg h]

/-- The write logic of RX (R847, 92 D36). -/
theorem rxWrite_bits (sr : BitVec 36) (c : Cp14) :
    rxWrite sr c = { c with rx := (rxWrite sr c).rx, txrxctrl := (rxWrite sr c).txrxctrl } ∧
      (rxWrite sr c).rx = (if bitAt sr 35 then field sr 3 32 else c.rx) ∧
      bitAt (rxWrite sr c).txrxctrl 31 = (bitAt sr 35 || (bitAt c.txrxctrl 31 && !bitAt sr 1)) ∧
      bitAt (rxWrite sr c).txrxctrl 30 = (bitAt c.txrxctrl 30 || (bitAt sr 35 && bitAt c.txrxctrl 31 && !bitAt sr 1)) ∧
      bitAt (rxWrite sr c).txrxctrl 29 = bitAt sr 2 := by
  obtain ⟨t, ht⟩ : ∃ t, t = if bitAt sr 1 then setBit 31 false (setBit 29 (bitAt sr 2) c.txrxctrl)
    else setBit 29 (bitAt sr 2) c.txrxctrl := ⟨_, rfl⟩
  have others {k : Nat} (hk : k < 31) : bitAt t k = bitAt (setBit 29 (bitAt sr 2) c.txrxctrl) k := by
    rw [ht]
    split
    · exact bitAt_setBit_other _ _ (by decide) (by omega) (by omega)
    · rfl
  have download : bitAt t 29 = bitAt sr 2 := (others (by decide)).trans (bitAt_setBit_same _ _ (by decide))
  have overflow : bitAt t 30 = bitAt c.txrxctrl 30 :=
    (others (by decide)).trans (bitAt_setBit_other _ _ (by decide) (by decide) (by decide))
  have valid : bitAt t 31 = (bitAt c.txrxctrl 31 && !bitAt sr 1) := by
    rw [ht]
    split
    case isTrue clear => rw [bitAt_setBit_same _ _ (by decide), clear, Bool.not_true, Bool.and_false]
    case isFalse keep =>
      rw [bitAt_setBit_other _ _ (by decide) (by decide) (by decide), Bool.eq_false_iff.mpr keep, Bool.not_false, Bool.and_true]
  have run : rxWrite sr c = if bitAt sr 35 then
      { c with rx := field sr 3 32, txrxctrl := setBit 31 true (if bitAt t 31 then setBit 30 true t else t) }
    else { c with txrxctrl := t } := by rw [ht]; rfl
  cases new : bitAt sr 35 with
  | false =>
    rw [run, new, if_neg Bool.false_ne_true, Bool.false_and, Bool.false_and, Bool.or_false]
    exact ⟨rfl, rfl, valid, overflow, download⟩
  | true =>
    rw [run, new, if_pos rfl, Bool.true_and, ← valid, Bool.true_or]
    refine ⟨rfl, rfl, bitAt_setBit_same _ _ (by decide), ?_, ?_⟩
    · rw [bitAt_setBit_other _ _ (by decide) (by decide) (by decide), ← overflow]
      split
      case isTrue full => rw [bitAt_setBit_same _ _ (by decide), full, Bool.or_true]
      case isFalse free => rw [Bool.eq_false_iff.mpr free, Bool.or_false]
    · rw [bitAt_setBit_other _ _ (by decide) (by decide) (by decide), ← download]
      split
      case isTrue full => exact bitAt_setBit_other _ _ (by decide) (by decide) (by decide)
      case isFalse free => rfl

/-! What TRST and Test-Logic-Reset leave (R831, R835, R848). -/

/-- The bits of DBG_REG that TRST clears. -/
theorem bitAt_trstReg (w : Word) : bitAt (0#1 ++ w ++ 0#2 : BitVec 35) 0 = false ∧
    bitAt (0#1 ++ w ++ 0#2 : BitVec 35) 1 = false ∧ bitAt (0#1 ++ w ++ 0#2 : BitVec 35) 34 = false := by
  simp only [bitAt, BitVec.getLsbD_append]
  exact ⟨rfl, rfl, rfl⟩

/-- A cold reset invalidates the instruction caches only (R867). -/
theorem State.coldReset_kept (s : State) :
    (if s.jtag.resetPin then s.clearIcaches else s).core = s.core ∧
      (if s.jtag.resetPin then s.clearIcaches else s).jtag = s.jtag ∧
      (if s.jtag.resetPin then s.clearIcaches else s).pending = s.pending ∧
      (if s.jtag.resetPin then s.clearIcaches else s).cp14 = s.cp14 := by
  split <;> exact ⟨rfl, rfl, rfl, rfl⟩

/-- TRST (R831, R835, R848, R769). -/
theorem State.assertTrst_ok {s : State} (notLdic : s.jtag.ir ≠ 0b00111) : ∃ t, s.setTrst true = .ok t ∧ t.core = s.core ∧
    t.jtag.tap = .testLogicReset ∧ t.jtag.ir = 0b11110 ∧ t.jtag.holdRst = false ∧ t.pending.extBreak = false ∧
    bitAt t.jtag.dbgReg 0 = false ∧ bitAt t.jtag.dbgReg 1 = false ∧ bitAt t.jtag.dbgReg 34 = false ∧
    t.cp14 = { s.cp14 with dcsr := s.cp14.dcsr &&& 0xBF20FFFF } := by
  obtain ⟨low, next, top⟩ := bitAt_trstReg (s.free 0)
  have run : s.setTrst true = s.assertTrst := rfl
  rw [run, State.assertTrst, State.latchIr_ok notLdic]
  refine ⟨_, rfl, ?_⟩
  obtain ⟨core, jtag, pending, cp14⟩ := State.coldReset_kept _
  rw [core, jtag, pending, cp14]
  exact ⟨rfl, rfl, rfl, rfl, rfl, low, next, top, rfl⟩

end Sys2Proof.Machine
end

section
/-! PROOF. MCR to PWRMODE and DCSR, MRC of TBREG, and the debugger's side together (60_exceptions.md R720,
61_debug_and_jtag.md R769, R805, R831-R848). -/

namespace Sys2Proof.Machine

/-! What an instruction that completes leaves of the system. -/

theorem SystemIs.cp14 {u t : State} (h : SystemIs u t) : t.cp14 = u.cp14 :=
  (congrArg State.cp14 h).trans (State.traceInstr_cp14 _)

theorem SystemIs.freeCtr {u t : State} (h : SystemIs u t) : t.freeCtr = u.freeCtr :=
  (congrArg State.freeCtr h).trans (State.traceInstr_freeCtr _)

theorem SystemIs.traceOn {u t : State} (h : SystemIs u t) : t.traceOn = u.traceOn := by
  rw [State.traceOn, State.debugOn, h.cp14]
  rfl

/-! The power modes (60_exceptions.md R720). -/

section
variable {s : State} {v : Word}

theorem State.writePwrmode_none (h : field v 0 2 = 0) : s.writePwrmode v = .ok s := by rw [State.writePwrmode, h]; rfl

theorem State.writePwrmode_idle (h : field v 0 2 = 1) : s.writePwrmode v = .ok (s.enterPowerMode .idle) := by
  rw [State.writePwrmode, h]
  rfl

theorem State.writePwrmode_reserved (h : field v 0 2 = 2) : s.writePwrmode v = .error .reservedPowerMode := by
  rw [State.writePwrmode, h]
  rfl

theorem State.writePwrmode_sleep (h : field v 0 2 = 3) : s.writePwrmode v = .ok s.enterSleep := by
  rw [State.writePwrmode, h]
  rfl

/-! DCSR (61_debug_and_jtag.md R769). -/

theorem State.writeDcsr_locked (halt : s.haltMode = true) (outside : s.sds = false) : s.writeDcsr v = s := by
  refine if_pos ?_
  rw [State.debugLocked, halt, outside]
  rfl

/-- A write of DCSR that is not locked: its bits, and the count of the trace buffer where it is enabled (log entry 35). -/
theorem State.writeDcsr_open (unlocked : s.haltMode = false ∨ s.sds = true) : ∃ n k, s.writeDcsr v =
      { s with
        cp14 := { s.cp14 with dcsr := merge 0x8000003F s.cp14.dcsr v }
        trace := { s.trace with sinceCkpt := n, cnt := k } } ∧
      if s.traceOn = false ∧ (s.writeDcsr v).traceOn = true then n = none ∧ k = 0
      else n = s.trace.sinceCkpt ∧ k = s.trace.cnt := by
  have free : s.debugLocked = false := by rcases unlocked with h | h <;> simp [State.debugLocked, h]
  have run : s.writeDcsr v = _ := if_neg (Bool.eq_false_iff.mp free)
  obtain ⟨u, hu⟩ : ∃ u, u = s.setCp14 { s.cp14 with dcsr := merge 0x8000003F s.cp14.dcsr v } := ⟨_, rfl⟩
  dsimp only at run
  rw [← hu] at run
  by_cases starts : s.traceOn = false ∧ u.traceOn = true
  case pos =>
    obtain ⟨off, on⟩ := starts
    have enabled : (!s.traceOn && u.traceOn) = true := by rw [off, on]; rfl
    rw [enabled, if_pos rfl] at run
    refine ⟨none, 0, by rw [run, hu]; rfl, ?_⟩
    rw [if_pos ⟨off, by rw [run]; exact on⟩]
    exact ⟨rfl, rfl⟩
  case neg =>
    have kept : (!s.traceOn && u.traceOn) = false := by simpa using starts
    rw [kept, if_neg Bool.false_ne_true] at run
    refine ⟨s.trace.sinceCkpt, s.trace.cnt, by rw [run, hu]; rfl, ?_⟩
    rw [run, if_neg starts]
    exact ⟨rfl, rfl⟩

/-- The bits that software writes. -/
theorem dcsr_bits (w v : Word) :
    field (merge 0x8000003F w v) 0 6 = field v 0 6 ∧ bitAt (merge 0x8000003F w v) 31 = bitAt v 31 ∧
      ∀ k, 6 ≤ k → k < 31 → bitAt (merge 0x8000003F w v) k = bitAt w k := by
  have low : ∀ i < 6, bitAt (0x8000003F : Word) (0 + i) = true := by decide
  have middle : ∀ k < 31, 6 ≤ k → bitAt (0x8000003F : Word) k = false := by decide
  refine ⟨field_congr fun i hi => ?_, ?_, fun k hl hk => ?_⟩
  · rw [bitAt_merge, low i hi, if_pos rfl]
  · rw [bitAt_merge, if_pos (by decide)]
  · rw [bitAt_merge, middle k hk hl, if_neg Bool.false_ne_true]

end

section
variable {s : State} {c : Cond} {rd : Reg} (hc : s.passed c = true) (hp : s.mode ≠ .usr) (hd : rd ≠ 15) (hn : s.hasNext)
include hc hp hd hn

/-- An MCR that writes CP14 and leaves the core registers. -/
theorem CompletesAs.mcr_cp14 {n : BitVec 4} {u : State} (run : s.writeCp14 n (s.reg rd) = .ok u) (core : u.core = s.core) :
    CompletesAs (exec (.mcr c 0 n rd 14 0 0) s) s u := by
  rw [exec_mcr_cp14 hc hp hd, run]
  exact .advance hn (by rw [core]) (by rw [State.thumb, State.thumb, core])

/-- MRC of TBREG with the trace buffer off (61_debug_and_jtag.md R805). -/
theorem exec_mrc_tbreg (off : s.traceOn = false) :
    ∃ t, exec (.mrc c 0 11 rd 14 0 0) s = .next t ∧
      WritesBank s t s.mode [(rd, s.trace.buf[s.trace.p.toFin].zeroExtend 32)] ∧
      t.core = { s.core with pc := s.nextPc, regs := t.core.regs } ∧ t.trace.p = s.trace.p + 1 ∧
      t.trace.buf = s.trace.buf.set s.trace.p.toFin 0 ∧ t = { s with core := t.core, trace := t.trace } := by
  have read : s.readTbreg = _ := if_neg (Bool.eq_false_iff.mp off)
  rw [exec_mrc_cp14 hc hp, show s.readCp14 11 = .ok s.readTbreg from rfl, read, finishMrc, State.writeMrc, if_neg hd,
    State.setReg_of_ne _ hd]
  exact ⟨_, State.advance_silent hn off rfl rfl rfl, .one rfl, rfl, rfl, rfl, rfl⟩

end

/-! What a TCK from each state leaves (61_debug_and_jtag.md R832). -/

section
variable {s : State} (trst : s.jtag.trst = false) (awake : s.power ≠ .sleep)
include trst awake

/-- Three data registers shift the debug scan register (R832, R836). -/
theorem State.tck_shiftDr_after (tap : s.jtag.tap = .shiftDr)
    (ir : s.jtag.ir = 0b01001 ∨ s.jtag.ir = 0b10000 ∨ s.jtag.ir = 0b00010) (tms tdi : Bool) :
    ∃ t, s.tck tms tdi = .ok t ∧ t.core = s.core ∧ t.cp14 = s.cp14 ∧
      t.jtag.tdo = (if tms then none else some (bitAt t.jtag.dbgSr 0)) ∧
      ∀ k < 36, bitAt t.jtag.dbgSr k = if k = 35 then tdi else bitAt s.jtag.dbgSr (k + 1) := by
  obtain ⟨u, hu⟩ : ∃ u, u = (s.countTck.shiftDr tdi).moveTap tms := ⟨_, rfl⟩
  have shifted := hu
  rw [(State.shiftDr_dbgSr (s := s.countTck) ir tdi).1] at shifted
  have run : s.tck tms tdi = .ok u.driveTdo := by rw [hu]; exact State.tck_shiftDr trst awake tap ir tms tdi
  have out : u.dataOut = bitAt u.jtag.dbgSr 0 := (State.shiftDr_dbgSr (s := u) (by rw [shifted]; exact ir) tdi).2
  have state : u.jtag.tap = TapState.next tms .shiftDr := by
    rw [shifted]
    exact congrArg (TapState.next tms) tap
  refine ⟨_, run, ?_⟩
  rw [State.driveTdo_core, State.driveTdo_cp14, State.driveTdo_jtag]
  refine ⟨by simp only [shifted, State.moveTap_core, State.setJtag_core, State.countTck_core],
    by simp only [shifted, State.moveTap_cp14, State.setJtag_cp14, State.countTck_cp14], ?_, fun k hk => ?_⟩
  · show u.tdoValue = _
    rw [State.tdoValue, state, out]
    cases tms <;> rfl
  · show bitAt u.jtag.dbgSr k = _
    rw [shifted]
    exact bitAt_shiftIn tdi s.jtag.dbgSr hk

/-- Update-DR with SELDCSR (R842-R844). -/
theorem State.tck_updateDcsr (tap : s.jtag.tap = .exit1Dr) (ir : s.jtag.ir = 0b01001) (tdi : Bool)
    (may : bitAt s.jtag.dbgSr 1 = false ∨ s.jtag.resetPin = true ∨ s.jtag.holdRst = true) :
    ∃ t, s.tck true tdi = .ok t ∧ t.core = s.core ∧ t.jtag.holdRst = bitAt s.jtag.dbgSr 1 ∧
      t.pending = { s.pending with extBreak := s.pending.extBreak || bitAt s.jtag.dbgSr 2 } ∧
      t.cp14 = { s.cp14 with dcsr := (s.cp14.dcsr &&& 0xBF20FFFF) ||| (field s.jtag.dbgSr 3 32 &&& 0x40DF0000) } := by
  obtain ⟨u, run, core, held, pending, cp14⟩ := State.updateDcsr_ok (s := s.countTck.moveTap true) may
  have selected := updateDr_dcsr (s := s.countTck.moveTap true) ir
  refine ⟨u.driveTdo, by rw [State.tck_updateDr trst awake tap, selected, run], ?_⟩
  rw [State.driveTdo_core, State.driveTdo_cp14, State.driveTdo_jtag, State.driveTdo_pending]
  exact ⟨core, held, pending, cp14⟩

theorem State.tck_updateDcsr_error (tap : s.jtag.tap = .exit1Dr) (ir : s.jtag.ir = 0b01001) (tdi : Bool)
    (hold : bitAt s.jtag.dbgSr 1 = true) (pin : s.jtag.resetPin = false) (free : s.jtag.holdRst = false) :
    s.tck true tdi = .error .holdWithoutReset := by
  have selected := updateDr_dcsr (s := s.countTck.moveTap true) ir
  rw [State.tck_updateDr trst awake tap, selected, State.updateDcsr_error (s := s.countTck.moveTap true) hold pin free]

/-- Update-DR with DBGTX (R845). -/
theorem State.tck_updateTx (tap : s.jtag.tap = .exit1Dr) (ir : s.jtag.ir = 0b10000) (tdi : Bool) :
    ∃ t, s.tck true tdi = .ok t ∧ t.core = s.core ∧ t.cp14 = s.cp14 := by
  have selected := updateDr_dbgtx (s := s.countTck.moveTap true) ir
  refine ⟨(s.countTck.moveTap true).updateTx.driveTdo, by rw [State.tck_updateDr trst awake tap, selected], ?_⟩
  simp only [State.driveTdo_core, State.driveTdo_cp14, State.updateTx, State.setJtag_core, State.setJtag_cp14, State.moveTap_core,
    State.moveTap_cp14, State.countTck_core, State.countTck_cp14, and_self]

/-- Update-DR with DBGRX (R846, R847). -/
theorem State.tck_updateRx (tap : s.jtag.tap = .exit1Dr) (ir : s.jtag.ir = 0b00010) (tdi : Bool) :
    ∃ t, s.tck true tdi = .ok t ∧ t.core = s.core ∧ t.cp14 = rxWrite s.jtag.dbgSr s.cp14 := by
  have selected := updateDr_dbgrx (s := s.countTck.moveTap true) ir
  refine ⟨(s.countTck.moveTap true).updateRx.driveTdo, by rw [State.tck_updateDr trst awake tap, selected], ?_⟩
  simp only [State.driveTdo_core, State.driveTdo_cp14, State.updateRx, State.setCp14_core, State.setCp14_cp14,
    State.setJtag_core, State.moveTap_core, State.moveTap_cp14, State.countTck_core, State.countTck_cp14, State.clocked_dbgSr,
    and_self]

/-- A TCK that latches an instruction (R833, R835). -/
theorem State.tck_latchIr {tap : TapState} {ir : BitVec 5} (state : s.jtag.tap = tap)
    (quiet : tap = .exit1Dr ∨ tap = .exit1Ir ∨ tap = .selectIr) (notLdic : s.jtag.ir ≠ 0b00111)
    (enter : (s.countTck.moveTap true).tapEnter = (s.countTck.moveTap true).latchIr ir) (tdi : Bool) :
    ∃ t, s.tck true tdi = .ok t ∧ t.core = s.core ∧ t.jtag.ir = ir := by
  have latched := State.latchIr_ok (s := s.countTck.moveTap true) notLdic ir
  refine ⟨_, by rw [State.tck_enter trst awake state quiet, enter, latched], ?_⟩
  simp only [State.driveTdo_core, State.driveTdo_jtag, State.setJtag_core, State.setJtag_jtag, State.moveTap_core,
    State.countTck_core, and_self]

theorem State.tck_updateIr (tap : s.jtag.tap = .exit1Ir) (notLdic : s.jtag.ir ≠ 0b00111) (tdi : Bool) :
    ∃ t, s.tck true tdi = .ok t ∧ t.core = s.core ∧ t.jtag.ir = s.jtag.irShift := by
  refine State.tck_latchIr trst awake tap (.inr (.inl rfl)) notLdic ?_ tdi
  rw [State.tapEnter, show (s.countTck.moveTap true).jtag.tap = .updateIr from congrArg (TapState.next true) tap]
  rfl

theorem State.tck_testLogicReset (tap : s.jtag.tap = .selectIr) (notLdic : s.jtag.ir ≠ 0b00111) (tdi : Bool) :
    ∃ t, s.tck true tdi = .ok t ∧ t.core = s.core ∧ t.jtag.ir = 0b11110 := by
  refine State.tck_latchIr trst awake tap (.inr (.inr rfl)) notLdic ?_ tdi
  rw [State.tapEnter, show (s.countTck.moveTap true).jtag.tap = .testLogicReset from congrArg (TapState.next true) tap]
  rfl

end

/-- Settles O48: the writes of the two registers and the read of the third by their cases, and each TCK by the state of the
TAP controller. -/
theorem powerAndDebugRegisters : Obligations.PowerAndDebugRegisters := by
  refine ⟨fun s c rd hc hp hd hn => ?registers, fun x => ?reset, fun s tms tdi dead => State.tck_dead dead tms tdi,
    fun s tms tdi trst awake => ?clocked⟩
  case reset => cases x <;> rfl
  case registers =>
    intro v write moves
    have completes {n : BitVec 4} {u : State} (run : s.writeCp14 n v = .ok u) (core : u.core = s.core) :
        CompletesAs (write n) s u := .mcr_cp14 hc hp hd hn run core
    refine ⟨fun h => completes (State.writePwrmode_none h) rfl, fun h => ?idle, fun h => ?reserved, fun h => ?sleep,
      fun unlocked => ?dcsr, fun halt outside => ?locked, exec_mrc_tbreg hc hp hd hn⟩
    case idle =>
      obtain ⟨t, run, core, system⟩ := completes (n := 7) (u := s.enterPowerMode .idle) (State.writePwrmode_idle h) rfl
      refine ⟨t, run, core, ?_⟩
      rw [system.cp14, system.freeCtr]
      exact system
    case reserved =>
      show exec _ s = _
      rw [exec_mcr_cp14 hc hp hd, show s.writeCp14 7 (s.reg rd) = .error .reservedPowerMode from State.writePwrmode_reserved h]
      rfl
    case sleep => exact ⟨s.enterSleep, completes (State.writePwrmode_sleep h) rfl, rfl, rfl, rfl, rfl, rfl⟩
    case locked => exact completes (congrArg Except.ok (State.writeDcsr_locked halt outside)) rfl
    case dcsr =>
      obtain ⟨n, k, written, counts⟩ := State.writeDcsr_open (v := v) unlocked
      obtain ⟨t, run, core, system⟩ := completes (n := 10) rfl (by rw [written])
      rw [← system.traceOn] at counts
      rw [written] at core system
      have dcsr : t.cp14.dcsr = merge 0x8000003F s.cp14.dcsr v := congrArg Cp14.dcsr system.cp14
      obtain ⟨low, top, middle⟩ := dcsr_bits s.cp14.dcsr v
      rw [← dcsr] at low top middle system
      exact ⟨t, n, k, run, core, low, top, middle, counts, system⟩
  case clocked =>
    intro ir sr old
    refine ⟨fun tap => ?capture, fun tap scan => State.tck_shiftDr_after trst awake tap scan tms tdi, fun tap => ⟨fun h may => ?dcsr,
      fun h hold pin free => ?hold, fun h => State.tck_updateTx trst awake tap h tdi, fun h => ?rx⟩,
      fun notLdic => ⟨fun tap => State.tck_updateIr trst awake tap notLdic tdi,
        fun tap => State.tck_testLogicReset trst awake tap notLdic tdi, State.assertTrst_ok notLdic⟩⟩
    case capture =>
      obtain ⟨core, state⟩ := s.countTck.captureDr_kept
      refine ⟨_, State.tck_captureDr trst awake tap tms tdi, ?_⟩
      rw [State.driveTdo_core, State.driveTdo_cp14, State.driveTdo_jtag]
      refine ⟨core, ?_, fun h => State.captureDr_dcsr (s := s.countTck) h, fun h => State.captureDr_dbgtx (s := s.countTck) h,
        fun h => State.captureDr_dbgrx (s := s.countTck) h, fun h => State.captureDr_bypass (s := s.countTck) h⟩
      exact congrArg (TapState.next tms) (state.trans tap)
    case dcsr => exact State.tck_updateDcsr trst awake tap h tdi may
    case hold => exact State.tck_updateDcsr_error trst awake tap h tdi hold pin free
    case rx =>
      obtain ⟨t, run, core, cp14⟩ := State.tck_updateRx trst awake tap h tdi
      refine ⟨t, run, core, ?_⟩
      rw [cp14]
      exact rxWrite_bits sr s.cp14

end Sys2Proof.Machine
end
